-- ==== Sys2Proof/Config.lean ====
section
/-! DEFINITION. What one device fixes, and the free values: constants without a body, for what the spec leaves
open. Nothing can evaluate one, so a theorem about the model holds whatever they are. -/
namespace Sys2Proof.Config

/-- The k-th open choice of a run, as a number: a landing cycle inside its window (R31), a choice between an old and a
new value (R31, R33, R235), the moment of an untimed event. `State.choices` is the counter. Log entry 3. -/
opaque choice : Nat → Nat

/-- The k-th open value of a run, as bits (a value the spec leaves open). Log entry 3. -/
opaque openBits : Nat → BitVec 4096

/-- A field of a trap record (0 ADDR, 1 DETAIL0, 2 DETAIL1) for which the spec states no value under that cause. Log entry
5. -/
opaque unstated : BitVec 8 → Nat → BitVec 64

/-- The counter block that the k-th SHA-256 of the seed's expansion adds to the seed (R376). Log entry 20. -/
opaque seedCounter : Nat → List (BitVec 8)

/-- Akmund's certificate over the identity public key (R376). Log entry 20. -/
opaque certificate : List (BitVec 8)

/-- Device time in nanoseconds in a cycle while PTPSRC selects a source of discipline (R16, R371). Log entry 88. -/
opaque disciplinedNs : BitVec 3 → Nat → Nat

/-- The byte read at a scratchpad address at or past the scratchpad's end, which only an FP32 block scale that begins inside may
reach (R142). Log entry 101. -/
opaque beyondSpad : Nat → BitVec 8

end Sys2Proof.Config
end

