-- ==== Sys2Proof/Word.lean ====
section
/-! DEFINITION. The word types of the Lemvar M4 (spec/00_scope.md R2, spec/05 R58, spec/09 R134). -/
namespace Sys2Proof

/-- One byte of a memory. -/
abbrev Byte := BitVec 8
/-- One x register, or one special register (Table 5.1, Table 5.2). -/
abbrev Word := BitVec 64
/-- One mask register: bit i governs lane i (R58, R135). -/
abbrev LaneMask := BitVec 128
/-- One vector register: lane i in bits [32i+31:32i] (R134). -/
abbrev VecReg := BitVec 4096
/-- One stream register: the 64-byte descriptor of Table 9.1, byte 0 in bits [7:0] (R136). -/
abbrev ZDesc := BitVec 512
/-- One 128-byte line of global memory, byte 0 in bits [7:0]. -/
abbrev LineData := BitVec 1024
/-- A list of bytes, lowest address first. -/
abbrev Bytes := List (BitVec 8)

end Sys2Proof
end

