-- ==== Sys2Proof/Syntax.lean ====
section
/-! DEFINITION. The operations and events of the part: one constructor of `Instr` for each row of
spec/opcode_table.json, with the payload formats of spec/03, 06, 13, 17, 22 and 24. -/
namespace Sys2Proof

/-- The six slots of a bundle, in PRES order from the highest bit down (R17, R18). -/
inductive Slot where
  | s | v0 | v1 | m | c0 | c1
  deriving DecidableEq, Repr

/-- A payload's predicate number and sense bit (R20). -/
structure Guard where
  pred : BitVec 4
  sense : Bool
  deriving DecidableEq, Repr

/-- Format RR (Table 6.1). -/
structure FmtRR where
  g : Guard
  d : BitVec 6
  a : BitVec 6
  b : BitVec 6
  deriving DecidableEq, Repr

/-- Format RI (Table 6.2). -/
structure FmtRI where
  g : Guard
  d : BitVec 6
  a : BitVec 6
  imm : BitVec 8
  deriving DecidableEq, Repr

/-- Format LI (Table 6.3). -/
structure FmtLI where
  g : Guard
  d : BitVec 6
  imm : BitVec 14
  deriving DecidableEq, Repr

/-- Format PL (Table 6.4). -/
structure FmtPL where
  g : Guard
  d : BitVec 6
  a : BitVec 6
  b : BitVec 6
  na : Bool
  nb : Bool
  deriving DecidableEq, Repr

/-- Format BO (Table 6.5). -/
structure FmtBO where
  g : Guard
  off : BitVec 20
  deriving DecidableEq, Repr

/-- Format LP (Table 6.6). -/
structure FmtLP where
  g : Guard
  drc : BitVec 6
  len : BitVec 6
  cnt : BitVec 8
  deriving DecidableEq, Repr

/-- Format SR as GETS uses it (Table 6.7). -/
structure FmtSG where
  g : Guard
  d : BitVec 6
  num : BitVec 10
  deriving DecidableEq, Repr

/-- Format SR as SETS and SETSI use it (Table 6.7). -/
structure FmtSR where
  g : Guard
  num : BitVec 10
  val : BitVec 10
  deriving DecidableEq, Repr

/-- Format WV (Table 6.8). -/
structure FmtWV where
  g : Guard
  d : BitVec 6
  a : BitVec 6
  b : BitVec 6
  all : Bool
  deriving DecidableEq, Repr

/-- Format K (Table 6.9). -/
structure FmtK where
  g : Guard
  d : BitVec 6
  a : BitVec 6
  k : BitVec 4
  deriving DecidableEq, Repr

/-- Format TC (Table 6.10). -/
structure FmtTC where
  g : Guard
  code : BitVec 16
  deriving DecidableEq, Repr

/-- Format GM (Table 22.1). -/
structure FmtGM where
  g : Guard
  d : BitVec 6
  a : BitVec 6
  off : BitVec 8
  deriving DecidableEq, Repr

/-- Format GA (Table 22.2). -/
structure FmtGA where
  g : Guard
  d : BitVec 6
  a : BitVec 6
  b : BitVec 6
  sz : Bool
  deriving DecidableEq, Repr

/-- Format GF (Table 22.3). -/
structure FmtGF where
  g : Guard
  scope : BitVec 4
  deriving DecidableEq, Repr

/-- Format FW (Table 24.6). -/
structure FmtFW where
  g : Guard
  d : BitVec 6
  a : BitVec 6
  b : BitVec 6
  sub : BitVec 2
  deriving DecidableEq, Repr

/-- The V payload (Table 3.3). -/
structure VOp where
  g : Guard
  d : BitVec 6
  a : BitVec 7
  b : BitVec 7
  c : BitVec 7
  mask : BitVec 3
  ty : BitVec 3
  rm : BitVec 2
  ds : Bool
  imm : BitVec 16
  deriving DecidableEq, Repr

/-- Format MP with the IN, OUT, REV and OFMT fields of Table 3.4 (Table 13.2). -/
structure FmtMP where
  g : Guard
  inp : BitVec 7
  out : BitVec 7
  rev : Bool
  ofmt : BitVec 2
  deriving DecidableEq, Repr

/-- Format GR (Table 13.3). -/
structure FmtGR where
  g : Guard
  inp : BitVec 7
  out : BitVec 7
  rev : Bool
  ofmt : BitVec 2
  gin : BitVec 7
  gout : BitVec 7
  deriving DecidableEq, Repr

/-- Format PL of the M slot (Table 13.4). -/
structure FmtMPL where
  g : Guard
  addr : BitVec 22
  nm1 : BitVec 6
  k0 : BitVec 6
  clr : Bool
  deriving DecidableEq, Repr

/-- Format LS (Table 13.5). -/
structure FmtLS where
  g : Guard
  addr : BitVec 22
  count : BitVec 14
  deriving DecidableEq, Repr

/-- Format AD (Table 13.6). -/
structure FmtAD where
  g : Guard
  addr : BitVec 22
  deriving DecidableEq, Repr

/-- Format NT (Table 13.7). -/
structure FmtNT where
  g : Guard
  dvte : Bool
  tol : BitVec 32
  deriving DecidableEq, Repr

/-- Format FL (Table 13.8). -/
structure FmtFL where
  g : Guard
  d : BitVec 6
  fl : BitVec 4
  deriving DecidableEq, Repr

/-- Format T (Table 17.2). -/
structure FmtT where
  g : Guard
  ch : BitVec 3
  tid : BitVec 12
  xb : BitVec 6
  spa : BitVec 22
  xa : BitVec 6
  msk : BitVec 3
  deriving DecidableEq, Repr

/-- Format L (Table 17.4, CLL). -/
structure FmtL where
  g : Guard
  ch : BitVec 3
  src : BitVec 22
  dst : BitVec 22
  xl : BitVec 6
  deriving DecidableEq, Repr

/-- Format R (Table 17.4, CXR and CXW). -/
structure FmtR where
  g : Guard
  ch : BitVec 3
  src : BitVec 22
  xd : BitVec 6
  xl : BitVec 6
  deriving DecidableEq, Repr

/-- Format W (Table 17.5). -/
structure FmtW where
  g : Guard
  ch : BitVec 3
  w : BitVec 3
  xa : BitVec 6
  k : BitVec 9
  deriving DecidableEq, Repr

/-- Format Q as GQIN uses it (Table 17.6). -/
structure FmtGQ where
  g : Guard
  ch : BitVec 3
  xa : BitVec 6
  deriving DecidableEq, Repr

/-- Format Q as GATH and SCAT use it (Table 17.6). -/
structure FmtQ where
  g : Guard
  ch : BitVec 3
  tid : BitVec 12
  n : BitVec 7
  spa : BitVec 22
  deriving DecidableEq, Repr

/-- Format K, CSCH and CSTS (Table 17.7). -/
structure FmtKS where
  g : Guard
  ch : BitVec 3
  spa : BitVec 22
  deriving DecidableEq, Repr

/-- Format K, CSTEP (Table 17.7). -/
structure FmtKN where
  g : Guard
  ch : BitVec 3
  n : BitVec 16
  deriving DecidableEq, Repr

/-- Format K, CABT (Table 17.7). -/
structure FmtKZ where
  g : Guard
  ch : BitVec 3
  deriving DecidableEq, Repr

/-- Format K, CRSM (Table 17.7). -/
structure FmtKR where
  g : Guard
  ch : BitVec 3
  tid : BitVec 12
  new : Bool
  deriving DecidableEq, Repr

/-- Format K, CPRI (Table 17.7). -/
structure FmtKP where
  g : Guard
  ch : BitVec 3
  p : BitVec 2
  deriving DecidableEq, Repr

/-- Format K, CFNC (Table 17.7). -/
structure FmtKM where
  g : Guard
  ch : BitVec 3
  mask : BitVec 8
  deriving DecidableEq, Repr

/-- Format K, CWMS (Table 17.7). -/
structure FmtKW where
  g : Guard
  ch : BitVec 3
  spa : BitVec 22
  xl : BitVec 6
  deriving DecidableEq, Repr

/-- Format K, CSIG (Table 17.7). -/
structure FmtKG where
  g : Guard
  ch : BitVec 3
  xa : BitVec 6
  xv : BitVec 6
  scope : BitVec 4
  size : Bool
  deriving DecidableEq, Repr

/-- Format K, CSCAN (Table 17.7). -/
structure FmtKC where
  g : Guard
  ch : BitVec 3
  tid : BitVec 12
  xt : BitVec 6
  w : BitVec 3
  cmp : BitVec 3
  deriving DecidableEq, Repr

/-- A grant of the coherence protocol (Table 21.3). -/
inductive Grant where
  | s | e | m
  deriving DecidableEq, Repr

/-- The form of the data of a message (Table 21.3): a line's bytes or a compressed line's sector, with a grant; the answer to an uncached
read; a metadata word. -/
inductive DatForm where
  | raw | sector | plain | word
  deriving DecidableEq, Repr

/-- The data of a message, in its form. -/
structure DatBody where
  form : DatForm
  data : BitVec 1024
  deriving DecidableEq, Repr

/-- Response codes of a page request (R310). -/
inductive PageCode where
  | success | invalidRequest | responseFailure
  deriving DecidableEq, Repr

/-- A port whose link can go down (R369, R370): the two host ports and the two CXL ports. -/
inductive Port where
  | p0 | p1 | cxl2 | cxl3
  deriving DecidableEq, Repr

/-- Who writes a device register: a host port, a task or another device of the domain, or a Collie core. -/
inductive Writer where
  | host (port : BitVec 1)
  | task
  | collie (k : BitVec 3)
  deriving DecidableEq, Repr

/-- The source of a remote flow (R355): device, core and channel. -/
structure FlowSource where
  dev : BitVec 6
  core : BitVec 7
  ch : BitVec 3
  deriving DecidableEq, Repr

/-- The target of a CXW (R266): device, core and window. -/
structure WindowName where
  dev : BitVec 6
  core : BitVec 7
  win : BitVec 3
  deriving DecidableEq, Repr

/-- One arrival at a barrier counter (R67): who arrives, at which level, with which DOMID and COUNT, at which phase, for which
launch; or, once that launch has left its device, the withdrawal of all its arrivals at the level. -/
structure Arrival where
  level : BitVec 2
  domid : BitVec 16
  count : Nat
  phase : BitVec 32
  dev : BitVec 6
  core : Nat
  bankB : Bool
  queue : Nat
  lseq : BitVec 32
  withdrawn : Bool
  deriving DecidableEq, Repr

/-- The core of this device that a copy of another device writes, and that device (R265). -/
structure RemoteCore where
  dev : BitVec 6
  core : BitVec 7
  deriving DecidableEq, Repr

/-- Bytes of one line that another device reads: the first one's address, and how many (R317). -/
structure LineSpan where
  addr : Nat
  n : Nat
  deriving DecidableEq, Repr

/-- What an uncached write carries: its bytes, and whether a full line is stored compressed where it qualifies (R317, R318). -/
structure WriteBody where
  bytes : List (BitVec 8)
  z : Bool
  deriving DecidableEq, Repr

/-- One step of the part: an operation of a slot (its payload's fields) or an event of the device, one constructor for
each row of the opcode table. An operation's names are those of its payload: rotating names are resolved at dispatch
(R23) and stand in `IssueCtx`. -/
inductive Instr where
  /-- ADD (R76): S opcode 0x00. -/
  | add (f : FmtRR)
  /-- SUB (R76): S opcode 0x01. -/
  | sub (f : FmtRR)
  /-- AND (R76): S opcode 0x02. -/
  | and (f : FmtRR)
  /-- OR (R76): S opcode 0x03. -/
  | or (f : FmtRR)
  /-- XOR (R76): S opcode 0x04. -/
  | xor (f : FmtRR)
  /-- SHL (R76): S opcode 0x05. -/
  | shl (f : FmtRR)
  /-- SHR (R76): S opcode 0x06. -/
  | shr (f : FmtRR)
  /-- SHA (R76): S opcode 0x07. -/
  | sha (f : FmtRR)
  /-- MUL (R76): S opcode 0x08. -/
  | mul (f : FmtRR)
  /-- MULHS (R76): S opcode 0x09. -/
  | mulhs (f : FmtRR)
  /-- MULHU (R76): S opcode 0x0A. -/
  | mulhu (f : FmtRR)
  /-- DIVS (R77): S opcode 0x0B. -/
  | divs (f : FmtRR)
  /-- DIVU (R77): S opcode 0x0C. -/
  | divu (f : FmtRR)
  /-- REMS (R77): S opcode 0x0D. -/
  | rems (f : FmtRR)
  /-- REMU (R77): S opcode 0x0E. -/
  | remu (f : FmtRR)
  /-- MINS (R76): S opcode 0x0F. -/
  | mins (f : FmtRR)
  /-- MAXS (R76): S opcode 0x10. -/
  | maxs (f : FmtRR)
  /-- MINU (R76): S opcode 0x11. -/
  | minu (f : FmtRR)
  /-- MAXU (R76): S opcode 0x12. -/
  | maxu (f : FmtRR)
  /-- CLZ (R78): S opcode 0x13. -/
  | clz (f : FmtRR)
  /-- POPC (R78): S opcode 0x14. -/
  | popc (f : FmtRR)
  /-- BEXT (R78): S opcode 0x15. -/
  | bext (f : FmtRR)
  /-- BDEP (R78): S opcode 0x16. -/
  | bdep (f : FmtRR)
  /-- SEL (R78): S opcode 0x17. -/
  | sel (f : FmtRR)
  /-- ADDI (R79): S opcode 0x18. -/
  | addi (f : FmtRI)
  /-- ANDI (R79): S opcode 0x19. -/
  | andi (f : FmtRI)
  /-- ORI (R79): S opcode 0x1A. -/
  | ori (f : FmtRI)
  /-- XORI (R79): S opcode 0x1B. -/
  | xori (f : FmtRI)
  /-- SHLI (R79): S opcode 0x1C. -/
  | shli (f : FmtRI)
  /-- SHRI (R79): S opcode 0x1D. -/
  | shri (f : FmtRI)
  /-- SHAI (R79): S opcode 0x1E. -/
  | shai (f : FmtRI)
  /-- LI (R80): S opcode 0x1F. -/
  | li (f : FmtLI)
  /-- LIS (R80): S opcode 0x20. -/
  | lis (f : FmtLI)
  /-- CMP.EQ (R81): S opcode 0x21. -/
  | cmpEq (f : FmtRR)
  /-- CMP.NE (R81): S opcode 0x22. -/
  | cmpNe (f : FmtRR)
  /-- CMP.LTS (R81): S opcode 0x23. -/
  | cmpLts (f : FmtRR)
  /-- CMP.LES (R81): S opcode 0x24. -/
  | cmpLes (f : FmtRR)
  /-- CMP.LTU (R81): S opcode 0x25. -/
  | cmpLtu (f : FmtRR)
  /-- CMP.LEU (R81): S opcode 0x26. -/
  | cmpLeu (f : FmtRR)
  /-- CMPI.EQ (R81): S opcode 0x27. -/
  | cmpiEq (f : FmtRI)
  /-- CMPI.NE (R81): S opcode 0x28. -/
  | cmpiNe (f : FmtRI)
  /-- CMPI.LTS (R81): S opcode 0x29. -/
  | cmpiLts (f : FmtRI)
  /-- CMPI.LTU (R81): S opcode 0x2A. -/
  | cmpiLtu (f : FmtRI)
  /-- PAND (R82): S opcode 0x2B. -/
  | pand (f : FmtPL)
  /-- POR (R82): S opcode 0x2C. -/
  | por (f : FmtPL)
  /-- PXOR (R82): S opcode 0x2D. -/
  | pxor (f : FmtPL)
  /-- PNOT (R82): S opcode 0x2E. -/
  | pnot (f : FmtPL)
  /-- BR (R83): S opcode 0x2F. -/
  | br (f : FmtBO)
  /-- JMP (R83): S opcode 0x30. -/
  | jmp (f : FmtK)
  /-- CALL (R83): S opcode 0x31. -/
  | call (f : FmtBO)
  /-- RET (R83): S opcode 0x32. -/
  | ret (f : FmtK)
  /-- LOOP (R84): S opcode 0x33. -/
  | loop (f : FmtLP)
  /-- LOOPI (R84): S opcode 0x34. -/
  | loopi (f : FmtLP)
  /-- LBRK (R85): S opcode 0x35. -/
  | lbrk (f : FmtK)
  /-- PPT (R86): S opcode 0x36. -/
  | ppt (f : FmtK)
  /-- GETS (R89): S opcode 0x37. -/
  | gets (f : FmtSG)
  /-- SETS (R89): S opcode 0x38. -/
  | sets (f : FmtSR)
  /-- SETSI (R89): S opcode 0x39. -/
  | setsi (f : FmtSR)
  /-- LDG.B (R328): S opcode 0x3A. -/
  | ldgB (f : FmtGM)
  /-- LDG.H (R328): S opcode 0x3B. -/
  | ldgH (f : FmtGM)
  /-- LDG.W (R328): S opcode 0x3C. -/
  | ldgW (f : FmtGM)
  /-- LDG.D (R328): S opcode 0x3D. -/
  | ldgD (f : FmtGM)
  /-- LDG.Q (R328): S opcode 0x3E. -/
  | ldgQ (f : FmtGM)
  /-- STG.B (R328): S opcode 0x3F. -/
  | stgB (f : FmtGM)
  /-- STG.H (R328): S opcode 0x40. -/
  | stgH (f : FmtGM)
  /-- STG.W (R328): S opcode 0x41. -/
  | stgW (f : FmtGM)
  /-- STG.D (R328): S opcode 0x42. -/
  | stgD (f : FmtGM)
  /-- STG.Q (R328): S opcode 0x43. -/
  | stgQ (f : FmtGM)
  /-- AADD (R330): S opcode 0x44. -/
  | aadd (f : FmtGA)
  /-- AAND (R330): S opcode 0x45. -/
  | aand (f : FmtGA)
  /-- AOR (R330): S opcode 0x46. -/
  | aor (f : FmtGA)
  /-- AXOR (R330): S opcode 0x47. -/
  | axor (f : FmtGA)
  /-- AMINS (R330): S opcode 0x48. -/
  | amins (f : FmtGA)
  /-- AMAXS (R330): S opcode 0x49. -/
  | amaxs (f : FmtGA)
  /-- AXCH (R330): S opcode 0x4A. -/
  | axch (f : FmtGA)
  /-- ACAS (R330): S opcode 0x4B. -/
  | acas (f : FmtGA)
  /-- REL (R331): S opcode 0x4C. -/
  | rel (f : FmtGF)
  /-- ACQ (R331): S opcode 0x4D. -/
  | acq (f : FmtGF)
  /-- DRN (R331): S opcode 0x4E. -/
  | drn (f : FmtGF)
  /-- SYNC (R90): S opcode 0x4F. -/
  | sync (f : FmtK)
  /-- ARRV (R91): S opcode 0x50. -/
  | arrv (f : FmtK)
  /-- MON (R332): S opcode 0x51. -/
  | mon (f : FmtGM)
  /-- MWAIT (R333): S opcode 0x52. -/
  | mwait (f : FmtGF)
  /-- WAITV (R92): S opcode 0x53. -/
  | waitv (f : FmtWV)
  /-- HALT (R87): S opcode 0x54. -/
  | halt (f : FmtK)
  /-- TRAP (R88): S opcode 0x55. -/
  | trap (f : FmtTC)
  /-- BRK (R88): S opcode 0x56. -/
  | brk (f : FmtTC)
  /-- LNCH (R94): S opcode 0x57. -/
  | lnch (f : FmtK)
  /-- TIME (R95): S opcode 0x58. -/
  | time (f : FmtK)
  /-- QPOLL (R350): S opcode 0x59. -/
  | qpoll (f : FmtFW)
  /-- QPOST (R350): S opcode 0x5A. -/
  | qpost (f : FmtFW)
  /-- RBLD (R350): S opcode 0x5B. -/
  | rbld (f : FmtGM)
  /-- RBST (R350): S opcode 0x5C. -/
  | rbst (f : FmtGM)
  /-- SEMA_ACQUIRE (R350): S opcode 0x5D. -/
  | semaAcquire (f : FmtFW)
  /-- SEMA_RELEASE (R350): S opcode 0x5D. -/
  | semaRelease (f : FmtFW)
  /-- SEMA_QUERY (R350): S opcode 0x5D. -/
  | semaQuery (f : FmtFW)
  /-- WDOG (R350): S opcode 0x5E. -/
  | wdog (f : FmtFW)
  /-- FCLK (R350): S opcode 0x5F. -/
  | fclk (f : FmtFW)
  /-- VADD (R151): V opcode 0x00. -/
  | vadd (f : VOp)
  /-- VSUB (R151): V opcode 0x01. -/
  | vsub (f : VOp)
  /-- VMUL (R151): V opcode 0x02. -/
  | vmul (f : VOp)
  /-- VFMA (R151): V opcode 0x03. -/
  | vfma (f : VOp)
  /-- VFMS (R151): V opcode 0x04. -/
  | vfms (f : VOp)
  /-- VFNMA (R151): V opcode 0x05. -/
  | vfnma (f : VOp)
  /-- VMIN (R152): V opcode 0x06. -/
  | vmin (f : VOp)
  /-- VMAX (R152): V opcode 0x07. -/
  | vmax (f : VOp)
  /-- VABS (R152): V opcode 0x08. -/
  | vabs (f : VOp)
  /-- VNEG (R152): V opcode 0x09. -/
  | vneg (f : VOp)
  /-- VCPYS (R152): V opcode 0x0A. -/
  | vcpys (f : VOp)
  /-- VDIV (R154): V opcode 0x0B. -/
  | vdiv (f : VOp)
  /-- VSQRT (R154): V opcode 0x0C. -/
  | vsqrt (f : VOp)
  /-- VRCP (R154): V opcode 0x0D. -/
  | vrcp (f : VOp)
  /-- VRSQ (R154): V opcode 0x0E. -/
  | vrsq (f : VOp)
  /-- VEXP2 (R154): V opcode 0x0F. -/
  | vexp2 (f : VOp)
  /-- VLOG2 (R154): V opcode 0x10. -/
  | vlog2 (f : VOp)
  /-- VRINT (R152): V opcode 0x11. -/
  | vrint (f : VOp)
  /-- VCLASS (R152): V opcode 0x12. -/
  | vclass (f : VOp)
  /-- VCMP.EQ (R155): V opcode 0x13. -/
  | vcmpEq (f : VOp)
  /-- VCMP.NE (R155): V opcode 0x14. -/
  | vcmpNe (f : VOp)
  /-- VCMP.LT (R155): V opcode 0x15. -/
  | vcmpLt (f : VOp)
  /-- VCMP.LE (R155): V opcode 0x16. -/
  | vcmpLe (f : VOp)
  /-- VCMP.UN (R155): V opcode 0x17. -/
  | vcmpUn (f : VOp)
  /-- VCMP.OD (R155): V opcode 0x18. -/
  | vcmpOd (f : VOp)
  /-- VSEL (R156): V opcode 0x19. -/
  | vsel (f : VOp)
  /-- VIADD (R157): V opcode 0x1A. -/
  | viadd (f : VOp)
  /-- VISUB (R157): V opcode 0x1B. -/
  | visub (f : VOp)
  /-- VIMUL (R157): V opcode 0x1C. -/
  | vimul (f : VOp)
  /-- VIMULH (R157): V opcode 0x1D. -/
  | vimulh (f : VOp)
  /-- VAND (R157): V opcode 0x1E. -/
  | vand (f : VOp)
  /-- VOR (R157): V opcode 0x1F. -/
  | vor (f : VOp)
  /-- VXOR (R157): V opcode 0x20. -/
  | vxor (f : VOp)
  /-- VNOT (R157): V opcode 0x21. -/
  | vnot (f : VOp)
  /-- VSHL (R157): V opcode 0x22. -/
  | vshl (f : VOp)
  /-- VSHR (R157): V opcode 0x23. -/
  | vshr (f : VOp)
  /-- VSHA (R157): V opcode 0x24. -/
  | vsha (f : VOp)
  /-- VIMIN (R157): V opcode 0x25. -/
  | vimin (f : VOp)
  /-- VIMAX (R157): V opcode 0x26. -/
  | vimax (f : VOp)
  /-- VIMINU (R157): V opcode 0x27. -/
  | viminu (f : VOp)
  /-- VIMAXU (R157): V opcode 0x28. -/
  | vimaxu (f : VOp)
  /-- VICMP.EQ (R155): V opcode 0x29. -/
  | vicmpEq (f : VOp)
  /-- VICMP.LT (R155): V opcode 0x2A. -/
  | vicmpLt (f : VOp)
  /-- VICMP.LTU (R155): V opcode 0x2B. -/
  | vicmpLtu (f : VOp)
  /-- VCVTF (R159): V opcode 0x2C. -/
  | vcvtf (f : VOp)
  /-- VCVTI (R159): V opcode 0x2D. -/
  | vcvti (f : VOp)
  /-- VCVTIF (R159): V opcode 0x2E. -/
  | vcvtif (f : VOp)
  /-- VPACK (R160): V opcode 0x2F. -/
  | vpack (f : VOp)
  /-- VUNPK.LO (R160): V opcode 0x30. -/
  | vunpkLo (f : VOp)
  /-- VUNPK.HI (R160): V opcode 0x31. -/
  | vunpkHi (f : VOp)
  /-- VQNT (R161): V opcode 0x32. -/
  | vqnt (f : VOp)
  /-- VDQT (R161): V opcode 0x33. -/
  | vdqt (f : VOp)
  /-- VBSC (R162): V opcode 0x34. -/
  | vbsc (f : VOp)
  /-- VPSD (R163): V opcode 0x35. -/
  | vpsd (f : VOp)
  /-- VRSUM (R164): V opcode 0x36. -/
  | vrsum (f : VOp)
  /-- VRMAX (R164): V opcode 0x37. -/
  | vrmax (f : VOp)
  /-- VRMIN (R164): V opcode 0x38. -/
  | vrmin (f : VOp)
  /-- VRAMAX (R164): V opcode 0x39. -/
  | vramax (f : VOp)
  /-- VRDOT (R164): V opcode 0x3A. -/
  | vrdot (f : VOp)
  /-- VPSUM (R165): V opcode 0x3B. -/
  | vpsum (f : VOp)
  /-- VSHUF (R166): V opcode 0x3C. -/
  | vshuf (f : VOp)
  /-- VBCST (R166): V opcode 0x3D. -/
  | vbcst (f : VOp)
  /-- VLROT (R166): V opcode 0x3E. -/
  | vlrot (f : VOp)
  /-- VSLIDE (R166): V opcode 0x3F. -/
  | vslide (f : VOp)
  /-- VZIP (R166): V opcode 0x40. -/
  | vzip (f : VOp)
  /-- VUZP (R166): V opcode 0x41. -/
  | vuzp (f : VOp)
  /-- VREV (R166): V opcode 0x42. -/
  | vrev (f : VOp)
  /-- VCOMP (R167): V opcode 0x43. -/
  | vcomp (f : VOp)
  /-- VMVX (R168): V opcode 0x44. -/
  | vmvx (f : VOp)
  /-- VINS (R168): V opcode 0x45. -/
  | vins (f : VOp)
  /-- VEXT (R168): V opcode 0x46. -/
  | vext (f : VOp)
  /-- VMVP (R168): V opcode 0x47. -/
  | vmvp (f : VOp)
  /-- MAND (R168): V opcode 0x48. -/
  | mand (f : VOp)
  /-- MOR (R168): V opcode 0x49. -/
  | mor (f : VOp)
  /-- MXOR (R168): V opcode 0x4A. -/
  | mxor (f : VOp)
  /-- MNOT (R168): V opcode 0x4B. -/
  | mnot (f : VOp)
  /-- MPOPC (R168): V opcode 0x4C. -/
  | mpopc (f : VOp)
  /-- VLD (R169): V opcode 0x4D. -/
  | vld (f : VOp)
  /-- VST (R169): V opcode 0x4E. -/
  | vst (f : VOp)
  /-- VLDI (R170): V opcode 0x4F. -/
  | vldi (f : VOp)
  /-- VSTI (R170): V opcode 0x50. -/
  | vsti (f : VOp)
  /-- VLDB (R170): V opcode 0x51. -/
  | vldb (f : VOp)
  /-- VGTH (R171): V opcode 0x52. -/
  | vgth (f : VOp)
  /-- VSCT (R171): V opcode 0x53. -/
  | vsct (f : VOp)
  /-- VSTC (R170): V opcode 0x54. -/
  | vstc (f : VOp)
  /-- ZSET (R172): V opcode 0x55. -/
  | zset (f : VOp)
  /-- ZSTEP (R173): V opcode 0x56. -/
  | zstep (f : VOp)
  /-- ZRST (R172): V opcode 0x57. -/
  | zrst (f : VOp)
  /-- ZGET (R174): V opcode 0x58. -/
  | zget (f : VOp)
  /-- SFMT (R175): V opcode 0x59. -/
  | sfmt (f : VOp)
  /-- ZCHK (R174): V opcode 0x5A. -/
  | zchk (f : VOp)
  /-- VCLAMP (R152): V opcode 0x5B. -/
  | vclamp (f : VOp)
  /-- VLERP (R151): V opcode 0x5C. -/
  | vlerp (f : VOp)
  /-- VRELU (R153): V opcode 0x5D. -/
  | vrelu (f : VOp)
  /-- VEXP (R154): V opcode 0x5E. -/
  | vexp (f : VOp)
  /-- VLN (R154): V opcode 0x5F. -/
  | vln (f : VOp)
  /-- VTANH (R154): V opcode 0x60. -/
  | vtanh (f : VOp)
  /-- VERF (R154): V opcode 0x61. -/
  | verf (f : VOp)
  /-- VSIN (R154): V opcode 0x62. -/
  | vsin (f : VOp)
  /-- VCOS (R154): V opcode 0x63. -/
  | vcos (f : VOp)
  /-- VATN2 (R154): V opcode 0x64. -/
  | vatn2 (f : VOp)
  /-- VTURN (R176): V opcode 0x65. -/
  | vturn (f : VOp)
  /-- VTCS (R177): V opcode 0x66. -/
  | vtcs (f : VOp)
  /-- VHYP (R154): V opcode 0x67. -/
  | vhyp (f : VOp)
  /-- MPUSH.ROT (R189): M opcode 0x00. -/
  | mpushRot (f : FmtMP)
  /-- MPUSH.DRV (R190): M opcode 0x01. -/
  | mpushDrv (f : FmtMP)
  /-- MPUSH.CXG (R191): M opcode 0x02. -/
  | mpushCxg (f : FmtMP)
  /-- MPUSH.FOL (R191): M opcode 0x03. -/
  | mpushFol (f : FmtMP)
  /-- MPUSH.SWP (R192): M opcode 0x04. -/
  | mpushSwp (f : FmtMP)
  /-- MPUSH.PAS (R192): M opcode 0x05. -/
  | mpushPas (f : FmtMP)
  /-- MPUSH.GRD (R207): M opcode 0x06. -/
  | mpushGrd (f : FmtGR)
  /-- MLDA (R210): M opcode 0x07. -/
  | mlda (f : FmtMPL)
  /-- MLDP (R210): M opcode 0x08. -/
  | mldp (f : FmtMPL)
  /-- MPATCH (R211): M opcode 0x09. -/
  | mpatch (f : FmtLS)
  /-- MSWAP (R212): M opcode 0x0A. -/
  | mswap (f : FmtMP)
  /-- MSAVE (R213): M opcode 0x0B. -/
  | msave (f : FmtAD)
  /-- MREST (R213): M opcode 0x0C. -/
  | mrest (f : FmtAD)
  /-- MGSV (R214): M opcode 0x0D. -/
  | mgsv (f : FmtMPL)
  /-- MSCLI (R215): M opcode 0x0E. -/
  | mscli (f : FmtAD)
  /-- MSCLO (R215): M opcode 0x0F. -/
  | msclo (f : FmtAD)
  /-- MDIX (R211): M opcode 0x10. -/
  | mdix (f : FmtLS)
  /-- MBITS (R211): M opcode 0x11. -/
  | mbits (f : FmtLS)
  /-- MRST (R216): M opcode 0x12. -/
  | mrst (f : FmtFL)
  /-- MNRM (R217): M opcode 0x13. -/
  | mnrm (f : FmtNT)
  /-- MSTAT (R218): M opcode 0x14. -/
  | mstat (f : FmtFL)
  /-- MFMT (R219): M opcode 0x15. -/
  | mfmt (f : FmtFL)
  /-- MDRN (R220): M opcode 0x16. -/
  | mdrn (f : FmtMP)
  /-- MCLR (R221): M opcode 0x17. -/
  | mclr (f : FmtFL)
  /-- CPY (R259): C opcode 0x00. -/
  | cpy (f : FmtT)
  /-- CST (R259): C opcode 0x01. -/
  | cst (f : FmtT)
  /-- CSTZ (R259): C opcode 0x02. -/
  | cstz (f : FmtT)
  /-- CLL (R264): C opcode 0x03. -/
  | cll (f : FmtL)
  /-- CXR (R265): C opcode 0x04. -/
  | cxr (f : FmtR)
  /-- CXW (R266): C opcode 0x05. -/
  | cxw (f : FmtR)
  /-- CFIL (R263): C opcode 0x06. -/
  | cfil (f : FmtT)
  /-- CPYT (R260): C opcode 0x07. -/
  | cpyt (f : FmtT)
  /-- GQIN (R267): C opcode 0x08. -/
  | gqin (f : FmtGQ)
  /-- GATH (R267): C opcode 0x09. -/
  | gath (f : FmtQ)
  /-- SCAT (R267): C opcode 0x0A. -/
  | scat (f : FmtQ)
  /-- WBND (R268): C opcode 0x0B. -/
  | wbnd (f : FmtW)
  /-- WADV (R269): C opcode 0x0C. -/
  | wadv (f : FmtW)
  /-- WREL (R269): C opcode 0x0D. -/
  | wrel (f : FmtW)
  /-- CSCH (R270): C opcode 0x0E. -/
  | csch (f : FmtKS)
  /-- CSTEP (R270): C opcode 0x0F. -/
  | cstep (f : FmtKN)
  /-- CABT (R271): C opcode 0x10. -/
  | cabt (f : FmtKZ)
  /-- CRSM (R279): C opcode 0x11. -/
  | crsm (f : FmtKR)
  /-- CSCAN (R272): C opcode 0x12. -/
  | cscan (f : FmtKC)
  /-- CZIP (R273): C opcode 0x13. -/
  | czip (f : FmtT)
  /-- CPRF (R273): C opcode 0x14. -/
  | cprf (f : FmtT)
  /-- CWB (R273): C opcode 0x15. -/
  | cwb (f : FmtT)
  /-- CINV (R273): C opcode 0x16. -/
  | cinv (f : FmtT)
  /-- CWMS (R275): C opcode 0x17. -/
  | cwms (f : FmtKW)
  /-- CFNC (R276): C opcode 0x18. -/
  | cfnc (f : FmtKM)
  /-- CSIG (R277): C opcode 0x19. -/
  | csig (f : FmtKG)
  /-- CLDM (R274): C opcode 0x1A. -/
  | cldm (f : FmtT)
  /-- CSTS (R278): C opcode 0x1B. -/
  | csts (f : FmtKS)
  /-- CPRI (R278): C opcode 0x1C. -/
  | cpri (f : FmtKP)
  /-- CDUP (R261): C opcode 0x1D. -/
  | cdup (f : FmtT)
  /-- CMSK (R262): C opcode 0x1E. -/
  | cmsk (f : FmtT)
  /-- CRPL (R261): C opcode 0x1F. -/
  | crpl (f : FmtT)
  /-- BUNDLE_DISPATCH (R23). -/
  | bundleDispatch 
  /-- IDLE_ENTRY (R24). -/
  | idleEntry (slot : Slot)
  /-- STICKY_REISSUE (R29). -/
  | stickyReissue (slot : Slot)
  /-- RESULT_LAND (R31). -/
  | resultLand (i : Nat)
  /-- TRACKED_RESULT_LAND (R34). -/
  | trackedResultLand (i : Nat)
  /-- POSTED_STORE_PERFORM (R328). -/
  | postedStorePerform (i : Nat)
  /-- SINGLE_STEP_TRAP (R74). -/
  | singleStepTrap 
  /-- FREEZE_COMPLETE (R99). -/
  | freezeComplete 
  /-- CCTL_RESUME (R396). -/
  | cctlResume (core : Nat)
  /-- LAUNCH_END (R396). -/
  | launchEnd (queue : Nat) (seq : BitVec 32)
  /-- TASK_PARKED (R111). -/
  | taskParked 
  /-- DRAIN_BOUND_EXPIRY (R111). -/
  | drainBoundExpiry 
  /-- PREEMPTION_ESCALATION (R114). -/
  | preemptionEscalation 
  /-- CONTEXT_RESUME (R113). -/
  | contextResume 
  /-- BANK_SWITCH_BACK (R108). -/
  | bankSwitchBack 
  /-- WATCHDOG_EXPIRY (R340). -/
  | watchdogExpiry 
  /-- BUDGET_PERIOD (R345). -/
  | budgetPeriod 
  /-- BUDGET_GRACE_EXPIRY (R345). -/
  | budgetGraceExpiry (resource : BitVec 2) (cls : BitVec 3)
  /-- MWAIT_RETURN (R68). -/
  | mwaitReturn 
  /-- WAITV_REEVALUATION (R93). -/
  | waitvReevaluation 
  /-- WAITV_TIMEOUT (R93). -/
  | waitvTimeout 
  /-- SYNC_ARRIVAL (R90). -/
  | syncArrival 
  /-- BARRIER_ARRIVAL (R67). -/
  | barrierArrival (a : Arrival)
  /-- PHASE_COMPLETION (R357). -/
  | phaseCompletion (level : BitVec 2) (domid : BitVec 16) (phase : BitVec 32)
  /-- BARRIER_ROOT_TIMEOUT (R357). -/
  | barrierRootTimeout (level : BitVec 2)
  /-- TASK_END (R87). -/
  | taskEnd 
  /-- MDRN_COMPLETE (R220). -/
  | mdrnComplete 
  /-- MPUSH_LAND (R188). -/
  | mpushLand 
  /-- PLANE_UNIT_OPERATION (R208). -/
  | planeUnitOperation 
  /-- COPY_LANDING_WRITE (R234). -/
  | copyLandingWrite (ch : BitVec 3)
  /-- FRAGMENT_RETURN (R246). -/
  | fragmentReturn (ch : BitVec 3)
  /-- COPY_COMPLETE (R232). -/
  | copyComplete (ch : BitVec 3)
  /-- SCHEDULE_ENTRY_RELEASE (R270). -/
  | scheduleEntryRelease 
  /-- CREDIT_GRANT (R356). -/
  | creditGrant (ch : BitVec 3) (target : WindowName) (rows : Nat) (rowb : BitVec 16)
  /-- REMOTE_FLOW_WRITE (R355). -/
  | remoteFlowWrite (w : BitVec 3) (src : FlowSource) (bytes : List (BitVec 8))
  /-- REMOTE_OPM_WRITE (R265). -/
  | remoteOpmWrite (core : RemoteCore) (off : BitVec 26) (bytes : List (BitVec 8))
  /-- FRAME_RECEIVE (R361). -/
  | frameReceive (port : BitVec 1) (frame : List (BitVec 8)) (fcsGood : Bool)
  /-- TXQ (R362). -/
  | txq (port : BitVec 1) (w : BitVec 64)
  /-- FRAME_TRANSMIT (R362). -/
  | frameTransmit (port : BitVec 1)
  /-- RDS (R317). -/
  | rds (y : BitVec 6) (line : Nat)
  /-- RDX (R317). -/
  | rdx (y : BitVec 6) (line : Nat) (full : Bool)
  /-- UPG (R317). -/
  | upg (y : BitVec 6) (line : Nat)
  /-- WBD (R317). -/
  | wbd (x : BitVec 6) (line : Nat) (keep z poison : Bool) (data : BitVec 1024)
  /-- EVC (R317). -/
  | evc (x : BitVec 6) (line : Nat)
  /-- INV (R313). -/
  | inv (line : Nat)
  /-- RECALL (R317). -/
  | recall (line : Nat) (keep : Bool) (fwd : Option (BitVec 6))
  /-- DAT (R318). -/
  | dat (line : Nat) (grant : Grant) (poison : Bool) (body : DatBody)
  /-- CMP (R317). -/
  | cmp (line : Nat) (grant : Grant)
  /-- ACK (R317). -/
  | ack (x : BitVec 6) (line : Nat) (dirty notHeld : Bool) (data : Option (BitVec 1024))
  /-- HOME_LOCAL_READ (R317). -/
  | homeLocalRead (line : Nat)
  /-- HOME_LOCAL_WRITE (R317). -/
  | homeLocalWrite (line : Nat)
  /-- UNCACHED_READ (R317). -/
  | uncachedRead (y : BitVec 6) (line : LineSpan)
  /-- UNCACHED_WRITE (R317). -/
  | uncachedWrite (y : BitVec 6) (addr : Nat) (bytes : WriteBody)
  /-- HOME_SLICE_EVICT (R317). -/
  | homeSliceEvict (line : Nat)
  /-- SLICE_EVICTION (R314). -/
  | sliceEviction (line : Nat)
  /-- METADATA_READ (R335). -/
  | metadataRead (ch : BitVec 3)
  /-- METADATA_REBUILD (R321). -/
  | metadataRebuild (line : Nat)
  /-- GANDER_SCAN (R294). -/
  | ganderScan (ch : BitVec 3)
  /-- LAYER_MIGRATION (R292). -/
  | layerMigration (stack : BitVec 3)
  /-- TIER_DEMOTION (R301). -/
  | tierDemotion (tier : BitVec 1) (frame : Nat)
  /-- TRANSLATION_WALK (R306). -/
  | translationWalk (i : Nat)
  /-- MIGRATION_REWALK (R306). -/
  | migrationRewalk (i : Nat)
  /-- PAGE_RESPONSE (R310). -/
  | pageResponse (tag : BitVec 8) (code : PageCode)
  /-- FAULT_BOUND_EXPIRY (R311). -/
  | faultBoundExpiry (i : Nat)
  /-- FLIT_CRC_ERROR (R353). -/
  | flitCrcError (port : BitVec 4)
  /-- FABRIC_TIMEOUT (R358). -/
  | fabricTimeout (i : Nat)
  /-- LANE_RETRAIN (R380). -/
  | laneRetrain (port : BitVec 4)
  /-- LAUNCH_START (R341). -/
  | launchStart (queue : Nat)
  /-- TASK_RELEASE (R341). -/
  | taskRelease (queue : Nat) (seq : BitVec 32)
  /-- FRAME_TICK (R349). -/
  | frameTick 
  /-- COLLIE_WATCHDOG_EXPIRY (R350). -/
  | collieWatchdogExpiry (k : BitVec 3)
  /-- RCLAIM (R343). -/
  | rclaim (die : BitVec 2)
  /-- HSEM_ACQUIRE (R347). -/
  | hsemAcquire (port : BitVec 1)
  /-- HSEM_RELEASE (R347). -/
  | hsemRelease (port : BitVec 1)
  /-- DEVICE_RESET (R371). -/
  | deviceReset (port : BitVec 1)
  /-- POWER_ON_RESET (R371). -/
  | powerOnReset 
  /-- FUNCTION_LEVEL_RESET (R370). -/
  | functionLevelReset (port : BitVec 1)
  /-- FIRMWARE_UPDATE (R375). -/
  | firmwareUpdate (port : BitVec 1) (fuse : Bool)
  /-- FIRMWARE_UPDATE_FUSE (R373). -/
  | firmwareUpdateFuse 
  /-- FIRMWARE_UPDATE_DONE (R375). -/
  | firmwareUpdateDone (writeError : Bool)
  /-- ATTESTATION_REQUEST (R377). -/
  | attestationRequest (port : BitVec 1)
  /-- ATTESTATION_REPORT (R377). -/
  | attestationReport (destError : Bool)
  /-- INVALIDATE_ALL (R308). -/
  | invalidateAll 
  /-- INVALIDATE_ASID (R308). -/
  | invalidateAsid (asid : BitVec 8)
  /-- INVALIDATE_PAGE (R308). -/
  | invalidatePage (asid : BitVec 8)
  /-- INVALIDATE_TENSORS (R308). -/
  | invalidateTensors (asid : BitVec 8)
  /-- INVALIDATION_DONE (R308). -/
  | invalidationDone 
  /-- PATTERN_TEST (R397). -/
  | patternTest (ch : BitVec 8)
  /-- PATTERN_TEST_DONE (R397). -/
  | patternTestDone (ch : BitVec 8) (wrong : Nat)
  /-- PTEST_READ (R397). -/
  | ptestRead (ch : BitVec 8)
  /-- OPM_WRITE (R285). -/
  | opmWrite (core : BitVec 7) (off : BitVec 26) (bytes : List (BitVec 8))
  /-- HOST_WINDOW_ACCESS (R368). -/
  | hostWindowAccess (port : BitVec 1) (off : BitVec 36) (len : Nat) (data : Option (List (BitVec 8)))
  /-- REGISTER_WRITE (R283). -/
  | registerWrite (who : Writer) (off : BitVec 46) (size : Nat) (val : BitVec 64)
  /-- THERMAL_WARNING (R381). -/
  | thermalWarning 
  /-- THERMAL_TRIP (R381). -/
  | thermalTrip 
  /-- COMPLETION_TIMEOUT (R370). -/
  | completionTimeout (i : Nat)
  /-- PORT_LINK_DOWN (R369). -/
  | portLinkDown (port : Port)
  /-- REFUSED_WRITE (R355). -/
  | refusedWrite (ch : BitVec 3)
  /-- PRI_STOPPED_CLEAR (R310). -/
  | priStoppedClear (port : BitVec 1)
  deriving DecidableEq, Repr

end Sys2Proof
end

