-- ==== Sys2Proof/Machine/Payload.lean ====
section
/-! DEFINITION. The payload of an operation as slot, opcode and fields, and the forbidden payload values (cause 0x06:
R21, R22, R71, R145, R203, R254 and each instruction's own limits). -/
namespace Sys2Proof

/-- The fields of an S payload below OP (Tables 6.1 to 6.10, 22.1 to 22.3, 24.6). -/
inductive SBody where
  | rr (f : FmtRR) | ri (f : FmtRI) | li (f : FmtLI) | pl (f : FmtPL) | bo (f : FmtBO) | lp (f : FmtLP)
  | sg (f : FmtSG) | sr (f : FmtSR) | wv (f : FmtWV) | k (f : FmtK) | tc (f : FmtTC) | gm (f : FmtGM)
  | ga (f : FmtGA) | gf (f : FmtGF) | fw (f : FmtFW)
  deriving DecidableEq, Repr

/-- The fields of an M payload below OP (Tables 13.2 to 13.8). -/
inductive MBody where
  | mp (f : FmtMP) | gr (f : FmtGR) | pl (f : FmtMPL) | ls (f : FmtLS) | ad (f : FmtAD) | nt (f : FmtNT) | fl (f : FmtFL)
  deriving DecidableEq, Repr

/-- The fields of a C payload below OP (Tables 17.2 to 17.7). -/
inductive CBody where
  | t (f : FmtT) | l (f : FmtL) | r (f : FmtR) | w (f : FmtW) | gq (f : FmtGQ) | q (f : FmtQ) | ks (f : FmtKS)
  | kn (f : FmtKN) | kz (f : FmtKZ) | kr (f : FmtKR) | kp (f : FmtKP) | km (f : FmtKM) | kw (f : FmtKW)
  | kg (f : FmtKG) | kc (f : FmtKC)
  deriving DecidableEq, Repr

/-- What an instruction is to dispatch: an operation of a slot, with opcode and payload fields, or an event. -/
inductive View where
  | s (op : Nat) (b : SBody)
  | v (op : Nat) (f : VOp)
  | m (op : Nat) (b : MBody)
  | c (op : Nat) (b : CBody)
  | event
  deriving DecidableEq, Repr

/-- An operation's slot, opcode (Tables 3.9 to 3.12) and payload fields; an event of the device has none. -/
def Instr.view : Instr → View
  | .add f => .s 0x00 (.rr f)
  | .sub f => .s 0x01 (.rr f)
  | .and f => .s 0x02 (.rr f)
  | .or f => .s 0x03 (.rr f)
  | .xor f => .s 0x04 (.rr f)
  | .shl f => .s 0x05 (.rr f)
  | .shr f => .s 0x06 (.rr f)
  | .sha f => .s 0x07 (.rr f)
  | .mul f => .s 0x08 (.rr f)
  | .mulhs f => .s 0x09 (.rr f)
  | .mulhu f => .s 0x0A (.rr f)
  | .divs f => .s 0x0B (.rr f)
  | .divu f => .s 0x0C (.rr f)
  | .rems f => .s 0x0D (.rr f)
  | .remu f => .s 0x0E (.rr f)
  | .mins f => .s 0x0F (.rr f)
  | .maxs f => .s 0x10 (.rr f)
  | .minu f => .s 0x11 (.rr f)
  | .maxu f => .s 0x12 (.rr f)
  | .clz f => .s 0x13 (.rr f)
  | .popc f => .s 0x14 (.rr f)
  | .bext f => .s 0x15 (.rr f)
  | .bdep f => .s 0x16 (.rr f)
  | .sel f => .s 0x17 (.rr f)
  | .addi f => .s 0x18 (.ri f)
  | .andi f => .s 0x19 (.ri f)
  | .ori f => .s 0x1A (.ri f)
  | .xori f => .s 0x1B (.ri f)
  | .shli f => .s 0x1C (.ri f)
  | .shri f => .s 0x1D (.ri f)
  | .shai f => .s 0x1E (.ri f)
  | .li f => .s 0x1F (.li f)
  | .lis f => .s 0x20 (.li f)
  | .cmpEq f => .s 0x21 (.rr f)
  | .cmpNe f => .s 0x22 (.rr f)
  | .cmpLts f => .s 0x23 (.rr f)
  | .cmpLes f => .s 0x24 (.rr f)
  | .cmpLtu f => .s 0x25 (.rr f)
  | .cmpLeu f => .s 0x26 (.rr f)
  | .cmpiEq f => .s 0x27 (.ri f)
  | .cmpiNe f => .s 0x28 (.ri f)
  | .cmpiLts f => .s 0x29 (.ri f)
  | .cmpiLtu f => .s 0x2A (.ri f)
  | .pand f => .s 0x2B (.pl f)
  | .por f => .s 0x2C (.pl f)
  | .pxor f => .s 0x2D (.pl f)
  | .pnot f => .s 0x2E (.pl f)
  | .br f => .s 0x2F (.bo f)
  | .jmp f => .s 0x30 (.k f)
  | .call f => .s 0x31 (.bo f)
  | .ret f => .s 0x32 (.k f)
  | .loop f => .s 0x33 (.lp f)
  | .loopi f => .s 0x34 (.lp f)
  | .lbrk f => .s 0x35 (.k f)
  | .ppt f => .s 0x36 (.k f)
  | .gets f => .s 0x37 (.sg f)
  | .sets f => .s 0x38 (.sr f)
  | .setsi f => .s 0x39 (.sr f)
  | .ldgB f => .s 0x3A (.gm f)
  | .ldgH f => .s 0x3B (.gm f)
  | .ldgW f => .s 0x3C (.gm f)
  | .ldgD f => .s 0x3D (.gm f)
  | .ldgQ f => .s 0x3E (.gm f)
  | .stgB f => .s 0x3F (.gm f)
  | .stgH f => .s 0x40 (.gm f)
  | .stgW f => .s 0x41 (.gm f)
  | .stgD f => .s 0x42 (.gm f)
  | .stgQ f => .s 0x43 (.gm f)
  | .aadd f => .s 0x44 (.ga f)
  | .aand f => .s 0x45 (.ga f)
  | .aor f => .s 0x46 (.ga f)
  | .axor f => .s 0x47 (.ga f)
  | .amins f => .s 0x48 (.ga f)
  | .amaxs f => .s 0x49 (.ga f)
  | .axch f => .s 0x4A (.ga f)
  | .acas f => .s 0x4B (.ga f)
  | .rel f => .s 0x4C (.gf f)
  | .acq f => .s 0x4D (.gf f)
  | .drn f => .s 0x4E (.gf f)
  | .sync f => .s 0x4F (.k f)
  | .arrv f => .s 0x50 (.k f)
  | .mon f => .s 0x51 (.gm f)
  | .mwait f => .s 0x52 (.gf f)
  | .waitv f => .s 0x53 (.wv f)
  | .halt f => .s 0x54 (.k f)
  | .trap f => .s 0x55 (.tc f)
  | .brk f => .s 0x56 (.tc f)
  | .lnch f => .s 0x57 (.k f)
  | .time f => .s 0x58 (.k f)
  | .qpoll f => .s 0x59 (.fw f)
  | .qpost f => .s 0x5A (.fw f)
  | .rbld f => .s 0x5B (.gm f)
  | .rbst f => .s 0x5C (.gm f)
  | .semaAcquire f => .s 0x5D (.fw f)
  | .semaRelease f => .s 0x5D (.fw f)
  | .semaQuery f => .s 0x5D (.fw f)
  | .wdog f => .s 0x5E (.fw f)
  | .fclk f => .s 0x5F (.fw f)
  | .vadd f => .v 0x00 f
  | .vsub f => .v 0x01 f
  | .vmul f => .v 0x02 f
  | .vfma f => .v 0x03 f
  | .vfms f => .v 0x04 f
  | .vfnma f => .v 0x05 f
  | .vmin f => .v 0x06 f
  | .vmax f => .v 0x07 f
  | .vabs f => .v 0x08 f
  | .vneg f => .v 0x09 f
  | .vcpys f => .v 0x0A f
  | .vdiv f => .v 0x0B f
  | .vsqrt f => .v 0x0C f
  | .vrcp f => .v 0x0D f
  | .vrsq f => .v 0x0E f
  | .vexp2 f => .v 0x0F f
  | .vlog2 f => .v 0x10 f
  | .vrint f => .v 0x11 f
  | .vclass f => .v 0x12 f
  | .vcmpEq f => .v 0x13 f
  | .vcmpNe f => .v 0x14 f
  | .vcmpLt f => .v 0x15 f
  | .vcmpLe f => .v 0x16 f
  | .vcmpUn f => .v 0x17 f
  | .vcmpOd f => .v 0x18 f
  | .vsel f => .v 0x19 f
  | .viadd f => .v 0x1A f
  | .visub f => .v 0x1B f
  | .vimul f => .v 0x1C f
  | .vimulh f => .v 0x1D f
  | .vand f => .v 0x1E f
  | .vor f => .v 0x1F f
  | .vxor f => .v 0x20 f
  | .vnot f => .v 0x21 f
  | .vshl f => .v 0x22 f
  | .vshr f => .v 0x23 f
  | .vsha f => .v 0x24 f
  | .vimin f => .v 0x25 f
  | .vimax f => .v 0x26 f
  | .viminu f => .v 0x27 f
  | .vimaxu f => .v 0x28 f
  | .vicmpEq f => .v 0x29 f
  | .vicmpLt f => .v 0x2A f
  | .vicmpLtu f => .v 0x2B f
  | .vcvtf f => .v 0x2C f
  | .vcvti f => .v 0x2D f
  | .vcvtif f => .v 0x2E f
  | .vpack f => .v 0x2F f
  | .vunpkLo f => .v 0x30 f
  | .vunpkHi f => .v 0x31 f
  | .vqnt f => .v 0x32 f
  | .vdqt f => .v 0x33 f
  | .vbsc f => .v 0x34 f
  | .vpsd f => .v 0x35 f
  | .vrsum f => .v 0x36 f
  | .vrmax f => .v 0x37 f
  | .vrmin f => .v 0x38 f
  | .vramax f => .v 0x39 f
  | .vrdot f => .v 0x3A f
  | .vpsum f => .v 0x3B f
  | .vshuf f => .v 0x3C f
  | .vbcst f => .v 0x3D f
  | .vlrot f => .v 0x3E f
  | .vslide f => .v 0x3F f
  | .vzip f => .v 0x40 f
  | .vuzp f => .v 0x41 f
  | .vrev f => .v 0x42 f
  | .vcomp f => .v 0x43 f
  | .vmvx f => .v 0x44 f
  | .vins f => .v 0x45 f
  | .vext f => .v 0x46 f
  | .vmvp f => .v 0x47 f
  | .mand f => .v 0x48 f
  | .mor f => .v 0x49 f
  | .mxor f => .v 0x4A f
  | .mnot f => .v 0x4B f
  | .mpopc f => .v 0x4C f
  | .vld f => .v 0x4D f
  | .vst f => .v 0x4E f
  | .vldi f => .v 0x4F f
  | .vsti f => .v 0x50 f
  | .vldb f => .v 0x51 f
  | .vgth f => .v 0x52 f
  | .vsct f => .v 0x53 f
  | .vstc f => .v 0x54 f
  | .zset f => .v 0x55 f
  | .zstep f => .v 0x56 f
  | .zrst f => .v 0x57 f
  | .zget f => .v 0x58 f
  | .sfmt f => .v 0x59 f
  | .zchk f => .v 0x5A f
  | .vclamp f => .v 0x5B f
  | .vlerp f => .v 0x5C f
  | .vrelu f => .v 0x5D f
  | .vexp f => .v 0x5E f
  | .vln f => .v 0x5F f
  | .vtanh f => .v 0x60 f
  | .verf f => .v 0x61 f
  | .vsin f => .v 0x62 f
  | .vcos f => .v 0x63 f
  | .vatn2 f => .v 0x64 f
  | .vturn f => .v 0x65 f
  | .vtcs f => .v 0x66 f
  | .vhyp f => .v 0x67 f
  | .mpushRot f => .m 0x00 (.mp f)
  | .mpushDrv f => .m 0x01 (.mp f)
  | .mpushCxg f => .m 0x02 (.mp f)
  | .mpushFol f => .m 0x03 (.mp f)
  | .mpushSwp f => .m 0x04 (.mp f)
  | .mpushPas f => .m 0x05 (.mp f)
  | .mpushGrd f => .m 0x06 (.gr f)
  | .mlda f => .m 0x07 (.pl f)
  | .mldp f => .m 0x08 (.pl f)
  | .mpatch f => .m 0x09 (.ls f)
  | .mswap f => .m 0x0A (.mp f)
  | .msave f => .m 0x0B (.ad f)
  | .mrest f => .m 0x0C (.ad f)
  | .mgsv f => .m 0x0D (.pl f)
  | .mscli f => .m 0x0E (.ad f)
  | .msclo f => .m 0x0F (.ad f)
  | .mdix f => .m 0x10 (.ls f)
  | .mbits f => .m 0x11 (.ls f)
  | .mrst f => .m 0x12 (.fl f)
  | .mnrm f => .m 0x13 (.nt f)
  | .mstat f => .m 0x14 (.fl f)
  | .mfmt f => .m 0x15 (.fl f)
  | .mdrn f => .m 0x16 (.mp f)
  | .mclr f => .m 0x17 (.fl f)
  | .cpy f => .c 0x00 (.t f)
  | .cst f => .c 0x01 (.t f)
  | .cstz f => .c 0x02 (.t f)
  | .cll f => .c 0x03 (.l f)
  | .cxr f => .c 0x04 (.r f)
  | .cxw f => .c 0x05 (.r f)
  | .cfil f => .c 0x06 (.t f)
  | .cpyt f => .c 0x07 (.t f)
  | .gqin f => .c 0x08 (.gq f)
  | .gath f => .c 0x09 (.q f)
  | .scat f => .c 0x0A (.q f)
  | .wbnd f => .c 0x0B (.w f)
  | .wadv f => .c 0x0C (.w f)
  | .wrel f => .c 0x0D (.w f)
  | .csch f => .c 0x0E (.ks f)
  | .cstep f => .c 0x0F (.kn f)
  | .cabt f => .c 0x10 (.kz f)
  | .crsm f => .c 0x11 (.kr f)
  | .cscan f => .c 0x12 (.kc f)
  | .czip f => .c 0x13 (.t f)
  | .cprf f => .c 0x14 (.t f)
  | .cwb f => .c 0x15 (.t f)
  | .cinv f => .c 0x16 (.t f)
  | .cwms f => .c 0x17 (.kw f)
  | .cfnc f => .c 0x18 (.km f)
  | .csig f => .c 0x19 (.kg f)
  | .cldm f => .c 0x1A (.t f)
  | .csts f => .c 0x1B (.ks f)
  | .cpri f => .c 0x1C (.kp f)
  | .cdup f => .c 0x1D (.t f)
  | .cmsk f => .c 0x1E (.t f)
  | .crpl f => .c 0x1F (.t f)
  | .bundleDispatch => .event
  | .idleEntry _ => .event
  | .stickyReissue _ => .event
  | .resultLand _ => .event
  | .trackedResultLand _ => .event
  | .postedStorePerform _ => .event
  | .singleStepTrap => .event
  | .freezeComplete => .event
  | .cctlResume _ => .event
  | .launchEnd _ _ => .event
  | .taskParked => .event
  | .drainBoundExpiry => .event
  | .preemptionEscalation => .event
  | .contextResume => .event
  | .bankSwitchBack => .event
  | .watchdogExpiry => .event
  | .budgetPeriod => .event
  | .budgetGraceExpiry _ _ => .event
  | .mwaitReturn => .event
  | .waitvReevaluation => .event
  | .waitvTimeout => .event
  | .syncArrival => .event
  | .barrierArrival _ => .event
  | .phaseCompletion _ _ _ => .event
  | .barrierRootTimeout _ => .event
  | .taskEnd => .event
  | .mdrnComplete => .event
  | .mpushLand => .event
  | .planeUnitOperation => .event
  | .copyLandingWrite _ => .event
  | .fragmentReturn _ => .event
  | .copyComplete _ => .event
  | .scheduleEntryRelease => .event
  | .creditGrant _ _ _ _ => .event
  | .remoteFlowWrite _ _ _ => .event
  | .remoteOpmWrite _ _ _ => .event
  | .frameReceive _ _ _ => .event
  | .txq _ _ => .event
  | .frameTransmit _ => .event
  | .rds _ _ => .event
  | .rdx _ _ _ => .event
  | .upg _ _ => .event
  | .wbd _ _ _ _ _ _ => .event
  | .evc _ _ => .event
  | .inv _ => .event
  | .recall _ _ _ => .event
  | .dat _ _ _ _ => .event
  | .cmp _ _ => .event
  | .ack _ _ _ _ _ => .event
  | .homeLocalRead _ => .event
  | .homeLocalWrite _ => .event
  | .uncachedRead _ _ => .event
  | .uncachedWrite _ _ _ => .event
  | .homeSliceEvict _ => .event
  | .sliceEviction _ => .event
  | .metadataRead _ => .event
  | .metadataRebuild _ => .event
  | .ganderScan _ => .event
  | .layerMigration _ => .event
  | .tierDemotion _ _ => .event
  | .translationWalk _ => .event
  | .migrationRewalk _ => .event
  | .pageResponse _ _ => .event
  | .faultBoundExpiry _ => .event
  | .flitCrcError _ => .event
  | .fabricTimeout _ => .event
  | .laneRetrain _ => .event
  | .launchStart _ => .event
  | .taskRelease _ _ => .event
  | .frameTick => .event
  | .collieWatchdogExpiry _ => .event
  | .rclaim _ => .event
  | .hsemAcquire _ => .event
  | .hsemRelease _ => .event
  | .deviceReset _ => .event
  | .powerOnReset => .event
  | .functionLevelReset _ => .event
  | .firmwareUpdate _ _ => .event
  | .firmwareUpdateFuse => .event
  | .firmwareUpdateDone _ => .event
  | .attestationRequest _ => .event
  | .attestationReport _ => .event
  | .invalidateAll => .event
  | .invalidateAsid _ => .event
  | .invalidatePage _ => .event
  | .invalidateTensors _ => .event
  | .invalidationDone => .event
  | .patternTest _ => .event
  | .patternTestDone _ _ => .event
  | .ptestRead _ => .event
  | .opmWrite _ _ _ => .event
  | .hostWindowAccess _ _ _ _ => .event
  | .registerWrite _ _ _ _ => .event
  | .thermalWarning => .event
  | .thermalTrip => .event
  | .completionTimeout _ => .event
  | .portLinkDown _ => .event
  | .refusedWrite _ => .event
  | .priStoppedClear _ => .event

/-- The predicate number and sense of an S payload. -/
def SBody.guard : SBody → Guard
  | .rr f => f.g | .ri f => f.g | .li f => f.g | .pl f => f.g | .bo f => f.g | .lp f => f.g | .sg f => f.g
  | .sr f => f.g | .wv f => f.g | .k f => f.g | .tc f => f.g | .gm f => f.g | .ga f => f.g | .gf f => f.g | .fw f => f.g

/-- The predicate number and sense of an M payload. -/
def MBody.guard : MBody → Guard
  | .mp f => f.g | .gr f => f.g | .pl f => f.g | .ls f => f.g | .ad f => f.g | .nt f => f.g | .fl f => f.g

/-- The predicate number and sense of a C payload. -/
def CBody.guard : CBody → Guard
  | .t f => f.g | .l f => f.g | .r f => f.g | .w f => f.g | .gq f => f.g | .q f => f.g | .ks f => f.g | .kn f => f.g
  | .kz f => f.g | .kr f => f.g | .kp f => f.g | .km f => f.g | .kw f => f.g | .kg f => f.g | .kc f => f.g

/-- The channel of a C payload (Table 3.5). -/
def CBody.ch : CBody → BitVec 3
  | .t f => f.ch | .l f => f.ch | .r f => f.ch | .w f => f.ch | .gq f => f.ch | .q f => f.ch | .ks f => f.ch | .kn f => f.ch
  | .kz f => f.ch | .kr f => f.ch | .kp f => f.ch | .km f => f.ch | .kw f => f.ch | .kg f => f.ch | .kc f => f.ch

/-- The guard of an operation; an event has the guard "always". -/
def View.guard : View → Guard
  | .s _ b => b.guard
  | .v _ f => f.g
  | .m _ b => b.guard
  | .c _ b => b.guard
  | .event => ⟨0, false⟩

/-- Operand kinds of Table 10.1; `z` marks a source that must be a stream (VLD), `dz` a destination that must be one
(VST), `none` a field the instruction does not use. -/
inductive VKind where
  | none | s | d | dv | x | p | m | zr | zw | z | dz
  deriving DecidableEq, Repr

/-- The TYPE values an instruction accepts: floating (000 to 010), integer (011 to 101), FP32 only, INT32 only, any, or
FP32 and INT32 (R151 to R170). -/
inductive VTypes where
  | float | int | f32 | i32 | any | psum
  deriving DecidableEq, Repr

/-- What an IMM may hold: zero, any value, a value within the given low bits, or a rule of the instruction's own. -/
inductive VImm where
  | zero | all | low (n : Nat) | own
  deriving DecidableEq, Repr

/-- The row of an opcode in the tables of chapter 10: the kinds of D, A, B and C, the accepted TYPEs, whether RM is read
(R146), whether MASK must be 0, and the rule for IMM. -/
structure VRow where
  d : VKind
  a : VKind
  b : VKind
  c : VKind
  ty : VTypes
  rm : Bool
  mask0 : Bool
  imm : VImm
  deriving DecidableEq, Repr

/-- The rows of Tables 10.2 to 10.12 and of R156 to R177, by opcode. -/
def vRow (op : Nat) : VRow :=
  match op with
  | 0x00 | 0x01 | 0x02 => ⟨.d, .s, .s, .none, .float, true, false, .zero⟩
  | 0x03 | 0x04 | 0x05 => ⟨.d, .s, .s, .s, .float, true, false, .zero⟩
  | 0x06 | 0x07 => ⟨.d, .s, .s, .none, .float, false, false, .zero⟩
  | 0x08 | 0x09 => ⟨.d, .s, .none, .none, .float, false, false, .zero⟩
  | 0x0A => ⟨.d, .s, .s, .none, .float, false, false, .zero⟩
  | 0x0B => ⟨.d, .s, .s, .none, .float, true, false, .zero⟩
  | 0x0C | 0x0D | 0x0E | 0x0F | 0x10 => ⟨.d, .s, .none, .none, .float, true, false, .zero⟩
  | 0x11 => ⟨.d, .s, .none, .none, .float, true, false, .low 1⟩
  | 0x12 => ⟨.d, .s, .none, .none, .float, false, false, .zero⟩
  | 0x13 | 0x14 | 0x15 | 0x16 | 0x17 | 0x18 => ⟨.m, .s, .s, .none, .f32, false, false, .zero⟩
  | 0x19 => ⟨.d, .s, .s, .m, .f32, false, false, .zero⟩
  | 0x1A | 0x1B => ⟨.d, .s, .s, .none, .int, false, false, .own⟩
  | 0x1C => ⟨.d, .s, .s, .none, .int, false, false, .zero⟩
  | 0x1D => ⟨.d, .s, .s, .none, .int, false, false, .low 1⟩
  | 0x1E | 0x1F | 0x20 => ⟨.d, .s, .s, .none, .int, false, false, .zero⟩
  | 0x21 => ⟨.d, .s, .none, .none, .int, false, false, .zero⟩
  | 0x22 | 0x23 | 0x24 => ⟨.d, .s, .s, .none, .int, false, false, .own⟩
  | 0x25 | 0x26 | 0x27 | 0x28 => ⟨.d, .s, .s, .none, .int, false, false, .zero⟩
  | 0x29 | 0x2A | 0x2B => ⟨.m, .s, .s, .none, .i32, false, false, .zero⟩
  | 0x2C | 0x2D | 0x2E => ⟨.d, .s, .none, .none, .f32, true, false, .own⟩
  | 0x2F => ⟨.d, .s, .s, .none, .f32, false, false, .own⟩
  | 0x30 | 0x31 => ⟨.d, .s, .none, .none, .f32, false, false, .own⟩
  | 0x32 => ⟨.d, .s, .s, .none, .f32, true, false, .low 1⟩
  | 0x33 => ⟨.d, .s, .s, .none, .f32, false, false, .low 1⟩
  | 0x34 => ⟨.d, .s, .none, .none, .f32, false, false, .own⟩
  | 0x35 => ⟨.d, .s, .none, .none, .f32, false, false, .low 2⟩
  | 0x36 => ⟨.dv, .s, .none, .none, .any, true, false, .zero⟩
  | 0x37 | 0x38 | 0x39 => ⟨.dv, .s, .none, .none, .any, false, false, .zero⟩
  | 0x3A => ⟨.dv, .s, .s, .none, .any, true, false, .zero⟩
  | 0x3B => ⟨.d, .s, .none, .none, .psum, true, false, .zero⟩
  | 0x3C => ⟨.d, .s, .s, .none, .f32, false, false, .zero⟩
  | 0x3D | 0x3E => ⟨.d, .s, .none, .none, .f32, false, false, .low 7⟩
  | 0x3F => ⟨.d, .s, .s, .none, .f32, false, false, .low 7⟩
  | 0x40 | 0x41 => ⟨.d, .s, .s, .none, .f32, false, false, .low 1⟩
  | 0x42 | 0x43 => ⟨.d, .s, .none, .none, .f32, false, false, .zero⟩
  | 0x44 => ⟨.d, .x, .none, .none, .f32, false, false, .zero⟩
  | 0x45 => ⟨.dv, .x, .none, .none, .f32, false, true, .low 7⟩
  | 0x46 => ⟨.x, .s, .none, .none, .f32, false, true, .low 8⟩
  | 0x47 => ⟨.p, .m, .none, .none, .f32, false, true, .own⟩
  | 0x48 | 0x49 | 0x4A => ⟨.m, .m, .m, .none, .f32, false, true, .zero⟩
  | 0x4B => ⟨.m, .m, .none, .none, .f32, false, true, .zero⟩
  | 0x4C => ⟨.x, .m, .none, .none, .f32, false, true, .zero⟩
  | 0x4D => ⟨.dv, .z, .none, .none, .any, true, false, .zero⟩
  | 0x4E => ⟨.dz, .s, .none, .none, .any, true, false, .zero⟩
  | 0x4F | 0x51 => ⟨.dv, .x, .none, .none, .f32, false, false, .all⟩
  | 0x50 | 0x54 => ⟨.none, .x, .s, .none, .f32, false, false, .all⟩
  | 0x52 => ⟨.dv, .x, .s, .none, .f32, false, false, .all⟩
  | 0x53 => ⟨.none, .x, .s, .s, .f32, false, false, .all⟩
  | 0x55 | 0x57 => ⟨.zw, .x, .none, .none, .f32, false, true, .all⟩
  | 0x56 => ⟨.zw, .none, .none, .none, .f32, false, true, .all⟩
  | 0x58 => ⟨.dv, .zr, .none, .none, .f32, false, true, .zero⟩
  | 0x59 => ⟨.none, .none, .none, .none, .f32, false, true, .low 4⟩
  | 0x5A => ⟨.x, .zr, .none, .none, .f32, false, true, .zero⟩
  | 0x5B => ⟨.d, .s, .s, .s, .float, false, false, .zero⟩
  | 0x5C => ⟨.d, .s, .s, .s, .float, true, false, .zero⟩
  | 0x5D => ⟨.d, .s, .none, .none, .float, true, false, .own⟩
  | 0x5E | 0x5F | 0x60 | 0x61 | 0x62 | 0x63 => ⟨.d, .s, .none, .none, .float, true, false, .zero⟩
  | 0x64 | 0x67 => ⟨.d, .s, .s, .none, .float, true, false, .zero⟩
  | 0x65 => ⟨.d, .s, .none, .none, .f32, true, false, .zero⟩
  | 0x66 => ⟨.d, .s, .none, .none, .f32, false, false, .low 2⟩
  | _ => ⟨.none, .none, .none, .none, .f32, false, true, .zero⟩

/-- A source field of kind `k` holds `c` (Table 10.1). -/
def vSrcOk (k : VKind) (c : BitVec 7) : Bool :=
  match k with
  | .none => c == 0
  | .s => c.toNat < 80
  | .z | .zr => 64 ≤ c.toNat && c.toNat < 80
  | .x => c.toNat < 64
  | .m => c.toNat < 8
  | _ => false

/-- The D and DS fields of kind `k` (Table 10.1; R145, and DS = 1 with D[5:4] ≠ 0 of Table 3.15). -/
def vDstOk (k : VKind) (d : BitVec 6) (ds : Bool) : Bool :=
  match k with
  | .none => d == 0 && !ds
  | .d => !ds || d.toNat < 16
  | .dz => ds && d.toNat < 16
  | .dv | .x => !ds
  | .p | .zw => !ds && d.toNat < 16
  | .m => !ds && d.toNat < 8
  | _ => false

/-- TYPE is one the instruction accepts. -/
def vTyOk (t : VTypes) (ty : BitVec 3) : Bool :=
  match t with
  | .float => ty.toNat ≤ 2
  | .int => 3 ≤ ty.toNat && ty.toNat ≤ 5
  | .f32 => ty == 0
  | .i32 => ty == 3
  | .any => ty.toNat ≤ 5
  | .psum => ty == 0 || ty == 3

/-- Element width in bits of a TYPE (Table 3.3). -/
def tyWidth (ty : BitVec 3) : Nat :=
  match ty.toNat with
  | 0 | 3 => 32
  | 1 | 2 | 4 => 16
  | _ => 8

/-- The IMM rules that name single values (R153, R157, R159, R160, R162, R168). -/
def vImmOwn (op : Nat) (f : VOp) : Bool :=
  let i := f.imm.toNat
  match op with
  | 0x1A | 0x1B => i < 3
  | 0x22 | 0x23 | 0x24 =>
      f.imm.extractLsb' 5 10 == 0 && (!f.imm.getLsbD 15 || (f.b == 0 && i % 32 < tyWidth f.ty))
  | 0x2C => i / 256 == 0 && i % 16 ≤ 5 && i / 16 % 16 ≤ 5
  | 0x2D => i / 256 == 0 && i % 16 ≤ 8 && 6 ≤ i / 16 % 16 && i / 16 % 16 ≤ 8
  | 0x2E => i / 256 == 0 && 6 ≤ i % 16 && i % 16 ≤ 8 && i / 16 % 16 ≤ 5
  | 0x2F => i < 2
  | 0x30 | 0x31 => i == 0 || i == 1 || i == 4 || i == 5
  | 0x34 => i < 16 && 1 ≤ i % 8 && i % 8 ≤ 5
  | 0x47 => i < 128 || i == 128
  | 0x5D => i == 0 || (256 ≤ i && i < 512)
  | _ => false

/-- A V payload holds no forbidden value (R145, R146). -/
def vOk (op : Nat) (f : VOp) : Bool :=
  let r := vRow op
  vDstOk r.d f.d f.ds && vSrcOk r.a f.a && vSrcOk r.b f.b && vSrcOk r.c f.c && vTyOk r.ty f.ty &&
    (r.rm || f.rm == 0) && (!r.mask0 || f.mask == 0) &&
    (match r.imm with
     | .zero => f.imm == 0
     | .all => true
     | .low n => f.imm.toNat < 2 ^ n
     | .own => vImmOwn op f)

/-- A K payload's unused fields and its K value (Table 6.9, R90, R91, R94, R95). -/
def kOk (op : Nat) (f : FmtK) : Bool :=
  match op with
  | 0x30 => f.d == 0 && f.k == 0
  | 0x32 => f.d == 0 && f.k == 0
  | 0x4F | 0x50 => f.d == 0 && f.a == 0 && f.k.toNat ≤ 3
  | 0x57 => true
  | 0x58 => f.a == 0 && f.k.toNat ≤ 3
  | _ => f.d == 0 && f.a == 0 && f.k == 0

/-- An S payload holds no forbidden value (R71, R79, R92, R325, R328, R350). -/
def sOk (op : Nat) (b : SBody) : Bool :=
  match b with
  | .rr f =>
      if op == 0x13 || op == 0x14 then f.b == 0
      else if 0x21 ≤ op && op ≤ 0x26 then f.d.toNat < 16
      else true
  | .ri f =>
      if 0x1C ≤ op && op ≤ 0x1E then f.imm.toNat < 64
      else if 0x27 ≤ op && op ≤ 0x2A then f.d.toNat < 16
      else true
  | .li _ => true
  | .pl f => f.d.toNat < 16 && f.a.toNat < 16 && f.b.toNat < 16 &&
      (op != 0x2E || (f.b == 0 && !f.na && !f.nb))
  | .bo _ => true
  | .lp f => op == 0x34 || f.cnt.toNat % 4 == 0
  | .sg _ => true
  | .sr f => op == 0x39 || f.val.toNat % 16 == 0
  | .wv f => 8 ≤ f.a.toNat && f.a.toNat ≤ 56 && f.a.toNat % 8 == 0
  | .k f => kOk op f
  | .tc _ => true
  | .gm f => if op == 0x3E || op == 0x43 then f.d.toNat ≤ 62 else if op == 0x51 then f.d == 0 else true
  | .ga _ => true
  | .gf f => if op == 0x52 then f.scope == 0 else f.scope.toNat ≤ 10
  | .fw f =>
      match op with
      | 0x59 => f.b == 0 && f.sub.toNat ≤ 1
      | 0x5D => f.b == 0 && f.sub.toNat ≤ 2
      | 0x5A => f.sub.toNat ≤ 1
      | 0x5E => f.b == 0 && f.sub == 0
      | 0x5F => f.a == 0 && f.b == 0 && f.sub == 0
      | _ => f.b == 0

/-- An operand code of an M payload (R203). -/
def mOperandOk (c : BitVec 7) : Bool := c.toNat < 80

/-- An M payload holds no forbidden value (R203 to R221). -/
def mOk (op : Nat) (b : MBody) : Bool :=
  match b with
  | .mp f =>
      if op ≤ 5 then
        mOperandOk f.inp && mOperandOk f.out && (op == 0 || !f.rev) &&
          (match f.ofmt.toNat with
           | 0 => true
           | 1 => f.out == 0
           | 2 => op == 0 && !f.rev
           | _ => false)
      else f.inp == 0 && f.out == 0 && !f.rev && f.ofmt == 0
  | .gr f =>
      mOperandOk f.inp && mOperandOk f.out && mOperandOk f.gin && mOperandOk f.gout && !f.rev &&
        (f.ofmt == 0 || (f.ofmt == 1 && f.out == 0)) &&
        !(f.ofmt == 0 && f.out == f.gout && f.out.toNat < 64)
  | .pl f => f.k0.toNat + f.nm1.toNat ≤ 63 && (op == 0x0D || !f.clr)
  | .ls _ => true
  | .ad _ => true
  | .nt _ => true
  | .fl f =>
      match op with
      | 0x12 => f.d == 0 && f.fl.toNat < 4
      | 0x14 => f.fl.toNat < 2
      | 0x15 => f.d == 0 && f.fl.toNat < 4
      | _ => f.d == 0 && f.fl != 0

/-- A C payload holds no forbidden value (R254, R255, R259 to R278). -/
def cOk (op : Nat) (b : CBody) : Bool :=
  match b with
  | .t f =>
      match op with
      | 0x06 => f.xb != 0 && f.tid == 0 && f.msk == 0
      | 0x07 | 0x1D | 0x1F => f.msk == 0
      | 0x13 | 0x14 | 0x15 | 0x16 => f.xa == 0 && f.msk == 0 && f.spa == 0
      | 0x1E => f.xa == 0
      | _ => f.xa == 0 && f.msk == 0
  | .l _ => true
  | .r _ => true
  | .w f =>
      match op with
      | 0x0B => f.k == 0
      | 0x0C => f.xa == 0 && f.k.toNat ≤ 256
      | _ => f.xa == 0 && f.k == 0
  | .gq f => f.ch == 0
  | .q f => f.n != 0 && f.n.toNat ≤ 64
  | .ks f => op != 0x0E || f.ch == 0
  | .kn f => f.ch == 0
  | .kz _ => true
  | .kr _ => true
  | .kp _ => true
  | .km _ => true
  | .kw _ => true
  | .kg f => f.scope.toNat ≤ 10
  | .kc f => f.cmp.toNat ≤ 3

/-- The payload holds no forbidden value (cause 0x06). -/
def View.ok : View → Bool
  | .s op b => sOk op b
  | .v op f => vOk op f
  | .m op b => mOk op b
  | .c op b => cOk op b
  | .event => true

/-- The SUB value a SEMA row stands for (Table 24.7). -/
def semaSubOk : Instr → Bool
  | .semaAcquire f => f.sub == 0
  | .semaRelease f => f.sub == 1
  | .semaQuery f => f.sub == 2
  | _ => true

/-- The operation holds no forbidden payload value; an event has no payload. -/
def Instr.payloadOk (i : Instr) : Bool := semaSubOk i && i.view.ok

end Sys2Proof
end

