-- ==== Sys2Proof/WellFormed.lean ====
section
/-! DEFINITION. Which instructions the part has: an operation whose payload holds no forbidden value (cause 0x06 of
Table 3.15), and every event. -/
namespace Sys2Proof

/-- An instruction is well formed when its payload holds no value that R21, R22, R71, R145, R203, R254 or its own
description forbids. -/
abbrev Instr.WellFormed (i : Instr) : Prop := i.payloadOk = true

end Sys2Proof
end

