-- ==== Sys2Proof/Decode.lean ====
section
/-! DEFINITION. Decoding payload words and bundles (spec/03 R17 to R22, R37 to R40), and the encoder beside it. -/
namespace Sys2Proof

/-- Why a payload word is no operation: the three decoding causes 0x04, 0x05 and 0x06 of Table 3.15. -/
inductive Reject where
  | unassigned
  | profile
  | forbidden
  deriving DecidableEq, Repr

/-- Succeeds when the bits that a format shows as zero are zero (R22). -/
def zeroBits (b : Bool) (f : α) : Except Reject α := if b then .ok f else .error .forbidden

/-- PRED and SENSE of an S payload (Table 3.2). -/
def guardS (w : BitVec 32) : Guard := ⟨w.extractLsb' 21 4, w.getLsbD 20⟩
/-- PRED and SENSE of a V payload (Table 3.3). -/
def guardV (w : BitVec 64) : Guard := ⟨w.extractLsb' 53 4, w.getLsbD 52⟩
/-- PRED and SENSE of an M or C payload (Tables 3.4, 3.5). -/
def guardC (w : BitVec 64) : Guard := ⟨w.extractLsb' 54 4, w.getLsbD 53⟩

/-- Format RR (Table 6.1). -/
def readRR (w : BitVec 32) : Except Reject FmtRR :=
  zeroBits (w.extractLsb' 0 2 == 0) ⟨guardS w, w.extractLsb' 14 6, w.extractLsb' 8 6, w.extractLsb' 2 6⟩
/-- Format RI (Table 6.2). -/
def readRI (w : BitVec 32) : Except Reject FmtRI :=
  .ok ⟨guardS w, w.extractLsb' 14 6, w.extractLsb' 8 6, w.extractLsb' 0 8⟩
/-- Format LI (Table 6.3). -/
def readLI (w : BitVec 32) : Except Reject FmtLI := .ok ⟨guardS w, w.extractLsb' 14 6, w.extractLsb' 0 14⟩
/-- Format PL (Table 6.4). -/
def readPL (w : BitVec 32) : Except Reject FmtPL :=
  .ok ⟨guardS w, w.extractLsb' 14 6, w.extractLsb' 8 6, w.extractLsb' 2 6, w.getLsbD 1, w.getLsbD 0⟩
/-- Format BO (Table 6.5). -/
def readBO (w : BitVec 32) : Except Reject FmtBO := .ok ⟨guardS w, w.extractLsb' 0 20⟩
/-- Format LP (Table 6.6). -/
def readLP (w : BitVec 32) : Except Reject FmtLP :=
  .ok ⟨guardS w, w.extractLsb' 14 6, w.extractLsb' 8 6, w.extractLsb' 0 8⟩
/-- Format SR of GETS (Table 6.7): bits [3:0] are zero. -/
def readSG (w : BitVec 32) : Except Reject FmtSG :=
  zeroBits (w.extractLsb' 0 4 == 0) ⟨guardS w, w.extractLsb' 14 6, w.extractLsb' 4 10⟩
/-- Format SR of SETS and SETSI (Table 6.7). -/
def readSR (w : BitVec 32) : Except Reject FmtSR := .ok ⟨guardS w, w.extractLsb' 10 10, w.extractLsb' 0 10⟩
/-- Format WV (Table 6.8). -/
def readWV (w : BitVec 32) : Except Reject FmtWV :=
  zeroBits (!w.getLsbD 0) ⟨guardS w, w.extractLsb' 14 6, w.extractLsb' 8 6, w.extractLsb' 2 6, w.getLsbD 1⟩
/-- Format K (Table 6.9). -/
def readK (w : BitVec 32) : Except Reject FmtK :=
  zeroBits (w.extractLsb' 4 4 == 0) ⟨guardS w, w.extractLsb' 14 6, w.extractLsb' 8 6, w.extractLsb' 0 4⟩
/-- Format TC (Table 6.10). -/
def readTC (w : BitVec 32) : Except Reject FmtTC :=
  zeroBits (w.extractLsb' 16 4 == 0) ⟨guardS w, w.extractLsb' 0 16⟩
/-- Format GM (Table 22.1). -/
def readGM (w : BitVec 32) : Except Reject FmtGM :=
  .ok ⟨guardS w, w.extractLsb' 14 6, w.extractLsb' 8 6, w.extractLsb' 0 8⟩
/-- Format GA (Table 22.2). -/
def readGA (w : BitVec 32) : Except Reject FmtGA :=
  zeroBits (!w.getLsbD 0) ⟨guardS w, w.extractLsb' 14 6, w.extractLsb' 8 6, w.extractLsb' 2 6, w.getLsbD 1⟩
/-- Format GF (Table 22.3). -/
def readGF (w : BitVec 32) : Except Reject FmtGF :=
  zeroBits (w.extractLsb' 4 16 == 0) ⟨guardS w, w.extractLsb' 0 4⟩
/-- Format FW (Table 24.6). -/
def readFW (w : BitVec 32) : Except Reject FmtFW :=
  .ok ⟨guardS w, w.extractLsb' 14 6, w.extractLsb' 8 6, w.extractLsb' 2 6, w.extractLsb' 0 2⟩
/-- The V payload (Table 3.3). -/
def readV (w : BitVec 64) : Except Reject VOp :=
  .ok ⟨guardV w, w.extractLsb' 46 6, w.extractLsb' 39 7, w.extractLsb' 32 7, w.extractLsb' 25 7, w.extractLsb' 22 3,
    w.extractLsb' 19 3, w.extractLsb' 17 2, w.getLsbD 16, w.extractLsb' 0 16⟩
/-- Format MP (Tables 3.4, 13.2). -/
def readMP (w : BitVec 64) : Except Reject FmtMP :=
  zeroBits (w.extractLsb' 0 36 == 0)
    ⟨guardC w, w.extractLsb' 46 7, w.extractLsb' 39 7, w.getLsbD 38, w.extractLsb' 36 2⟩
/-- Format GR (Table 13.3). -/
def readGR (w : BitVec 64) : Except Reject FmtGR :=
  zeroBits (w.extractLsb' 0 22 == 0)
    ⟨guardC w, w.extractLsb' 46 7, w.extractLsb' 39 7, w.getLsbD 38, w.extractLsb' 36 2, w.extractLsb' 29 7,
      w.extractLsb' 22 7⟩
/-- IN, OUT, REV and OFMT are zero outside MPUSH (R203). -/
def noPush (w : BitVec 64) : Bool := w.extractLsb' 36 17 == 0
/-- Format PL of the M slot (Table 13.4). -/
def readMPL (w : BitVec 64) : Except Reject FmtMPL :=
  zeroBits (noPush w && !w.getLsbD 0)
    ⟨guardC w, w.extractLsb' 14 22, w.extractLsb' 8 6, w.extractLsb' 2 6, w.getLsbD 1⟩
/-- Format LS (Table 13.5). -/
def readLS (w : BitVec 64) : Except Reject FmtLS :=
  zeroBits (noPush w) ⟨guardC w, w.extractLsb' 14 22, w.extractLsb' 0 14⟩
/-- Format AD (Table 13.6). -/
def readAD (w : BitVec 64) : Except Reject FmtAD :=
  zeroBits (noPush w && w.extractLsb' 0 14 == 0) ⟨guardC w, w.extractLsb' 14 22⟩
/-- Format NT (Table 13.7). -/
def readNT (w : BitVec 64) : Except Reject FmtNT :=
  zeroBits (noPush w && w.extractLsb' 33 3 == 0) ⟨guardC w, w.getLsbD 32, w.extractLsb' 0 32⟩
/-- Format FL (Table 13.8). -/
def readFL (w : BitVec 64) : Except Reject FmtFL :=
  zeroBits (noPush w && w.extractLsb' 4 26 == 0) ⟨guardC w, w.extractLsb' 30 6, w.extractLsb' 0 4⟩
/-- Format T (Table 17.2). -/
def readT (w : BitVec 64) : Except Reject FmtT :=
  zeroBits (!w.getLsbD 3)
    ⟨guardC w, w.extractLsb' 50 3, w.extractLsb' 38 12, w.extractLsb' 32 6, w.extractLsb' 10 22, w.extractLsb' 4 6,
      w.extractLsb' 0 3⟩
/-- Format L (Table 17.4): DST is bits [27:6]. -/
def readL (w : BitVec 64) : Except Reject FmtL :=
  .ok ⟨guardC w, w.extractLsb' 50 3, w.extractLsb' 28 22, w.extractLsb' 6 22, w.extractLsb' 0 6⟩
/-- Format R (Table 17.4). -/
def readR (w : BitVec 64) : Except Reject FmtR :=
  zeroBits (w.extractLsb' 0 16 == 0)
    ⟨guardC w, w.extractLsb' 50 3, w.extractLsb' 28 22, w.extractLsb' 22 6, w.extractLsb' 16 6⟩
/-- Format W (Table 17.5). -/
def readW (w : BitVec 64) : Except Reject FmtW :=
  zeroBits (w.extractLsb' 0 32 == 0)
    ⟨guardC w, w.extractLsb' 50 3, w.extractLsb' 47 3, w.extractLsb' 41 6, w.extractLsb' 32 9⟩
/-- Format Q of GQIN (Table 17.6). -/
def readGQ (w : BitVec 64) : Except Reject FmtGQ :=
  zeroBits (w.extractLsb' 0 44 == 0) ⟨guardC w, w.extractLsb' 50 3, w.extractLsb' 44 6⟩
/-- Format Q of GATH and SCAT (Table 17.6). -/
def readQ (w : BitVec 64) : Except Reject FmtQ :=
  zeroBits (w.extractLsb' 0 9 == 0)
    ⟨guardC w, w.extractLsb' 50 3, w.extractLsb' 38 12, w.extractLsb' 31 7, w.extractLsb' 9 22⟩
/-- CSCH and CSTS (Table 17.7). -/
def readKS (w : BitVec 64) : Except Reject FmtKS :=
  zeroBits (w.extractLsb' 32 18 == 0 && w.extractLsb' 0 10 == 0) ⟨guardC w, w.extractLsb' 50 3, w.extractLsb' 10 22⟩
/-- CSTEP (Table 17.7). -/
def readKN (w : BitVec 64) : Except Reject FmtKN :=
  zeroBits (w.extractLsb' 16 34 == 0) ⟨guardC w, w.extractLsb' 50 3, w.extractLsb' 0 16⟩
/-- CABT (Table 17.7). -/
def readKZ (w : BitVec 64) : Except Reject FmtKZ :=
  zeroBits (w.extractLsb' 0 50 == 0) ⟨guardC w, w.extractLsb' 50 3⟩
/-- CRSM (Table 17.7). -/
def readKR (w : BitVec 64) : Except Reject FmtKR :=
  zeroBits (w.extractLsb' 0 37 == 0) ⟨guardC w, w.extractLsb' 50 3, w.extractLsb' 38 12, w.getLsbD 37⟩
/-- CPRI (Table 17.7). -/
def readKP (w : BitVec 64) : Except Reject FmtKP :=
  zeroBits (w.extractLsb' 2 48 == 0) ⟨guardC w, w.extractLsb' 50 3, w.extractLsb' 0 2⟩
/-- CFNC (Table 17.7). -/
def readKM (w : BitVec 64) : Except Reject FmtKM :=
  zeroBits (w.extractLsb' 0 42 == 0) ⟨guardC w, w.extractLsb' 50 3, w.extractLsb' 42 8⟩
/-- CWMS (Table 17.7). -/
def readKW (w : BitVec 64) : Except Reject FmtKW :=
  zeroBits (w.extractLsb' 32 18 == 0 && w.extractLsb' 0 4 == 0)
    ⟨guardC w, w.extractLsb' 50 3, w.extractLsb' 10 22, w.extractLsb' 4 6⟩
/-- CSIG (Table 17.7). -/
def readKG (w : BitVec 64) : Except Reject FmtKG :=
  zeroBits (w.extractLsb' 0 33 == 0)
    ⟨guardC w, w.extractLsb' 50 3, w.extractLsb' 44 6, w.extractLsb' 38 6, w.extractLsb' 34 4, w.getLsbD 33⟩
/-- CSCAN (Table 17.7). -/
def readKC (w : BitVec 64) : Except Reject FmtKC :=
  zeroBits (w.extractLsb' 0 26 == 0)
    ⟨guardC w, w.extractLsb' 50 3, w.extractLsb' 38 12, w.extractLsb' 32 6, w.extractLsb' 29 3, w.extractLsb' 26 3⟩

/-- The S payload as opcode and fields; an unassigned opcode is rejected (R39, R40). -/
def decodeSFields (w : BitVec 32) : Except Reject View :=
  let op := (w.extractLsb' 25 7).toNat
  match op with
  | 0x00 | 0x01 | 0x02 | 0x03 | 0x04 | 0x05 | 0x06 | 0x07 | 0x08 | 0x09 | 0x0A | 0x0B | 0x0C | 0x0D | 0x0E |
    0x0F | 0x10 | 0x11 | 0x12 | 0x13 | 0x14 | 0x15 | 0x16 | 0x17 =>
    (readRR w).map fun f => .s op (.rr f)
  | 0x18 | 0x19 | 0x1A | 0x1B | 0x1C | 0x1D | 0x1E =>
    (readRI w).map fun f => .s op (.ri f)
  | 0x1F | 0x20 =>
    (readLI w).map fun f => .s op (.li f)
  | 0x21 | 0x22 | 0x23 | 0x24 | 0x25 | 0x26 =>
    (readRR w).map fun f => .s op (.rr f)
  | 0x27 | 0x28 | 0x29 | 0x2A =>
    (readRI w).map fun f => .s op (.ri f)
  | 0x2B | 0x2C | 0x2D | 0x2E =>
    (readPL w).map fun f => .s op (.pl f)
  | 0x2F =>
    (readBO w).map fun f => .s op (.bo f)
  | 0x30 =>
    (readK w).map fun f => .s op (.k f)
  | 0x31 =>
    (readBO w).map fun f => .s op (.bo f)
  | 0x32 =>
    (readK w).map fun f => .s op (.k f)
  | 0x33 | 0x34 =>
    (readLP w).map fun f => .s op (.lp f)
  | 0x35 | 0x36 =>
    (readK w).map fun f => .s op (.k f)
  | 0x37 =>
    (readSG w).map fun f => .s op (.sg f)
  | 0x38 | 0x39 =>
    (readSR w).map fun f => .s op (.sr f)
  | 0x3A | 0x3B | 0x3C | 0x3D | 0x3E | 0x3F | 0x40 | 0x41 | 0x42 | 0x43 =>
    (readGM w).map fun f => .s op (.gm f)
  | 0x44 | 0x45 | 0x46 | 0x47 | 0x48 | 0x49 | 0x4A | 0x4B =>
    (readGA w).map fun f => .s op (.ga f)
  | 0x4C | 0x4D | 0x4E =>
    (readGF w).map fun f => .s op (.gf f)
  | 0x4F | 0x50 =>
    (readK w).map fun f => .s op (.k f)
  | 0x51 =>
    (readGM w).map fun f => .s op (.gm f)
  | 0x52 =>
    (readGF w).map fun f => .s op (.gf f)
  | 0x53 =>
    (readWV w).map fun f => .s op (.wv f)
  | 0x54 =>
    (readK w).map fun f => .s op (.k f)
  | 0x55 | 0x56 =>
    (readTC w).map fun f => .s op (.tc f)
  | 0x57 | 0x58 =>
    (readK w).map fun f => .s op (.k f)
  | 0x59 | 0x5A =>
    (readFW w).map fun f => .s op (.fw f)
  | 0x5B | 0x5C =>
    (readGM w).map fun f => .s op (.gm f)
  | 0x5D | 0x5E | 0x5F =>
    (readFW w).map fun f => .s op (.fw f)
  | _ => .error .unassigned

/-- The V payload as opcode and fields; an unassigned opcode is rejected (R39, R40). -/
def decodeVFields (w : BitVec 64) : Except Reject View :=
  let op := (w.extractLsb' 57 7).toNat
  if op < 0x68 then (readV w).map (.v op) else .error .unassigned

/-- The M payload as opcode and fields; an unassigned opcode is rejected (R39, R40). -/
def decodeMFields (w : BitVec 64) : Except Reject View :=
  let op := (w.extractLsb' 58 6).toNat
  match op with
  | 0x00 | 0x01 | 0x02 | 0x03 | 0x04 | 0x05 =>
    (readMP w).map fun f => .m op (.mp f)
  | 0x06 =>
    (readGR w).map fun f => .m op (.gr f)
  | 0x07 | 0x08 =>
    (readMPL w).map fun f => .m op (.pl f)
  | 0x09 =>
    (readLS w).map fun f => .m op (.ls f)
  | 0x0A =>
    (readMP w).map fun f => .m op (.mp f)
  | 0x0B | 0x0C =>
    (readAD w).map fun f => .m op (.ad f)
  | 0x0D =>
    (readMPL w).map fun f => .m op (.pl f)
  | 0x0E | 0x0F =>
    (readAD w).map fun f => .m op (.ad f)
  | 0x10 | 0x11 =>
    (readLS w).map fun f => .m op (.ls f)
  | 0x12 =>
    (readFL w).map fun f => .m op (.fl f)
  | 0x13 =>
    (readNT w).map fun f => .m op (.nt f)
  | 0x14 | 0x15 =>
    (readFL w).map fun f => .m op (.fl f)
  | 0x16 =>
    (readMP w).map fun f => .m op (.mp f)
  | 0x17 =>
    (readFL w).map fun f => .m op (.fl f)
  | _ => .error .unassigned

/-- The C payload as opcode and fields; an unassigned opcode is rejected (R39, R40). -/
def decodeCFields (w : BitVec 64) : Except Reject View :=
  let op := (w.extractLsb' 58 6).toNat
  match op with
  | 0x00 | 0x01 | 0x02 =>
    (readT w).map fun f => .c op (.t f)
  | 0x03 =>
    (readL w).map fun f => .c op (.l f)
  | 0x04 | 0x05 =>
    (readR w).map fun f => .c op (.r f)
  | 0x06 | 0x07 =>
    (readT w).map fun f => .c op (.t f)
  | 0x08 =>
    (readGQ w).map fun f => .c op (.gq f)
  | 0x09 | 0x0A =>
    (readQ w).map fun f => .c op (.q f)
  | 0x0B | 0x0C | 0x0D =>
    (readW w).map fun f => .c op (.w f)
  | 0x0E =>
    (readKS w).map fun f => .c op (.ks f)
  | 0x0F =>
    (readKN w).map fun f => .c op (.kn f)
  | 0x10 =>
    (readKZ w).map fun f => .c op (.kz f)
  | 0x11 =>
    (readKR w).map fun f => .c op (.kr f)
  | 0x12 =>
    (readKC w).map fun f => .c op (.kc f)
  | 0x13 | 0x14 | 0x15 | 0x16 =>
    (readT w).map fun f => .c op (.t f)
  | 0x17 =>
    (readKW w).map fun f => .c op (.kw f)
  | 0x18 =>
    (readKM w).map fun f => .c op (.km f)
  | 0x19 =>
    (readKG w).map fun f => .c op (.kg f)
  | 0x1A =>
    (readT w).map fun f => .c op (.t f)
  | 0x1B =>
    (readKS w).map fun f => .c op (.ks f)
  | 0x1C =>
    (readKP w).map fun f => .c op (.kp f)
  | 0x1D | 0x1E | 0x1F =>
    (readT w).map fun f => .c op (.t f)
  | _ => .error .unassigned

/-- The instruction a decoded S payload stands for. -/
def View.sInstr : View → Option Instr
  | .s 0x00 (.rr f) => some (.add f)
  | .s 0x01 (.rr f) => some (.sub f)
  | .s 0x02 (.rr f) => some (.and f)
  | .s 0x03 (.rr f) => some (.or f)
  | .s 0x04 (.rr f) => some (.xor f)
  | .s 0x05 (.rr f) => some (.shl f)
  | .s 0x06 (.rr f) => some (.shr f)
  | .s 0x07 (.rr f) => some (.sha f)
  | .s 0x08 (.rr f) => some (.mul f)
  | .s 0x09 (.rr f) => some (.mulhs f)
  | .s 0x0A (.rr f) => some (.mulhu f)
  | .s 0x0B (.rr f) => some (.divs f)
  | .s 0x0C (.rr f) => some (.divu f)
  | .s 0x0D (.rr f) => some (.rems f)
  | .s 0x0E (.rr f) => some (.remu f)
  | .s 0x0F (.rr f) => some (.mins f)
  | .s 0x10 (.rr f) => some (.maxs f)
  | .s 0x11 (.rr f) => some (.minu f)
  | .s 0x12 (.rr f) => some (.maxu f)
  | .s 0x13 (.rr f) => some (.clz f)
  | .s 0x14 (.rr f) => some (.popc f)
  | .s 0x15 (.rr f) => some (.bext f)
  | .s 0x16 (.rr f) => some (.bdep f)
  | .s 0x17 (.rr f) => some (.sel f)
  | .s 0x18 (.ri f) => some (.addi f)
  | .s 0x19 (.ri f) => some (.andi f)
  | .s 0x1A (.ri f) => some (.ori f)
  | .s 0x1B (.ri f) => some (.xori f)
  | .s 0x1C (.ri f) => some (.shli f)
  | .s 0x1D (.ri f) => some (.shri f)
  | .s 0x1E (.ri f) => some (.shai f)
  | .s 0x1F (.li f) => some (.li f)
  | .s 0x20 (.li f) => some (.lis f)
  | .s 0x21 (.rr f) => some (.cmpEq f)
  | .s 0x22 (.rr f) => some (.cmpNe f)
  | .s 0x23 (.rr f) => some (.cmpLts f)
  | .s 0x24 (.rr f) => some (.cmpLes f)
  | .s 0x25 (.rr f) => some (.cmpLtu f)
  | .s 0x26 (.rr f) => some (.cmpLeu f)
  | .s 0x27 (.ri f) => some (.cmpiEq f)
  | .s 0x28 (.ri f) => some (.cmpiNe f)
  | .s 0x29 (.ri f) => some (.cmpiLts f)
  | .s 0x2A (.ri f) => some (.cmpiLtu f)
  | .s 0x2B (.pl f) => some (.pand f)
  | .s 0x2C (.pl f) => some (.por f)
  | .s 0x2D (.pl f) => some (.pxor f)
  | .s 0x2E (.pl f) => some (.pnot f)
  | .s 0x2F (.bo f) => some (.br f)
  | .s 0x30 (.k f) => some (.jmp f)
  | .s 0x31 (.bo f) => some (.call f)
  | .s 0x32 (.k f) => some (.ret f)
  | .s 0x33 (.lp f) => some (.loop f)
  | .s 0x34 (.lp f) => some (.loopi f)
  | .s 0x35 (.k f) => some (.lbrk f)
  | .s 0x36 (.k f) => some (.ppt f)
  | .s 0x37 (.sg f) => some (.gets f)
  | .s 0x38 (.sr f) => some (.sets f)
  | .s 0x39 (.sr f) => some (.setsi f)
  | .s 0x3A (.gm f) => some (.ldgB f)
  | .s 0x3B (.gm f) => some (.ldgH f)
  | .s 0x3C (.gm f) => some (.ldgW f)
  | .s 0x3D (.gm f) => some (.ldgD f)
  | .s 0x3E (.gm f) => some (.ldgQ f)
  | .s 0x3F (.gm f) => some (.stgB f)
  | .s 0x40 (.gm f) => some (.stgH f)
  | .s 0x41 (.gm f) => some (.stgW f)
  | .s 0x42 (.gm f) => some (.stgD f)
  | .s 0x43 (.gm f) => some (.stgQ f)
  | .s 0x44 (.ga f) => some (.aadd f)
  | .s 0x45 (.ga f) => some (.aand f)
  | .s 0x46 (.ga f) => some (.aor f)
  | .s 0x47 (.ga f) => some (.axor f)
  | .s 0x48 (.ga f) => some (.amins f)
  | .s 0x49 (.ga f) => some (.amaxs f)
  | .s 0x4A (.ga f) => some (.axch f)
  | .s 0x4B (.ga f) => some (.acas f)
  | .s 0x4C (.gf f) => some (.rel f)
  | .s 0x4D (.gf f) => some (.acq f)
  | .s 0x4E (.gf f) => some (.drn f)
  | .s 0x4F (.k f) => some (.sync f)
  | .s 0x50 (.k f) => some (.arrv f)
  | .s 0x51 (.gm f) => some (.mon f)
  | .s 0x52 (.gf f) => some (.mwait f)
  | .s 0x53 (.wv f) => some (.waitv f)
  | .s 0x54 (.k f) => some (.halt f)
  | .s 0x55 (.tc f) => some (.trap f)
  | .s 0x56 (.tc f) => some (.brk f)
  | .s 0x57 (.k f) => some (.lnch f)
  | .s 0x58 (.k f) => some (.time f)
  | .s 0x59 (.fw f) => some (.qpoll f)
  | .s 0x5A (.fw f) => some (.qpost f)
  | .s 0x5B (.gm f) => some (.rbld f)
  | .s 0x5C (.gm f) => some (.rbst f)
  | .s 0x5D (.fw f) =>
    match f.sub.toNat with
    | 0 => some (.semaAcquire f)
    | 1 => some (.semaRelease f)
    | 2 => some (.semaQuery f)
    | _ => none
  | .s 0x5E (.fw f) => some (.wdog f)
  | .s 0x5F (.fw f) => some (.fclk f)
  | _ => none

/-- The instruction a decoded V payload stands for. -/
def View.vInstr : View → Option Instr
  | .v 0x00 f => some (.vadd f)
  | .v 0x01 f => some (.vsub f)
  | .v 0x02 f => some (.vmul f)
  | .v 0x03 f => some (.vfma f)
  | .v 0x04 f => some (.vfms f)
  | .v 0x05 f => some (.vfnma f)
  | .v 0x06 f => some (.vmin f)
  | .v 0x07 f => some (.vmax f)
  | .v 0x08 f => some (.vabs f)
  | .v 0x09 f => some (.vneg f)
  | .v 0x0A f => some (.vcpys f)
  | .v 0x0B f => some (.vdiv f)
  | .v 0x0C f => some (.vsqrt f)
  | .v 0x0D f => some (.vrcp f)
  | .v 0x0E f => some (.vrsq f)
  | .v 0x0F f => some (.vexp2 f)
  | .v 0x10 f => some (.vlog2 f)
  | .v 0x11 f => some (.vrint f)
  | .v 0x12 f => some (.vclass f)
  | .v 0x13 f => some (.vcmpEq f)
  | .v 0x14 f => some (.vcmpNe f)
  | .v 0x15 f => some (.vcmpLt f)
  | .v 0x16 f => some (.vcmpLe f)
  | .v 0x17 f => some (.vcmpUn f)
  | .v 0x18 f => some (.vcmpOd f)
  | .v 0x19 f => some (.vsel f)
  | .v 0x1A f => some (.viadd f)
  | .v 0x1B f => some (.visub f)
  | .v 0x1C f => some (.vimul f)
  | .v 0x1D f => some (.vimulh f)
  | .v 0x1E f => some (.vand f)
  | .v 0x1F f => some (.vor f)
  | .v 0x20 f => some (.vxor f)
  | .v 0x21 f => some (.vnot f)
  | .v 0x22 f => some (.vshl f)
  | .v 0x23 f => some (.vshr f)
  | .v 0x24 f => some (.vsha f)
  | .v 0x25 f => some (.vimin f)
  | .v 0x26 f => some (.vimax f)
  | .v 0x27 f => some (.viminu f)
  | .v 0x28 f => some (.vimaxu f)
  | .v 0x29 f => some (.vicmpEq f)
  | .v 0x2A f => some (.vicmpLt f)
  | .v 0x2B f => some (.vicmpLtu f)
  | .v 0x2C f => some (.vcvtf f)
  | .v 0x2D f => some (.vcvti f)
  | .v 0x2E f => some (.vcvtif f)
  | .v 0x2F f => some (.vpack f)
  | .v 0x30 f => some (.vunpkLo f)
  | .v 0x31 f => some (.vunpkHi f)
  | .v 0x32 f => some (.vqnt f)
  | .v 0x33 f => some (.vdqt f)
  | .v 0x34 f => some (.vbsc f)
  | .v 0x35 f => some (.vpsd f)
  | .v 0x36 f => some (.vrsum f)
  | .v 0x37 f => some (.vrmax f)
  | .v 0x38 f => some (.vrmin f)
  | .v 0x39 f => some (.vramax f)
  | .v 0x3A f => some (.vrdot f)
  | .v 0x3B f => some (.vpsum f)
  | .v 0x3C f => some (.vshuf f)
  | .v 0x3D f => some (.vbcst f)
  | .v 0x3E f => some (.vlrot f)
  | .v 0x3F f => some (.vslide f)
  | .v 0x40 f => some (.vzip f)
  | .v 0x41 f => some (.vuzp f)
  | .v 0x42 f => some (.vrev f)
  | .v 0x43 f => some (.vcomp f)
  | .v 0x44 f => some (.vmvx f)
  | .v 0x45 f => some (.vins f)
  | .v 0x46 f => some (.vext f)
  | .v 0x47 f => some (.vmvp f)
  | .v 0x48 f => some (.mand f)
  | .v 0x49 f => some (.mor f)
  | .v 0x4A f => some (.mxor f)
  | .v 0x4B f => some (.mnot f)
  | .v 0x4C f => some (.mpopc f)
  | .v 0x4D f => some (.vld f)
  | .v 0x4E f => some (.vst f)
  | .v 0x4F f => some (.vldi f)
  | .v 0x50 f => some (.vsti f)
  | .v 0x51 f => some (.vldb f)
  | .v 0x52 f => some (.vgth f)
  | .v 0x53 f => some (.vsct f)
  | .v 0x54 f => some (.vstc f)
  | .v 0x55 f => some (.zset f)
  | .v 0x56 f => some (.zstep f)
  | .v 0x57 f => some (.zrst f)
  | .v 0x58 f => some (.zget f)
  | .v 0x59 f => some (.sfmt f)
  | .v 0x5A f => some (.zchk f)
  | .v 0x5B f => some (.vclamp f)
  | .v 0x5C f => some (.vlerp f)
  | .v 0x5D f => some (.vrelu f)
  | .v 0x5E f => some (.vexp f)
  | .v 0x5F f => some (.vln f)
  | .v 0x60 f => some (.vtanh f)
  | .v 0x61 f => some (.verf f)
  | .v 0x62 f => some (.vsin f)
  | .v 0x63 f => some (.vcos f)
  | .v 0x64 f => some (.vatn2 f)
  | .v 0x65 f => some (.vturn f)
  | .v 0x66 f => some (.vtcs f)
  | .v 0x67 f => some (.vhyp f)
  | _ => none

/-- The instruction a decoded M payload stands for. -/
def View.mInstr : View → Option Instr
  | .m 0x00 (.mp f) => some (.mpushRot f)
  | .m 0x01 (.mp f) => some (.mpushDrv f)
  | .m 0x02 (.mp f) => some (.mpushCxg f)
  | .m 0x03 (.mp f) => some (.mpushFol f)
  | .m 0x04 (.mp f) => some (.mpushSwp f)
  | .m 0x05 (.mp f) => some (.mpushPas f)
  | .m 0x06 (.gr f) => some (.mpushGrd f)
  | .m 0x07 (.pl f) => some (.mlda f)
  | .m 0x08 (.pl f) => some (.mldp f)
  | .m 0x09 (.ls f) => some (.mpatch f)
  | .m 0x0A (.mp f) => some (.mswap f)
  | .m 0x0B (.ad f) => some (.msave f)
  | .m 0x0C (.ad f) => some (.mrest f)
  | .m 0x0D (.pl f) => some (.mgsv f)
  | .m 0x0E (.ad f) => some (.mscli f)
  | .m 0x0F (.ad f) => some (.msclo f)
  | .m 0x10 (.ls f) => some (.mdix f)
  | .m 0x11 (.ls f) => some (.mbits f)
  | .m 0x12 (.fl f) => some (.mrst f)
  | .m 0x13 (.nt f) => some (.mnrm f)
  | .m 0x14 (.fl f) => some (.mstat f)
  | .m 0x15 (.fl f) => some (.mfmt f)
  | .m 0x16 (.mp f) => some (.mdrn f)
  | .m 0x17 (.fl f) => some (.mclr f)
  | _ => none

/-- The instruction a decoded C payload stands for. -/
noncomputable def View.cInstr : View → Option Instr
  | .c 0x00 (.t f) => some (.cpy f)
  | .c 0x01 (.t f) => some (.cst f)
  | .c 0x02 (.t f) => some (.cstz f)
  | .c 0x03 (.l f) => some (.cll f)
  | .c 0x04 (.r f) => some (.cxr f)
  | .c 0x05 (.r f) => some (.cxw f)
  | .c 0x06 (.t f) => some (.cfil f)
  | .c 0x07 (.t f) => some (.cpyt f)
  | .c 0x08 (.gq f) => some (.gqin f)
  | .c 0x09 (.q f) => some (.gath f)
  | .c 0x0A (.q f) => some (.scat f)
  | .c 0x0B (.w f) => some (.wbnd f)
  | .c 0x0C (.w f) => some (.wadv f)
  | .c 0x0D (.w f) => some (.wrel f)
  | .c 0x0E (.ks f) => some (.csch f)
  | .c 0x0F (.kn f) => some (.cstep f)
  | .c 0x10 (.kz f) => some (.cabt f)
  | .c 0x11 (.kr f) => some (.crsm f)
  | .c 0x12 (.kc f) => some (.cscan f)
  | .c 0x13 (.t f) => some (.czip f)
  | .c 0x14 (.t f) => some (.cprf f)
  | .c 0x15 (.t f) => some (.cwb f)
  | .c 0x16 (.t f) => some (.cinv f)
  | .c 0x17 (.kw f) => some (.cwms f)
  | .c 0x18 (.km f) => some (.cfnc f)
  | .c 0x19 (.kg f) => some (.csig f)
  | .c 0x1A (.t f) => some (.cldm f)
  | .c 0x1B (.ks f) => some (.csts f)
  | .c 0x1C (.kp f) => some (.cpri f)
  | .c 0x1D (.t f) => some (.cdup f)
  | .c 0x1E (.t f) => some (.cmsk f)
  | .c 0x1F (.t f) => some (.crpl f)
  | _ => none

/-- The instruction a decoded payload stands for. (Not compiled for the C slot: `Instr` has more constructors than the
compiler has object tags; the machine itself runs on `View`, and Laws/Run.lean says that this is `exec`.) -/
noncomputable def View.instr : View → Option Instr
  | .s op b => (View.s op b).sInstr
  | .v op f => (View.v op f).vInstr
  | .m op b => (View.m op b).mInstr
  | .c op b => (View.c op b).cInstr
  | .event => none

/-- Accepts a payload that holds no forbidden value (cause 0x06). -/
def checkPayload (v : View) : Except Reject View := if v.ok then .ok v else .error .forbidden

/-- The operation of an S payload word (Table 3.2). -/
def decodeS (w : BitVec 32) : Except Reject View := (decodeSFields w).bind checkPayload
/-- The operation of a V payload word (Table 3.3). -/
def decodeV (w : BitVec 64) : Except Reject View := (decodeVFields w).bind checkPayload
/-- The operation of an M payload word (Table 3.4). -/
def decodeM (w : BitVec 64) : Except Reject View := (decodeMFields w).bind checkPayload
/-- The operation of a C payload word (Table 3.5). -/
def decodeC (w : BitVec 64) : Except Reject View := (decodeCFields w).bind checkPayload

/-- What a slot reads from its payload; an S payload stands in bits [31:0]. -/
def decodeSlot (slot : Slot) (w : BitVec 64) : Except Reject View :=
  match slot with
  | .s => decodeS (w.setWidth 32)
  | .v0 | .v1 => decodeV w
  | .m => decodeM w
  | .c0 | .c1 => decodeC w

/-- The S codes that only Collie cores execute (R40). -/
def firmwareOnly (v : View) : Bool :=
  match v with
  | .s op _ => 0x59 ≤ op && op ≤ 0x5F
  | _ => false

/-! ## The encoder, from the same tables -/

/-- A Bool as one bit. -/
def bit (b : Bool) : BitVec 1 := if b then 1 else 0

/-- The words of an S payload (Tables 6.1 to 6.10, 22.1 to 22.3, 24.6). -/
def encodeSBody (op : BitVec 7) (b : SBody) : BitVec 32 :=
  let g := b.guard
  op ++ g.pred ++ bit g.sense ++
    (match b with
     | .rr f => f.d ++ f.a ++ f.b ++ (0 : BitVec 2)
     | .ri f => f.d ++ f.a ++ f.imm
     | .li f => f.d ++ f.imm
     | .pl f => f.d ++ f.a ++ f.b ++ bit f.na ++ bit f.nb
     | .bo f => f.off
     | .lp f => f.drc ++ f.len ++ f.cnt
     | .sg f => f.d ++ f.num ++ (0 : BitVec 4)
     | .sr f => f.num ++ f.val
     | .wv f => f.d ++ f.a ++ f.b ++ bit f.all ++ (0 : BitVec 1)
     | .k f => f.d ++ f.a ++ (0 : BitVec 4) ++ f.k
     | .tc f => (0 : BitVec 4) ++ f.code
     | .gm f => f.d ++ f.a ++ f.off
     | .ga f => f.d ++ f.a ++ f.b ++ bit f.sz ++ (0 : BitVec 1)
     | .gf f => (0 : BitVec 16) ++ f.scope
     | .fw f => f.d ++ f.a ++ f.b ++ f.sub : BitVec 20)

/-- A V payload (Table 3.3). -/
def encodeVBody (op : BitVec 7) (f : VOp) : BitVec 64 :=
  op ++ f.g.pred ++ bit f.g.sense ++ f.d ++ f.a ++ f.b ++ f.c ++ f.mask ++ f.ty ++ f.rm ++ bit f.ds ++ f.imm

/-- An M payload (Table 3.4 with Tables 13.2 to 13.8). -/
def encodeMBody (op : BitVec 6) (b : MBody) : BitVec 64 :=
  let g := b.guard
  op ++ g.pred ++ bit g.sense ++
    (match b with
     | .mp f => f.inp ++ f.out ++ bit f.rev ++ f.ofmt ++ (0 : BitVec 36)
     | .gr f => f.inp ++ f.out ++ bit f.rev ++ f.ofmt ++ f.gin ++ f.gout ++ (0 : BitVec 22)
     | .pl f => (0 : BitVec 17) ++ f.addr ++ f.nm1 ++ f.k0 ++ bit f.clr ++ (0 : BitVec 1)
     | .ls f => (0 : BitVec 17) ++ f.addr ++ f.count
     | .ad f => (0 : BitVec 17) ++ f.addr ++ (0 : BitVec 14)
     | .nt f => (0 : BitVec 20) ++ bit f.dvte ++ f.tol
     | .fl f => (0 : BitVec 17) ++ f.d ++ (0 : BitVec 26) ++ f.fl : BitVec 53)

/-- A C payload (Table 3.5 with Tables 17.2 to 17.7). -/
def encodeCBody (op : BitVec 6) (b : CBody) : BitVec 64 :=
  let g := b.guard
  op ++ g.pred ++ bit g.sense ++ b.ch ++
    (match b with
     | .t f => f.tid ++ f.xb ++ f.spa ++ f.xa ++ (0 : BitVec 1) ++ f.msk
     | .l f => f.src ++ f.dst ++ f.xl
     | .r f => f.src ++ f.xd ++ f.xl ++ (0 : BitVec 16)
     | .w f => f.w ++ f.xa ++ f.k ++ (0 : BitVec 32)
     | .gq f => f.xa ++ (0 : BitVec 44)
     | .q f => f.tid ++ f.n ++ f.spa ++ (0 : BitVec 9)
     | .ks f => (0 : BitVec 18) ++ f.spa ++ (0 : BitVec 10)
     | .kn f => (0 : BitVec 34) ++ f.n
     | .kz _ => (0 : BitVec 50)
     | .kr f => f.tid ++ bit f.new ++ (0 : BitVec 37)
     | .kp f => (0 : BitVec 48) ++ f.p
     | .km f => f.mask ++ (0 : BitVec 42)
     | .kw f => (0 : BitVec 18) ++ f.spa ++ f.xl ++ (0 : BitVec 4)
     | .kg f => f.xa ++ f.xv ++ f.scope ++ bit f.size ++ (0 : BitVec 33)
     | .kc f => f.tid ++ f.xt ++ f.w ++ f.cmp ++ (0 : BitVec 26) : BitVec 50)

/-- The payload of an operation, an S payload in bits [31:0]; an event has none (answer 0). -/
def View.encode (v : View) : BitVec 64 :=
  match v with
  | .s op b => (encodeSBody (BitVec.ofNat 7 op) b).setWidth 64
  | .v op f => encodeVBody (BitVec.ofNat 7 op) f
  | .m op b => encodeMBody (BitVec.ofNat 6 op) b
  | .c op b => encodeCBody (BitVec.ofNat 6 op) b
  | .event => 0

/-- The payload word of an instruction. -/
def encode (i : Instr) : BitVec 64 := i.view.encode

/-- The slot an operation is written in: V operations in V0, C operations in C0. -/
def View.homeSlot (v : View) : Option Slot :=
  match v with
  | .s _ _ => some .s
  | .v _ _ => some .v0
  | .m _ _ => some .m
  | .c _ _ => some .c0
  | .event => none

/-! ## Bundles -/

/-- The position of a slot in PRES, IDLE and SYNC (R18): bit 5 is S, bit 0 is C1. -/
def Slot.presBit : Slot → Nat
  | .s => 5 | .v0 => 4 | .v1 => 3 | .m => 2 | .c0 => 1 | .c1 => 0

/-- The slots in the order S, V0, V1, M, C0, C1 (R17). -/
def allSlots : List Slot := [.s, .v0, .v1, .m, .c0, .c1]

/-- A bundle's header fields (Table 3.1). -/
structure Header where
  pres : BitVec 6
  idle : BitVec 6
  sync : BitVec 6
  rpt : BitVec 6
  zero : BitVec 4
  chk : BitVec 4
  deriving DecidableEq, Repr

/-- The header of a 32-bit word (Table 3.1). -/
def readHeader (w : BitVec 32) : Header :=
  ⟨w.extractLsb' 26 6, w.extractLsb' 20 6, w.extractLsb' 14 6, w.extractLsb' 8 6, w.extractLsb' 4 4, w.extractLsb' 0 4⟩

/-- The header word of the fields (Table 3.1). -/
def writeHeader (h : Header) : BitVec 32 := h.pres ++ h.idle ++ h.sync ++ h.rpt ++ h.zero ++ h.chk

/-- The slot's payload is present. -/
def Header.has (h : Header) (slot : Slot) : Bool := h.pres.getLsbD slot.presBit

/-- Bytes of a slot's payload (R17). -/
def Slot.bytes : Slot → Nat
  | .s => 4
  | _ => 8

/-- A bundle's length in bytes (R17). -/
def Header.len (h : Header) : Nat := 4 + (allSlots.map fun t => if h.has t then t.bytes else 0).sum

/-- The offset of a slot's payload within its bundle: the payloads stand in slot order (R17). -/
def Header.offset (h : Header) (slot : Slot) : Nat :=
  4 + ((allSlots.takeWhile (· != slot)).map fun t => if h.has t then t.bytes else 0).sum

/-- `n` bytes as one little-endian number (R2). -/
def leNat : List (BitVec 8) → Nat
  | [] => 0
  | b :: bs => b.toNat + 256 * leNat bs

/-- The `n` little-endian bytes of a number (R2). -/
def leBytes : Nat → Nat → List (BitVec 8)
  | 0, _ => []
  | n + 1, v => BitVec.ofNat 8 v :: leBytes n (v / 256)

/-- The bytes of the bundle that holds operation `i` alone in its slot, with every other slot idled (R17, R18). -/
def soloBundle (slot : Slot) (payload : Nat) : List (BitVec 8) :=
  let pres : BitVec 6 := BitVec.ofNat 6 (2 ^ slot.presBit)
  leBytes 4 (writeHeader ⟨pres, ~~~pres, 0, 0, 0, 0b1010⟩).toNat ++ leBytes slot.bytes payload

/-- The instruction of a table row's bits, numbered as the table numbers them: a 32-bit word is an S payload (the table
gives the rows of the other slots no bits). -/
def decodeTableWord (nbits w : Nat) : Option Instr :=
  if nbits = 32 then
    match decodeS (BitVec.ofNat 32 w) with
    | .ok v => v.sInstr
    | .error _ => none
  else none

end Sys2Proof
end

