-- ==== Sys2Proof/Machine/State.lean ====
section
/-! DEFINITION. The state of the machine: one device, with one of its cores in focus (the core whose step runs) and the
other cores beside it; faults, refusals and the state after reset. Plain data only. -/
namespace Sys2Proof.Machine

/-- A memory: (address, byte) pairs, addresses strictly rising, no entry equal to 0, what an unlisted address reads as
(log entry 2). -/
abbrev Memory := List Host.Cell

/-- Data by a number, sorted by it; an unlisted number holds the value its reader names. -/
abbrev Sparse (α : Type) := List (Nat × α)

/-! ## Results in flight -/

/-- A register file (FILE of Table 7.1). -/
inductive RegFile where
  | x | p | v | m | sr | z
  deriving DecidableEq, Repr

/-- A register of a bank by physical number (special registers by Table 5.2 number). -/
structure RegRef where
  file : RegFile
  num : Nat
  deriving DecidableEq, Repr

/-- A fixed-bound result that has not landed (R31): register, value, the lanes it writes (v only), cycles left, and what
orders it against another write of the register (R33): issue cycle, bundle issue, slot; `src` is the special register that a
GETS may still read in a later cycle (R89); `restored`: a snapshot entry put it back, so until it lands its register holds the old
value (R102). -/
structure InFlight where
  reg : RegRef
  value : BitVec 4096
  lanes : BitVec 128
  rem : Nat
  cyc : Nat
  seq : Nat
  slot : Slot
  src : Option Nat
  restored : Bool
  deriving DecidableEq, Repr

/-- Where a global access stands: to be walked, waiting on a page request, to issue again as a replay when its bank runs (R102,
R107), or at the walker on a migration mark that it read at a tick; translated to a physical address with cacheability; performed
with its bytes read. -/
inductive GPhase where
  | walk
  | fault
  | replay
  | migrating (seen : Nat)
  | ready (pa : Nat) (ca : BitVec 2)
  | done (old : BitVec 128)
  deriving DecidableEq, Repr

/-- What a global access does. -/
inductive GKind where
  | load | store
  | atomic (op : Nat)
  | monitor
  deriving DecidableEq, Repr

/-- A global access of the S slot after its issue (R326 to R330): its number, kind, operation word, address, size, data,
compare value, the seat it came from, its phase, the ticks it has waited on translation, the tick after the last one counted (R311), and
the cycle of its issue (R343). -/
structure GAccess where
  id : Nat
  kind : GKind
  word : BitVec 32
  va : BitVec 64
  n : Nat
  data : BitVec 128
  cmp : BitVec 64
  dst : Nat
  pc : Nat
  rep : Nat
  seq : Nat
  phase : GPhase
  waited : Nat
  counted : Nat
  born : Nat
  deriving DecidableEq, Repr

/-- One condition of a WAITV (R92): control word and operand. -/
structure WaitCond where
  ctl : BitVec 64
  opd : BitVec 64
  deriving DecidableEq, Repr

/-- A WAITV in progress (R92, R93), with the number that its waits on translation carry; `start` is its issue cycle, `found` the
physical address and cacheability of each word that its evaluations have translated, by virtual address. -/
structure WaitV where
  id : Nat
  conds : List WaitCond
  all : Bool
  timeout : BitVec 64
  start : Nat
  waited : Nat
  counted : Nat
  found : Sparse (Nat × BitVec 2)
  deriving DecidableEq, Repr

/-- What a tracked operation still waits for (R34): a value that lands within a bound, a global access, a WAITV, an MSTAT,
a frame tick, a device read of the pattern test, or the write of a record that QPOST made (its ring index). -/
inductive TKind where
  | value (v : BitVec 512)
  | zstep (n : Nat)
  | access (a : GAccess)
  | waitv (w : WaitV)
  | mstat (clr : Bool) (cyc : Nat)
  | fclk (missed : Bool)
  | qpost (asid : BitVec 8) (va j : Nat)
  deriving DecidableEq, Repr

/-- A tracked operation: the registers pending until it lands (R34), the cycles left where its time is bounded, and the
bundle it came from. -/
structure Tracked where
  regs : List RegRef
  kind : TKind
  rem : Nat
  pc : Nat
  rep : Nat
  seq : Nat
  slot : Slot
  deriving DecidableEq, Repr

/-! ## The sequencer -/

/-- One entry of a slot queue (R23): the operation (none: an idle entry), whether it is a sticky re-issue, and what
dispatch fixed: bundle issue, IMEM address, length, repetition index, stage predicates, rotation
base, the bundle's SYNC field, and the bundle issue before which every S entry is io-before this one (R44). -/
structure Entry where
  op : Option View
  sticky : Bool
  seq : Nat
  pc : Nat
  len : Nat
  rep : Nat
  stage : BitVec 8
  rotb : BitVec 5
  sync : BitVec 6
  after : Nat
  deriving DecidableEq, Repr

/-- The seat of an operation that issues: its slot and its entry. -/
structure IssueCtx where
  slot : Slot
  entry : Entry
  deriving DecidableEq, Repr

/-- What dispatch of the next bundle waits for (R27, R37, R61, R111): nothing; a control-flow operation, SYNC or MWAIT of
a bundle issue; a write of IRC, DRC or ROTB to settle; or a stop with the reason that acts once the queues have drained. -/
inductive DHold where
  | free
  | control (seq : Nat)
  | wait (seq : Nat)
  | stopped
  deriving DecidableEq, Repr

/-- An illegal bundle found at dispatch (R37): cause, slots, address. -/
structure Illegal where
  cause : BitVec 8
  slots : BitVec 6
  pc : Nat
  rep : Nat
  deriving DecidableEq, Repr

/-- The loop engine (R62 to R65, R110): LBODY fields, the body's byte length, whether LBRK has acted in this pass, the DRC
operand of the loop's start, lpend, and the loop buffer: the body's bytes at their IMEM addresses, and those of them that
hold an uncorrectable error. -/
structure Loop where
  act : Bool
  len : BitVec 6
  start : BitVec 18
  bytes : Nat
  brk : Bool
  drcOp : BitVec 6
  lpend : BitVec 32
  buf : Memory
  bad : List Nat
  deriving DecidableEq, Repr

/-- An outstanding arrival at a level (R67): the DOMID it carried, its phase, whether that phase has completed, the bundle it came from, the
tick at which the answer of its root is overdue, none once that has come, and whether its task has been told that the root cannot be
reached (R357, log entry 83). -/
structure Outstanding where
  domid : BitVec 16
  phase : BitVec 32
  completed : Bool
  pc : Nat
  rep : Nat
  due : Option Nat
  lost : Bool
  deriving DecidableEq, Repr

/-- Where the SYNC at the head of the S queue stands (R90, R101): its level and whether it has arrived. -/
structure SyncWait where
  level : BitVec 2
  arrived : Bool
  deriving DecidableEq, Repr

/-- One context bank (R106): registers, banked special registers, loop state, remembered operations, slot queues, and the
results in flight. `remWritten` is a PAYLOAD written while VALID is 0 (R395). -/
structure Bank where
  x : Vector (BitVec 64) 64
  p : BitVec 16
  v : Vector (BitVec 4096) 64
  m : Vector (BitVec 128) 8
  z : Vector (BitVec 512) 16
  launchId : BitVec 32
  asid : BitVec 8
  taskIx : BitVec 64
  irc : BitVec 32
  drc : BitVec 6
  rotb : BitVec 5
  loop : Loop
  vctl : BitVec 9
  vflags : BitVec 8
  vflagsNow : BitVec 8
  fmt : BitVec 4
  fmtNext : List (Nat × BitVec 4)
  dm : Vector (BitVec 64) 4
  ph : Vector (BitVec 32) 4
  out : Vector (Option Outstanding) 4
  monaddr : BitVec 64
  tcause : BitVec 64
  tbundle : BitVec 64
  tslots : BitVec 64
  taddr : BitVec 64
  nsLatch : BitVec 32
  nsArmed : Bool
  rem : Vector (Option (BitVec 64)) 6
  remWritten : Vector (BitVec 64) 6
  queues : Vector (List Entry) 6
  inflight : List InFlight
  tracked : List Tracked
  posted : List GAccess
  pc : Nat
  rep : Nat
  seqNext : Nat
  hold : DHold
  gap : Nat
  illegal : Option Illegal
  syncWait : Option SyncWait
  mwait : Bool
  fenceR : Bool
  fenceW : Bool
  fenceHost : Bool
  monLine : Option Nat
  monSeen : List Nat
  ending : Bool
  ended : Bool
  xfault : Bool
  draining : Bool
  singleStep : Bool
  stepIds : BitVec 128
  stepSeq : Nat
  ioS : Vector Nat 6
  deriving DecidableEq, Repr

/-! ## Traps -/

/-- KIND of a trap record (R97). -/
inductive TrapKind where
  | atIssue | deferred | escalated | illegal
  deriving DecidableEq, Repr

/-- The fields of a trap record (Table 7.2) that the trapping condition supplies. -/
structure Trap where
  cause : BitVec 8
  kind : TrapKind
  slots : BitVec 6
  pc : Nat
  rep : Nat
  addr : BitVec 64
  detail0 : BitVec 64
  detail1 : BitVec 64
  deriving DecidableEq, Repr

/-- A written trap record: the trap, the bank, SEQ, LAUNCH, the PTP nanoseconds since second 0, and PSBCNT (Table 7.2). -/
structure TrapRecord where
  trap : Trap
  bankB : Bool
  core : Nat
  seq : BitVec 32
  launch : BitVec 32
  ptpNs : Nat
  psb : Nat
  deriving DecidableEq, Repr

/-- One entry of the pipeline snapshot buffer (R100, Table 7.1): header word and 1,024 payload bytes. -/
structure Snapshot where
  header : BitVec 64
  payload : BitVec 8192
  deriving DecidableEq, Repr

/-- What a core does (STATE of Table 24.10; R285, R96, R99, R111): halted; running; trapped and not yet frozen; frozen;
draining towards a park; parked. -/
inductive Run where
  | halted | running | freezing | frozen | draining | parked
  deriving DecidableEq, Repr

/-! ## The rotation mesh -/

/-- A scaling column (R186): PS8 of lane i in bits [8i+7:8i], E8 of block b in bits [8b+7:8b]. -/
structure Column where
  ps8 : BitVec 1024
  e8 : BitVec 32
  deriving DecidableEq, Repr

/-- Where a push lands (R206): nowhere, a v register by physical number, or the bytes of one stream use. -/
inductive PushOut where
  | none
  | reg (num : Nat)
  | stream (desc : BitVec 512)
  deriving DecidableEq, Repr

/-- A push in the pipeline (R188, Table 12.8). Lanes hold values of the lane format, LF24 in bits [23:0] of the lane. `half` marks the
second push of a GRD pair, `wait` the cycles until it issues, `src` the v register that it then reads (R207); `age` counts cycles
since the issue, `ovf` an overflow of its input conversion. -/
structure Push where
  op : Nat
  rev : Bool
  half : Bool
  wait : Nat
  src : Option Nat
  tag : Bool
  pnum : BitVec 32
  age : Nat
  lanes : BitVec 4096
  out : PushOut
  scales : List (BitVec 32)
  noc : Bool
  ntol : BitVec 33
  fmt : BitVec 4
  nIn : BitVec 32
  ovf : Bool
  bad : Bool
  bankB : Bool
  pc : Nat
  rep : Nat
  seq : Nat
  cyc : Nat
  deriving DecidableEq, Repr

/-- An ordered operation of the plane unit (R208). -/
inductive PlaneKind where
  | mlda (addr k0 nm1 : Nat) | mldp (addr k0 nm1 : Nat) | mpatch (addr count : Nat) | mdix (addr count : Nat)
  | mbits (addr count : Nat) | mswap | msave (addr : Nat) | mrest (addr : Nat) | mgsv (addr k0 nm1 : Nat) (clr : Bool)
  | mscli (addr : Nat) | msclo (addr : Nat) | mrst (g k : Bool) | mnrm (v : BitVec 33) | mfmt (mode gp : Bool)
  | mclr (a s g c : Bool)
  deriving DecidableEq, Repr

/-- A queued ordered operation with the bank and the bundle it came from, its pieces done, and the cycles in which it may act that
are left within its bound (Table 13.12). -/
structure PlaneOp where
  kind : PlaneKind
  bankB : Bool
  pc : Nat
  rep : Nat
  cyc : Nat
  done : Nat
  left : Nat
  deriving DecidableEq, Repr

/-- The mesh of a core (R180 to R202). `active` says which physical plane is active; `held` is what the cells of a stage hold between
the pushes of a GRD pair (R193), by stage; `written` the words of the pipeline region that a restore has written (R201), by
offset. -/
structure Mesh where
  planeA : Vector (BitVec 64) 4096
  planeB : Vector (BitVec 64) 4096
  hdrA : BitVec 6
  hdrB : BitVec 6
  active : Bool
  grad : Vector (BitVec 32) 4096
  inCol : Column
  outCol : Column
  mode : Bool
  gp : Bool
  cxm : Bool
  sticky : BitVec 5
  ntol : BitVec 33
  mpcnt : BitVec 32
  mgain : BitVec 32
  frz : Bool
  pipe : List Push
  held : Sparse (BitVec 4096)
  written : Sparse (BitVec 64)
  unit : List PlaneOp
  planeBad : List Nat
  parBad : List Nat
  deriving DecidableEq, Repr

/-! ## Copy channels, windows, gather queue and schedule -/

/-- What a queued channel operation reads and writes, as captured at issue (chapter 17). -/
structure CopyArgs where
  desc : BitVec 1024
  desc2 : BitVec 1024
  coord : List Nat
  ext : List Nat
  table : BitVec 1024
  mask : BitVec 128
  xa : BitVec 64
  xb : BitVec 64
  rows : List (BitVec 32)
  asid : BitVec 8
  win : BitVec 3
  row0 : Nat
  deriving DecidableEq, Repr

/-- A line that a CSCAN has read (R294): its address over 128; FCAUSE of a failure, 0 for none; its data, none where it is unscanned. -/
structure ScanRead where
  line : Nat
  fcause : BitVec 4
  data : Option (BitVec 1024)
  deriving DecidableEq, Repr

/-- A copy of a channel (Table 16.3): the copy state words, and the operation with its captured operands; `buf` holds the
source bytes that have returned, by landing index, and `failed` the units that failed, with FCAUSE; `num` orders copies of
the core by issue (R240), `lines` holds what a CSCAN has read ahead of its results, `closed` says that it has put its end entry.
`next` is the address of the next source unit as software has written it, `fresh` says that software has written the payload, so
that the operands are still to be captured (R236, R237); `ending` that a CABT ends it once its write in flight is answered (R271);
`heldOn` names the budget (8 · resource + class) that holds its next transfer, and `held` counts the consecutive periods (R345). -/
structure Copy where
  op : View
  payload : BitVec 64
  num : Nat
  tid : BitVec 32
  dbase : Nat
  e0 : Nat
  s1 : Nat
  n1 : Nat
  s2 : Nat
  n2 : Nat
  total : Nat
  lidx : Nat
  next : Option (BitVec 64)
  failSrc : BitVec 64
  args : CopyArgs
  buf : List (Nat × BitVec 8)
  failed : List (Nat × BitVec 4)
  waited : Nat
  counted : Nat
  closed : Bool
  lines : List ScanRead
  fresh : Bool
  ending : Bool
  heldOn : Option Nat
  held : Nat
  deriving DecidableEq, Repr

/-- A watermark register's fields (Table 16.2). -/
structure Wm where
  tid : BitVec 32
  act : Bool
  frz : Bool
  ring : Bool
  abt : Bool
  addr : BitVec 22
  deriving DecidableEq, Repr

/-- A copy channel (R230 to R232, Table 16.1): current and queued copies, its watermark, TIDn, TCPn, STATE and FCAUSE,
priority (R278), credits held for remote windows, in bytes (R356), the cause a released schedule entry left (R245), and the remote windows
that the core's task has sent to (R364). -/
structure Channel where
  cur : Option Copy
  queue : List Copy
  wm : Wm
  tid : BitVec 32
  tcp : BitVec 32
  state : BitVec 4
  fcause : BitVec 4
  prio : BitVec 2
  credits : List (WindowName × Nat)
  schedCause : Option Trap
  sentTo : List WindowName
  deriving DecidableEq, Repr

/-- A window (R241, R242, Table 16.4): its words, its watermark, the rows made fetchable, and bytes of the row being
landed. -/
structure Window where
  w0 : BitVec 64
  b : BitVec 22
  ident : BitVec 384
  wm : Wm
  fetchable : Nat
  part : Nat
  row0 : BitVec 32
  tensor : BitVec 12
  deriving DecidableEq, Repr

/-- An entry of the copy schedule (Table 16.8). -/
structure SchedEntry where
  payload : BitVec 64
  stage : BitVec 32
  deriving DecidableEq, Repr

/-! ## A core -/

/-- A core: a compute core, or one of the eight Collie cores (R348). `stalls` holds the extra cycles that each slot queue is held
for reasons that cost cycles only (R25, R36, R143). The model's own: `wrote`, the scratchpad bytes that the operation in issue
has written (address, mask, byte); `seen`, the channels and windows as they stood before the cycle; `gqImg`, the gather queue's 64
entries as software has written them while the core is stopped (R285). -/
structure Core where
  collie : Bool
  bankA : Bank
  bankB : Bank
  cur : Bool
  arm : Bool
  loadedB : Bool
  entryB : BitVec 18
  imem : Memory
  imemBad : List Nat
  spad : Memory
  spadBad : List Nat
  mesh : Mesh
  chans : Vector Channel 8
  wins : Vector Window 8
  gq : List (BitVec 32)
  gqImg : List (BitVec 32)
  sched : List SchedEntry
  cstage : BitVec 32
  psb : Vector Snapshot 48
  psbCnt : Nat
  run : Run
  trap : Option Trap
  trapBank : Bool
  deferred : List (Trap × Bool)
  hold : Bool
  trapSeq : BitVec 32
  records : List TrapRecord
  launch : Option (Nat × BitVec 32)
  discards : List (Nat × Nat)
  drainB : BitVec 32
  preB : BitVec 32
  faultB : BitVec 32
  wdogB : BitVec 32
  released : Nat
  releaseAt : Option Nat
  preReq : Option Nat
  point : Bool
  drainAt : Option Nat
  nextId : Nat
  freezeAt : Nat
  polAt : Nat
  wdog : Option Nat
  lastFrame : Option Nat
  stalls : List Nat
  wrote : List (Nat × BitVec 8 × BitVec 8)
  seen : Option (Vector Channel 8 × Vector Window 8)
  deriving DecidableEq, Repr

/-! ## Global memory, translation and coherence -/

/-- The state of a line in one of this device's slices (R314): local C or D at home, S, E, M or O as a holder, or a line
of the CXL tier or host window, clean or dirty (R288). -/
inductive SliceState where
  | c | d | s | e | m | o | tierC | tierD
  deriving DecidableEq, Repr

/-- A line held in a slice (R287): its address (device ID included) divided by 128, state, bytes, poison, and for a line of the host
window the ASID under which it was last accessed (R369). -/
structure SliceLine where
  line : Nat
  st : SliceState
  data : BitVec 1024
  poison : Bool
  asid : BitVec 8
  deriving DecidableEq, Repr

/-- On whose behalf a request goes out or a line is accessed: the slice (for a copy of a line), an access or a WAITV of a core and bank
by its number, a copy of a core by its number, a reader of the front end by its queue (from 512: other readers and writers of the
device's own). -/
inductive Asker where
  | slice
  | access (core : Nat) (bankB : Bool) (id : Nat)
  | copy (core num : Nat)
  | front (reader : Nat)
  deriving DecidableEq, Repr

/-- What a request asks for: a shared copy, ownership, an upgrade, ownership of a line to be written whole, an uncached read or write, a
line's metadata word, a transfer through a CXL or host port, a turn in the queue of a line of this home (R315) for a read or a write, or
for a page-table read. -/
inductive ReqKind where
  | shared | own | upgrade | full | readOnce | writeOnce | metadata | port
  | home (write : Bool)
  | table
  deriving DecidableEq, Repr

/-- What an access of this device does to a line of its own HBM (R315, R329): reads it, reads its metadata word (R335), reads it for a
scan (R295); writes bytes at an offset, `z` as a full-line compressing store (R318); an atomic of an opcode on `n` bytes with operand and
compare value (R330); firmware's write of a page-table word, bits cleared and set (R301); compresses it as it stands (R273). -/
inductive HomeOp where
  | read | word | scan
  | write (off : Nat) (bytes : List (BitVec 8)) (z : Bool)
  | atomic (op off n opd cmp : Nat)
  | mark (off : Nat) (clear set : BitVec 64)
  | zip
  deriving DecidableEq, Repr

/-- What a home transaction serves (the Event column of Table 21.4): a request of another device, a home-local read or write that only
brings the line, an access of this device with the request that its answer goes to (`fill`: the line is cached), an uncached access or the
read of the metadata word by another device, a rebuild (R321). -/
inductive HomeEvent where
  | rds (y : BitVec 6) | rdx (y : BitVec 6) (full : Bool) | upg (y : BitVec 6)
  | localRead | localWrite
  | own (kind : ReqKind) (who : Asker) (op : HomeOp) (fill : Bool)
  | uncachedRead (y : BitVec 6) | uncachedWrite (y : BitVec 6) (addr : Nat) (bytes : List (BitVec 8)) (z : Bool)
  | metaRead (y : BitVec 6)
  | rebuild
  deriving DecidableEq, Repr

/-- A transaction at home (R315): its line and event, the devices that still owe an Ack to an Inv, the Recall still to be sent (owner, K,
FWD), the owner that owes an Ack to one, what its Ack said, whether the owner gave none (R322), whether the transaction has begun, and
the tick at which its answers are overdue. -/
structure HomeTx where
  line : Nat
  event : HomeEvent
  invs : List (BitVec 6)
  call : Option (BitVec 6 × Bool × Option (BitVec 6))
  owes : Option (BitVec 6)
  dirty : Bool
  data : Option (BitVec 1024)
  dead : Bool
  active : Bool
  due : Nat
  deriving DecidableEq, Repr

/-- A translation-cache entry (R306): the die whose cache holds it, ASID, level (page size), page number at that level, leaf with its
global mark. -/
structure TlbEntry where
  die : BitVec 2
  asid : BitVec 8
  level : Nat
  vpn : Nat
  pte : BitVec 64
  deriving DecidableEq, Repr

/-- Who waits on translation: an S-slot access of a core and bank by its number, a channel of a core, a WAITV by its number, a core
frozen under trap policy 2 (R344), a launch whose record or image is being read (R341). -/
inductive Waiter where
  | access (core : Nat) (bankB : Bool) (id : Nat)
  | copy (core : Nat) (ch : BitVec 3)
  | waitv (core : Nat) (bankB : Bool) (id : Nat)
  | trap (core : Nat)
  | launch (queue : Nat) (seq : BitVec 32)
  deriving DecidableEq, Repr

/-- An outstanding page request (R309, R310): tag, ASID, page VA, the access asked for, waiters in fault order. -/
structure PageReq where
  tag : Nat
  asid : BitVec 8
  page : Nat
  rd : Bool
  wr : Bool
  waiters : List Waiter
  deriving DecidableEq, Repr

/-- A message this device sends (Tables 21.3, 25.2, 25.5; R309, R337, R362): coherence messages, answers, page requests,
window and OPM writes, credits, barrier traffic, MSI-X vectors and frames. -/
inductive OutMsg where
  | rds (dst : BitVec 6) (line : Nat) | rdx (dst : BitVec 6) (line : Nat) (full : Bool) | upg (dst : BitVec 6) (line : Nat)
  | wbd (dst : BitVec 6) (line : Nat) (keep z poison : Bool) (data : BitVec 1024) | evc (dst : BitVec 6) (line : Nat)
  | inv (dst : BitVec 6) (line : Nat) | recall (dst : BitVec 6) (line : Nat) (keep : Bool) (fwd : Option (BitVec 6))
  | dat (dst : BitVec 6) (line : Nat) (grant : Grant) (poison compressed : Bool) (data : BitVec 1024)
  | cmp (dst : BitVec 6) (line : Nat) (grant : Grant)
  | ack (dst : BitVec 6) (line : Nat) (dirty notHeld : Bool) (data : Option (BitVec 1024))
  | uncached (dst : BitVec 6) (addr : Nat) (bytes : Option (List (BitVec 8))) (n : Nat) (z : Bool)
  | metaRead (dst : BitVec 6) (line : Nat)
  | uncachedData (dst : BitVec 6) (line : Nat) (poison : Bool) (data : BitVec 1024)
  | metaData (dst : BitVec 6) (line : Nat) (word : Option (BitVec 32))
  | denied (dst : BitVec 6) (line : Nat) (cause : BitVec 8)
  | pageRequest (port : BitVec 1) (tag : Nat) (asid : BitVec 8) (page : Nat) (rd wr : Bool)
  | windowWrite (dst : WindowName) (src : FlowSource) (bytes : List (BitVec 8))
  | opmWrite (dst : BitVec 6) (core : Nat) (off : Nat) (bytes : List (BitVec 8))
  | credit (dst : FlowSource) (target : WindowName) (rows : Nat) (rowb : BitVec 16)
  | arrival (dst : BitVec 6) (a : Arrival)
  | phase (dst : BitVec 6) (core : Nat) (level : BitVec 2) (domid : BitVec 16) (phase : BitVec 32)
  | excess (dst : BitVec 6) (a : Arrival)
  | refused (dst : FlowSource) (target : WindowName)
  | hostWrite (port : BitVec 1) (addr : Nat) (bytes : List (BitVec 8))
  | hostRead (port : BitVec 1) (len : Nat) (bytes : List (BitVec 8))
  | unsupported (port : BitVec 1)
  | msix (port : BitVec 1) (vec : BitVec 9) (addr : BitVec 64) (data : BitVec 32)
  | aer (port : Port) (correctable : Bool)
  | frame (port : BitVec 1) (bytes : List (BitVec 8))
  deriving DecidableEq, Repr

/-- A barrier counter's record of an open phase (R67): level, DOMID, phase, its count, the arrivals so far. -/
structure Counter where
  level : BitVec 2
  domid : BitVec 16
  phase : BitVec 32
  count : Nat
  arrivals : List Arrival
  deriving DecidableEq, Repr

/-! ## The front end -/

/-- A queue descriptor (Table 24.1): its eight words, and the sequence number last assigned (R341). -/
structure QueueDesc where
  w : Vector (BitVec 64) 8
  seq : BitVec 32
  deriving DecidableEq, Repr

/-- A launch record's fields (Table 24.2) with its queue and sequence number. -/
structure LaunchRec where
  queue : Nat
  seq : BitVec 32
  asid : BitVec 8
  armb : Bool
  range : Bool
  img : BitVec 64
  entryB : BitVec 18
  len : Nat
  cores : BitVec 128
  drain : BitVec 32
  preb : BitVec 32
  faultb : BitVec 32
  wdog : BitVec 32
  dm : List (BitVec 64)
  discards : List (Nat × Nat)
  tag : BitVec 64
  xs : List (BitVec 64)
  shares : List Nat
  cls : BitVec 2
  deriving DecidableEq, Repr

/-- A launch that has been started (R341, R342): its record, the release tick, whether it has been released, the tasks
(core, bank) that have not ended, the trap records forwarded, the barrier levels 2 and 3 at which a task of it has arrived (R67). -/
structure Launch where
  record : LaunchRec
  rt : Nat
  released : Bool
  tasks : List (Nat × Bool)
  traps : BitVec 32
  levels : List Nat
  deriving DecidableEq, Repr

/-- A launch record that has been taken and not yet started or refused (R341): its queue and number, its virtual address, the
ASID it must have, and the reason that ended its reading. -/
structure Taking where
  queue : Nat
  seq : BitVec 32
  va : Nat
  asid : BitVec 8
  failed : Bool
  deriving DecidableEq, Repr

/-- A record that the front end is writing (R337): ASID, address, bytes still to write (none where the ring holds no record),
and the vector sent once it is written. -/
structure FeWrite where
  asid : BitVec 8
  va : Nat
  bytes : List (BitVec 8)
  vec : Option (BitVec 11)
  deriving DecidableEq, Repr

/-- A wire port's registers (Table 25.6): transmit entries waiting (words written to TXQ), counters and stamps, and for each entry the
16-byte granules of its frame that the port has read, by number (R362). -/
structure WirePort where
  txq : List (BitVec 64)
  rej : BitVec 16
  sent : BitVec 32
  txs : BitVec 32
  txn : BitVec 32
  dfull : BitVec 32
  dnone : BitVec 32
  dfcs : BitVec 32
  dlong : BitVec 32
  got : List (List (Nat × List (BitVec 8)))
  deriving DecidableEq, Repr

/-- The PHY block of an HBM channel (Table 24.8), with a running pattern test and the tick of its start. -/
structure Phy where
  rdly : BitVec 7
  wdly : BitVec 7
  errors : BitVec 32
  running : Bool
  lrep : BitVec 8
  since : Nat
  deriving DecidableEq, Repr

/-- Layer repair of a stack (Table 19.3), the corrected errors counted (R291, R346): layers and rows with ticks, and the layers and rows
found lasting. -/
structure Repair where
  bound : BitVec 20
  layer : BitVec 4
  state : BitVec 2
  errors : List (Nat × Nat × Nat)
  lasting : List (Nat × Nat)
  deriving DecidableEq, Repr

/-- An error log entry (Table 27.5). -/
structure LogEntry where
  seq : BitVec 32
  kind : BitVec 8
  unit : BitVec 8
  index : BitVec 16
  at_ : BitVec 64
  ptpNs : Nat
  deriving DecidableEq, Repr

/-- Firmware image slots and FWUPD, with the tick of its last GO (R372 to R375). -/
structure Firmware where
  slot0 : Memory
  slot1 : Memory
  staged : Memory
  busy : Bool
  status : BitVec 4
  runSlot : Bool
  nextSlot : Bool
  fuse : Bool
  askFuse : Bool
  svn : Nat
  fusedCount : Nat
  keyDigest : BitVec 256
  seed : BitVec 256
  serial : BitVec 128
  recovery : Bool
  since : Nat
  deriving DecidableEq, Repr

/-- The attestation registers, with the tick of the last GO, and the digests kept (R377). -/
structure Attest where
  nonce : BitVec 256
  dest : BitVec 44
  busy : Bool
  status : BitVec 2
  port : BitVec 1
  digests : List (BitVec 32 × BitVec 8 × BitVec 256)
  snapshot : List (BitVec 8)
  since : Nat
  deriving DecidableEq, Repr

/-- An access of device memory or of a host window that has not performed: from a host port through BAR2 (R368), or from another
device; local address, length, the bytes of a write. -/
structure HostOp where
  dev : Option (BitVec 6)
  port : BitVec 1
  la : Nat
  len : Nat
  data : Option (List (BitVec 8))
  deriving DecidableEq, Repr

/-- A tensor descriptor that the layout unit keeps (R305). -/
structure Tensor where
  asid : BitVec 8
  id : Nat
  desc : BitVec 1024
  deriving DecidableEq, Repr

/-- A memory tier's demotion state (R299, R300): HIGH, LOW, allocated pages, access bits, clock hand, and whether its demotion engine
moves pages. -/
structure Tier where
  high : Nat
  low : Nat
  pages : List Nat
  access : List Nat
  hand : Nat
  active : Bool
  deriving DecidableEq, Repr

/-- A device page named by a PTE that demotion may move: its first tier frame (256 KiB), the leaf's level, and the PTE's address
(R300, R301). -/
structure PageOwner where
  frame : Nat
  level : Nat
  pteAddr : Nat
  asid : BitVec 8
  va : Nat
  deriving DecidableEq, Repr

/-- A request under way (R351, R370): what it asks for, on whose behalf, its line or address, the device that answers, the tick at which
its answer is overdue under the TMO it met, the port it goes through, the data of a line to be written whole (`true`: to be sent home
compressed), its answer once it has come (data, poison; of a failed one DETAIL1), or the cause that ended it. -/
structure Request where
  kind : ReqKind
  who : Asker
  line : Nat
  dst : BitVec 6
  due : Nat
  port : Option Port
  store : Option (BitVec 1024 × Bool)
  answer : Option (BitVec 1024 × Bool)
  failed : Option (BitVec 8)
  deriving DecidableEq, Repr

/-- A Uliden port (R353, R380): up, failed replays of the flit in flight, retrained at 4 lanes, the device at the other end of its link
where system software has named one. -/
structure FabricPort where
  up : Bool
  replays : Nat
  half : Bool
  peer : Option (BitVec 6)
  deriving DecidableEq, Repr

/-- A walk that has met a migration mark and is read again (R306): on whose behalf, ASID, address, the access asked for, the tick of its
last read. -/
structure Mark where
  who : Asker
  asid : BitVec 8
  va : Nat
  rd : Bool
  wr : Bool
  seen : Nat
  deriving DecidableEq, Repr

/-- A page that firmware demotes (R301): whether its entry bears the mark, the devices of the domain that have still to drop its
translations, with the step each is at (its XINVA, its XINVC, its BUSY, R308), the frame of the next tier that takes it, and its lines
copied so far. -/
structure Move where
  page : PageOwner
  marked : Bool
  invalid : List (BitVec 6 × Nat)
  target : Option Nat
  done : Nat
  deriving DecidableEq, Repr

/-- The place of errors (R346, R379): unit, index, place in it. -/
structure Place where
  unit : BitVec 8
  index : BitVec 16
  at_ : BitVec 64
  deriving DecidableEq, Repr

/-- An entry of a function's MSI-X table: the address and data of its message, whether it is masked, whether a message waits for that to
end (R366). -/
structure MsixEntry where
  addr : BitVec 64
  data : BitVec 32
  masked : Bool
  pending : Bool
  deriving DecidableEq, Repr

/-- An entry that the host has not written. PRESUMED: masked, as PCI Express resets it (log entry 141). -/
def MsixEntry.reset : MsixEntry := ⟨0, 0, true, false⟩

/-- A Collie semaphore's holder (Table 24.7). -/
abbrev Sema := Option (BitVec 3)

/-- A store of a core in which an uncorrectable error may be found (Table 27.4). -/
inductive Store where
  | sequencer | imem | spad | plane | datapath
  deriving DecidableEq, Repr

/-- What reaches the device from outside its own events: for these the spec names no event, so they stand in a queue that a
step reads first (log entry 91). -/
inductive Input where
  /-- An uncorrectable error in a store of a core, at an address (R378). -/
  | coreError (core : Nat) (st : Store) (addr : Nat)
  /-- A corrected error of a unit at an index and place (R346, R378, R379). -/
  | corrected (unit : BitVec 8) (index : BitVec 16) (at_ : BitVec 64)
  /-- A line of the line cache or the memory-side cache holds an uncorrectable error (R378). -/
  | cacheError (line : Nat)
  /-- Symbols of a DRAM line, with its layer and row, read wrong (R290): 0 to 127 data, 128 to 139 check, 140 to 143 metadata. -/
  | dramError (line layer row : Nat) (symbols : List Nat)
  /-- Corrected errors of a layer have been found to span rows (R291). -/
  | spanningError (stack : BitVec 3) (layer : Nat)
  /-- An error in the CXL tier at a line: poison returned by an expander, or any other uncorrectable one (R370). -/
  | tierError (line : Nat) (poison : Bool)
  /-- A halt request of the front end for a core (cause 0xB3). -/
  | haltRequest (core : Nat)
  /-- Single-step set or cleared for a task (R74). -/
  | singleStep (core : Nat) (bankB on : Bool)
  /-- System software sets a tier's HIGH and LOW (R299). -/
  | tierLevels (tier : BitVec 1) (high low : Nat)
  /-- System software gives a tier page of a leaf's level to a page-table entry of an ASID (R299 to R301). -/
  | tierPage (frame level pteAddr : Nat) (asid : BitVec 8) (va : Nat)
  /-- The root of an arrival of this device answers that it lies beyond the phase's count (R67). -/
  | excess (a : Arrival)
  /-- A device turns this one's request or message for a line away: 0x92 by its MEMB, 0x93 by its ALLOW (R352), 0x83 or 0x84 by a port of
  its tiers (R370). -/
  | denied (x : BitVec 6) (line : Nat) (cause : BitVec 8)
  /-- A device has left the domain, or has come back to it (R322, R358). -/
  | away (d : BitVec 6) (on : Bool)
  /-- System software routes to a device by next devices, or names the device at the other end of a link (R353). -/
  | route (d : BitVec 6) (next : List (BitVec 6))
  | wiring (port : BitVec 4) (peer : BitVec 6)
  /-- The host writes an entry of a function's MSI-X table (R366). -/
  | msixEntry (port : BitVec 1) (vec : BitVec 9) (addr : BitVec 64) (data : BitVec 32) (masked : Bool)
  /-- The host reads through BAR0 (R367). -/
  | barRead (port : BitVec 1) (off : BitVec 29) (len : Nat)
  /-- Another device's CLDM reads the metadata word of a line of this home (R274). -/
  | metaRead (y : BitVec 6) (line : Nat)
  deriving DecidableEq, Repr

/-- The machine. -/
structure State where
  /-- What has reached the device and waits to be taken, oldest first. -/
  inputs : List Input
  /-- The events that happen next, oldest first: (core, event). Empty: the core in focus runs its next cycle. -/
  agenda : List (Nat × Instr)
  /-- How many open choices and values have been taken (Config.choice, Config.openBits). The model's own. -/
  choices : Nat
  /-- The cycle (R3). -/
  cycle : Nat
  /-- Without discipline: device time in nanoseconds at cycle 0, 0 until a discipline has moved it (R16, R371). -/
  ptpBase : Int
  /-- The core in focus, its number (0 to 127 compute, 128 to 135 Collie), the seat of the operation that issues. -/
  coreNo : Nat
  core : Core
  others : Sparse Core
  ctx : IssueCtx
  /-- DRAM data of this device's HBM, the CXL tier and host memory, metadata words, failing lines (R290, R312). -/
  hbm : Memory
  tierMem : Memory
  hostMem : Memory
  metaWords : Sparse (BitVec 32)
  dataBad : List Nat
  metaBad : List Nat
  /-- The lines whose metadata error has been reported and not yet been rebuilt (R321). -/
  metaTold : List Nat
  tierBad : List Nat
  tierPoison : List Nat
  slice : List SliceLine
  /-- The home lines that the memory-side caches hold, last used first (R289). -/
  msc : List Nat
  homeTx : List HomeTx
  requests : List Request
  /-- Walks of copies and of the front end that wait at a migration mark (R306). -/
  marks : List Mark
  /-- ASID entries (words 0x00 and 0x08), translation cache, invalidation registers, page requests (R304 to R310). -/
  asids : Sparse (BitVec 64 × BitVec 64)
  tlb : List TlbEntry
  xinva : BitVec 64
  xinvc : BitVec 64
  xbusy : Bool
  xpage : Nat
  tensors : List Tensor
  pageReqs : List PageReq
  pageWait : List PageReq
  priStopped : BitVec 2
  priAlloc : Nat
  hwport : BitVec 256
  portDown : List Port
  /-- The MSI-X tables of both functions, by 512 · port + vector (R366, R370). -/
  msix : Sparse MsixEntry
  /-- Front end (chapter 24). -/
  queues : Sparse QueueDesc
  taking : List Taking
  /-- The queues polled in the frame (R339). -/
  polled : List Nat
  waiting : List LaunchRec
  feWrites : List FeWrite
  devPosts : List Taking
  launches : List Launch
  /-- The contexts saved, with their cores, the last saved first (R112, R339). -/
  saved : List (Nat × Core)
  lastQueue : Nat
  policy : Sparse (BitVec 8)
  budgets : Sparse (BitVec 64)
  moved : Sparse Nat
  ecls : BitVec 64
  hsem : BitVec 2
  /-- P1 has acquired a free HSEM in this cycle, which a write of P0 in it takes over (R347). -/
  hsemAsk : Bool
  hsemx : BitVec 32
  frame : BitVec 16
  frameNo : Nat
  ranges : Vector (Nat × Nat) 4
  semas : Sparse (BitVec 3)
  queueOwner : Vector (BitVec 3) 8
  counters : List Counter
  /-- Fabric, wire and host ports (chapters 25 and 27). -/
  fab : Vector (BitVec 64) 5
  links : Vector FabricPort 16
  /-- The next devices by which system software routes to a device (R353), and the devices that have left the domain (R358). -/
  routes : Sparse (List (BitVec 6))
  away : BitVec 64
  wires : Vector WirePort 2
  hap : Vector (BitVec 64) 2
  hostOps : List HostOp
  devrdy : Bool
  ptpSrc : BitVec 3
  fw : Firmware
  attest : Attest
  log : List LogEntry
  logCnt : BitVec 32
  /-- Corrected errors with their ticks, and the places found lasting (R346). -/
  errors : List (Place × Nat)
  lasting : List Place
  phys : Sparse Phy
  repairs : Vector Repair 8
  tiers : Vector Tier 2
  owners : List PageOwner
  moving : List Move
  /-- What the device has sent, oldest first. -/
  sent : List OutMsg
  deriving DecidableEq, Repr

/-- Faults: where the machine stops. None is raised for an instruction the spec gives an effect. -/
inductive Fault where
  /-- Raised by `step` when the agenda names a core that the device does not have (R7, R348: 128 compute cores and eight
  Collie cores). Safe: no event of the device is one of these. -/
  | noSuchCore
  deriving DecidableEq, Repr

/-- Refusals: no meaning. -/
inductive Refusal where
  /-- Raised by an arm of `exec` whose instruction has no meaning yet. Safe: nothing can be proved of it. -/
  | notModelled (mnemonic : String)
  /-- Raised by `runView` for an opcode and payload format that no decoded word has. Safe: no decoded instruction is one. -/
  | noOperation
  deriving DecidableEq, Repr

/-! ## The state after reset -/

/-- A tier with no thresholds and no page. -/
def Tier.reset : Tier := ⟨0, 0, [], [], 0, false⟩

/-- No loop (R62, Table 5.3). -/
def Loop.reset : Loop := ⟨false, 0, 0, 0, false, 0, 0, [], []⟩

/-- A context bank after reset: Table 5.1, Table 5.2, R60, R29. FMT resets to SGN = 1 (Table 8.3); DMk shows its fixed
SCOPE through GETS. -/
def Bank.reset : Bank where
  x := Vector.replicate 64 0
  p := 1
  v := Vector.replicate 64 0
  m := ⟨#[BitVec.allOnes 128, 0, 0, 0, 0, 0, 0, 0], rfl⟩
  z := Vector.replicate 16 0
  launchId := 0
  asid := 0
  taskIx := 0
  irc := 0
  drc := 0
  rotb := 0
  loop := Loop.reset
  vctl := 0
  vflags := 0
  vflagsNow := 0
  fmt := 1
  fmtNext := []
  dm := Vector.replicate 4 0
  ph := Vector.replicate 4 0
  out := Vector.replicate 4 none
  monaddr := 0
  tcause := 0
  tbundle := 0
  tslots := 0
  taddr := 0
  nsLatch := 0
  nsArmed := false
  rem := Vector.replicate 6 none
  remWritten := Vector.replicate 6 0
  queues := Vector.replicate 6 []
  inflight := []
  tracked := []
  posted := []
  pc := 0
  rep := 0
  seqNext := 0
  hold := .free
  gap := 0
  illegal := none
  syncWait := none
  mwait := false
  fenceR := false
  fenceW := false
  fenceHost := false
  monLine := none
  monSeen := []
  ending := false
  ended := true
  xfault := false
  draining := false
  singleStep := false
  stepIds := 0
  stepSeq := 0
  ioS := Vector.replicate 6 0

/-- The reset word of a cell (Table 12.1): C 0x40_0000, DIX 127, ID 1. -/
def cellReset : BitVec 64 := 0x400000000000FF00

/-- A column that scales by one (R186). -/
def Column.reset : Column := ⟨(List.replicate 128 0x07).foldl (fun a b => a <<< 8 ||| BitVec.ofNat 1024 b) 0, 0x7F7F7F7F⟩

/-- The mesh at device reset (Tables 12.1, 12.2, 12.4). -/
def Mesh.reset : Mesh where
  planeA := Vector.replicate 4096 cellReset
  planeB := Vector.replicate 4096 cellReset
  hdrA := 63
  hdrB := 63
  active := false
  grad := Vector.replicate 4096 0
  inCol := Column.reset
  outCol := Column.reset
  mode := false
  gp := false
  cxm := false
  sticky := 0
  ntol := 0x03B800000
  mpcnt := 0
  mgain := 0x7FC00000
  frz := false
  pipe := []
  held := []
  written := []
  unit := []
  planeBad := []
  parBad := []

/-- An inactive watermark (Table 16.2). -/
def Wm.reset : Wm := ⟨0, false, false, false, false, 0⟩

/-- An idle channel (R231, R278). -/
def Channel.reset : Channel := ⟨none, [], Wm.reset, 0, 0, 0, 0, 1, [], none, []⟩

/-- An unbound window (Table 16.4). -/
def Window.reset : Window := ⟨0, 0, 0, Wm.reset, 0, 0, 0, 0⟩

/-- A core at device reset: halted (R285), every register and memory at its reset value. -/
def Core.reset (collie : Bool) : Core where
  collie := collie
  bankA := Bank.reset
  bankB := Bank.reset
  cur := false
  arm := false
  loadedB := false
  entryB := 0
  imem := []
  imemBad := []
  spad := []
  spadBad := []
  mesh := Mesh.reset
  chans := Vector.replicate 8 Channel.reset
  wins := Vector.replicate 8 Window.reset
  gq := []
  gqImg := []
  sched := []
  cstage := 0
  psb := Vector.replicate 48 ⟨0, 0⟩
  psbCnt := 0
  run := .halted
  trap := none
  trapBank := false
  deferred := []
  hold := false
  trapSeq := 0
  records := []
  launch := none
  discards := []
  drainB := 0
  preB := 0
  faultB := 0
  wdogB := 0
  released := 0
  releaseAt := none
  preReq := none
  point := false
  drainAt := none
  nextId := 0
  freezeAt := 0
  polAt := 0
  wdog := none
  lastFrame := none
  stalls := []
  wrote := []
  seen := none

/-- The seat of no operation: an idle entry of the S slot. -/
def IssueCtx.reset : IssueCtx := ⟨.s, ⟨none, false, 0, 0, 4, 0, 0, 0, 0, 0⟩⟩

/-- The firmware block: slots empty, fuses 0 (log entry 20). -/
def Firmware.reset : Firmware :=
  ⟨[], [], [], false, 0, false, false, false, false, 0, 0, 0, 0, 0, false, 0⟩

/-- The machine right after device reset (R371): every register at its reset value, every core halted, memories listing
nothing, core 0 in focus. -/
def State.reset : State where
  inputs := []
  agenda := []
  choices := 0
  cycle := 0
  ptpBase := 0
  coreNo := 0
  core := Core.reset false
  others := []
  ctx := IssueCtx.reset
  hbm := []
  tierMem := []
  hostMem := []
  metaWords := []
  dataBad := []
  metaBad := []
  metaTold := []
  tierBad := []
  tierPoison := []
  slice := []
  msc := []
  homeTx := []
  requests := []
  marks := []
  asids := []
  tlb := []
  xinva := 0
  xinvc := 0
  xbusy := false
  xpage := 0
  tensors := []
  pageReqs := []
  pageWait := []
  priStopped := 0
  priAlloc := 256
  hwport := 0
  portDown := []
  msix := []
  queues := []
  taking := []
  polled := []
  waiting := []
  feWrites := []
  devPosts := []
  launches := []
  saved := []
  lastQueue := 271
  policy := []
  budgets := []
  moved := []
  ecls := 0x0000000805F5E100
  hsem := 0
  hsemAsk := false
  hsemx := 0
  frame := 200
  frameNo := 0
  ranges := Vector.replicate 4 (0, 0)
  semas := []
  queueOwner := ⟨#[0, 1, 2, 3, 4, 5, 6, 7], rfl⟩
  counters := []
  fab := ⟨#[0x0000000186A00000, 0, 0, 0, 0xFFFFFFFFFFFFFFFF], rfl⟩
  links := Vector.replicate 16 ⟨true, 0, false, none⟩
  routes := []
  away := 0
  wires := Vector.replicate 2 ⟨[], 0, 0, 0, 0, 0, 0, 0, 0, []⟩
  hap := Vector.replicate 2 0
  hostOps := []
  devrdy := false
  ptpSrc := 0
  fw := Firmware.reset
  attest := ⟨0, 0, false, 0, 0, [], [], 0⟩
  log := []
  logCnt := 0
  errors := []
  lasting := []
  phys := []
  repairs := Vector.replicate 8 ⟨0, 0, 0, [], []⟩
  tiers := Vector.replicate 2 Tier.reset
  owners := []
  moving := []
  sent := []

end Sys2Proof.Machine
end

