-- ==== Sys2Proof/Machine/Ops.lean ====
section
/-! DEFINITION. The named operations over memories, registers, banks and cores; open choices; time; results in flight;
taking an exact trap. -/
namespace Sys2Proof.Machine

/-- The outcome of a step of this machine. -/
abbrev Out := Host.Outcome State Fault Refusal

/-! ## Bits and numbers -/

/-- Two's-complement reading of the low `n` bits of a number. -/
def signedNat (n v : Nat) : Int := if v % 2 ^ n < 2 ^ (n - 1) then (v % 2 ^ n : Nat) else (v % 2 ^ n : Nat) - (2 ^ n : Nat)

/-- True when (a − b) mod 2³² < 2³¹ (R6). -/
def serialGe (a b : BitVec 32) : Bool := (a - b).toNat < 2 ^ 31

/-! ## Memories -/

/-- The byte at an address; an unlisted address reads as 0 (log entry 2). -/
def Memory.read (m : Memory) (a : Nat) : BitVec 8 :=
  match m with
  | [] => 0
  | (k, b) :: r => if k = a then b else if a < k then 0 else Memory.read r a

/-- The memory with one byte written, in canonical form: writing 0 removes the entry. -/
def Memory.write (m : Memory) (a : Nat) (b : BitVec 8) : Memory :=
  match m with
  | [] => if b = 0 then [] else [(a, b)]
  | (k, c) :: r =>
    if a < k then (if b = 0 then (k, c) :: r else (a, b) :: (k, c) :: r)
    else if a = k then (if b = 0 then r else (a, b) :: r)
    else (k, c) :: Memory.write r a b

/-- The canonical form: addresses strictly rising, no byte equal to 0. -/
def Memory.wf : Memory → Bool
  | [] => true
  | [(_, b)] => b != 0
  | (a, b) :: (c, d) :: r => a < c && b != 0 && Memory.wf ((c, d) :: r)

/-- `n` bytes from an address, lowest first. -/
def Memory.bytes (m : Memory) (a : Nat) : Nat → List (BitVec 8)
  | 0 => []
  | n + 1 => m.read a :: Memory.bytes m (a + 1) n

/-- The memory with bytes written from an address, lowest first. -/
def Memory.store (m : Memory) (a : Nat) : List (BitVec 8) → Memory
  | [] => m
  | b :: bs => Memory.store (m.write a b) (a + 1) bs

/-- `n` bytes as a little-endian number (R2). -/
def Memory.num (m : Memory) (a n : Nat) : Nat := leNat (m.bytes a n)

/-- The memory with an `n`-byte little-endian number written (R2). -/
def Memory.put (m : Memory) (a n v : Nat) : Memory := m.store a (leBytes n v)

/-- The value a sparse map holds at a key, or the default. -/
def Sparse.at (d : α) (l : Sparse α) (k : Nat) : α :=
  match l with
  | [] => d
  | (i, v) :: r => if i = k then v else Sparse.at d r k

/-- The sparse map with a key set, keys rising. -/
def Sparse.put (l : Sparse α) (k : Nat) (v : α) : Sparse α :=
  match l with
  | [] => [(k, v)]
  | (i, w) :: r => if k < i then (k, v) :: (i, w) :: r else if k = i then (k, v) :: r else (i, w) :: Sparse.put r k v

/-- The sparse map without a key. -/
def Sparse.drop (l : Sparse α) (k : Nat) : Sparse α := l.filter (·.1 != k)

/-- Element `k` of a vector, or a value where there is none. -/
def vget (v : Vector α n) (k : Nat) (d : α) : α := v[k]?.getD d

/-- The vector with element `k` set. -/
def vset (v : Vector α n) (k : Nat) (a : α) : Vector α n := v.setIfInBounds k a

/-! ## Open choices (log entry 3) -/

/-- An open choice among `n` alternatives, numbered from 0; one alternative is no choice. -/
def State.choose (s : State) (n : Nat) : Nat × State :=
  if n ≤ 1 then (0, s) else (Config.choice s.choices % n, { s with choices := s.choices + 1 })

/-- An open value of `w` bits. -/
def State.openValue (s : State) (w : Nat) : BitVec w × State :=
  ((Config.openBits s.choices).setWidth w, { s with choices := s.choices + 1 })

/-! ## Time (R3, R16) -/

/-- Ticks since device reset: a tick is 12.5 cycles. -/
def State.tick (s : State) : Nat := s.cycle * 2 / 25

/-- PTP time in nanoseconds in a cycle: without discipline it counts 0.8 ns a cycle, else its source sets it (R371). -/
def State.ptpAt (s : State) (cycle : Nat) : Nat :=
  if s.ptpSrc = 0 then (s.ptpBase + (cycle * 4 / 5 : Nat)).toNat else Config.disciplinedNs s.ptpSrc cycle

/-- PTP time in nanoseconds now. -/
def State.ptpNs (s : State) : Nat := s.ptpAt s.cycle

/-- The state with a source of discipline selected; time goes on from where it stands (R371). -/
def State.setPtpSrc (s : State) (v : BitVec 3) : State :=
  { s with ptpSrc := v, ptpBase := (s.ptpNs : Int) - (s.cycle * 4 / 5 : Nat) }

/-- PTP seconds and nanoseconds of a moment (Table 0.1). -/
def ptpSplit (ns : Nat) : BitVec 48 × BitVec 32 := (BitVec.ofNat 48 (ns / 10 ^ 9), BitVec.ofNat 32 (ns % 10 ^ 9))

/-! ## Cores and banks -/

/-- The active bank of a core (BANK.CUR). -/
def Core.bank (c : Core) : Bank := if c.cur then c.bankB else c.bankA

/-- The core with its active bank replaced. -/
def Core.setBank (c : Core) (b : Bank) : Core := if c.cur then { c with bankB := b } else { c with bankA := b }

/-- The active bank of the core in focus. -/
def State.bank (s : State) : Bank := s.core.bank

/-- The state with that bank replaced. -/
def State.setBank (s : State) (b : Bank) : State := { s with core := s.core.setBank b }

/-- The state with that bank changed. -/
def State.modBank (s : State) (f : Bank → Bank) : State := s.setBank (f s.bank)

/-- The state with the core in focus changed. -/
def State.modCore (s : State) (f : Core → Core) : State := { s with core := f s.core }

/-- The core of a number: the one in focus, or one of the others. -/
def State.coreAt (s : State) (n : Nat) : Core :=
  if n = s.coreNo then s.core else Sparse.at (Core.reset (decide (128 ≤ n))) s.others n

/-- The state with the core of a number replaced. -/
def State.setCoreAt (s : State) (n : Nat) (c : Core) : State :=
  if n = s.coreNo then { s with core := c } else { s with others := Sparse.put s.others n c }

/-- The state with another core in focus. -/
def State.focus (s : State) (n : Nat) : State :=
  if n = s.coreNo then s
  else { s with core := s.coreAt n, coreNo := n, others := Sparse.put (Sparse.drop s.others n) s.coreNo s.core }

/-- Bytes of IMEM: 256 KiB, on a Collie core 64 KiB (R348). -/
def Core.imemSize (c : Core) : Nat := if c.collie then 0x10000 else 0x40000

/-- Bytes of scratchpad: 3 MiB, on a Collie core 256 KiB (R9, R348). -/
def Core.spadSize (c : Core) : Nat := if c.collie then 0x40000 else 0x300000

/-- A core that dispatches or issues. -/
def Run.issues : Run → Bool
  | .running | .draining => true
  | _ => false

/-! ## Registers -/

/-- The physical register of a name under a rotation base (R63). -/
def physReg (rotb : BitVec 5) (name : BitVec 6) : Nat :=
  if name.toNat < 32 then name.toNat else 32 + (name.toNat - rotb.toNat) % 32

/-- The x register of a name, as the entry that issues resolves it; x0 reads 0 (R58, R23). -/
def State.readX (s : State) (name : BitVec 6) : BitVec 64 := vget s.bank.x (physReg s.ctx.entry.rotb name) 0

/-- A predicate as the entry that issues sees it: p0 true, p1 to p7 as they stand, p8 to p15 as dispatch fixed (R23). -/
def State.readP (s : State) (k : Nat) : Bool :=
  if k = 0 then true else if k < 8 then s.bank.p.getLsbD k else s.ctx.entry.stage.getLsbD (k - 8)

/-- A guard holds: the predicate is true with SENSE 0, false with SENSE 1 (R20). -/
def State.holds (s : State) (g : Guard) : Bool := s.readP g.pred.toNat != g.sense

/-- A mask register; m0 is all ones (R58). -/
def State.readM (s : State) (k : Nat) : BitVec 128 := if k = 0 then BitVec.allOnes 128 else vget s.bank.m k 0

/-- Lane `i` of a vector (R134). -/
def lane (v : BitVec 4096) (i : Nat) : BitVec 32 := v.extractLsb' (32 * i) 32

/-- The vector of a list of lanes, lane 0 first. -/
def ofLanes (l : List (BitVec 32)) : BitVec 4096 :=
  BitVec.ofNat 4096 (l.foldr (fun x acc => acc * 2 ^ 32 + x.toNat) 0)

/-- The lanes of a vector, lane 0 first. -/
def lanesOf (v : BitVec 4096) : List (BitVec 32) := (List.range 128).map (lane v)

/-- Lanes taken from `new` where the mask has a 1, from `old` elsewhere (R135). -/
def mergeLanes (mask : BitVec 128) (new old : BitVec 4096) : BitVec 4096 :=
  if mask = BitVec.allOnes 128 then new
  else ofLanes ((List.range 128).map fun i => if mask.getLsbD i then lane new i else lane old i)

/-- One lane of an unsettled v register: one of the values that may stand there (R33). -/
def unsettledLane (s : State) (i : Nat) (old : BitVec 32) : List InFlight → BitVec 32 × State
  | [] => (old, s)
  | f :: fs =>
    if f.lanes.getLsbD i then
      let (k, s) := s.choose 2
      unsettledLane s i (if k = 1 then lane f.value i else old) fs
    else unsettledLane s i old fs

/-- A v register by physical number; while writes of it are in flight each lane reads one of the possible values
(R31, R33); one that a snapshot entry has put back shows once it has landed (R102). -/
def State.readVPhys (s : State) (n : Nat) : BitVec 4096 × State :=
  let old := vget s.bank.v n 0
  let fl := s.bank.inflight.filter fun f => f.reg = ⟨.v, n⟩ ∧ f.cyc < s.cycle ∧ !f.restored
  if fl.isEmpty then (old, s)
  else
    let (ls, s) := (List.range 128).foldl
      (fun (acc : List (BitVec 32) × State) i =>
        let (w, s) := unsettledLane acc.2 i (lane old i) fl
        (w :: acc.1, s)) ([], s)
    (ofLanes ls.reverse, s)

/-- A bank's register written: x0, p0 and m0 discard it (R58); a v write touches its lanes only (R135). Special registers
are written by `Core.landSpecial`. -/
def Bank.writeReg (b : Bank) (r : RegRef) (value : BitVec 4096) (lanes : BitVec 128) : Bank :=
  match r.file with
  | .x => if r.num = 0 then b else { b with x := vset b.x r.num (value.setWidth 64) }
  | .p => if r.num = 0 then b
      else { b with p := if value.getLsbD 0 then b.p ||| (1#16 <<< r.num) else b.p &&& ~~~(1#16 <<< r.num) }
  | .v => { b with v := vset b.v r.num (mergeLanes lanes value (vget b.v r.num 0)) }
  | .m => if r.num = 0 then b else { b with m := vset b.m r.num (value.setWidth 128) }
  | .z => { b with z := vset b.z r.num (value.setWidth 512) }
  | .sr => b

/-! ## Fixed-bound results (R31 to R33) -/

/-- Results in the order in which they land when they land together: by issue cycle, then by bundle issue (R33). -/
def insertInFlight (f : InFlight) : List InFlight → List InFlight
  | [] => [f]
  | g :: gs => if f.cyc < g.cyc ∨ (f.cyc = g.cyc ∧ f.seq < g.seq) then f :: g :: gs else g :: insertInFlight f gs

/-- Puts a result in flight that lands in one of the cycles t + 1 to t + bound, fixed now (R31); `src` is the special register
that it may still read in a later cycle (R89). -/
def State.landFrom (s : State) (src : Option Nat) (r : RegRef) (value : BitVec 4096) (lanes : BitVec 128) (bound : Nat) : State :=
  let (k, s) := s.choose bound
  s.modBank fun b =>
    { b with inflight := insertInFlight ⟨r, value, lanes, k + 1, s.cycle, s.ctx.entry.seq, s.ctx.slot, src, false⟩ b.inflight }

/-- Puts a result whose value is known in flight. -/
def State.land (s : State) (r : RegRef) (value : BitVec 4096) (lanes : BitVec 128) (bound : Nat) : State :=
  s.landFrom none r value lanes bound

/-- Puts a result for the x register of a name in flight; a write of x0 is discarded when it lands. -/
def State.landX (s : State) (name : BitVec 6) (v : BitVec 64) (bound : Nat) : State :=
  s.land ⟨.x, physReg s.ctx.entry.rotb name⟩ (v.setWidth 4096) 0 bound

/-- Puts a result for a predicate in flight. -/
def State.landP (s : State) (k : Nat) (v : Bool) (bound : Nat) : State := s.land ⟨.p, k⟩ (if v then 1 else 0) 0 bound

/-! ## The scratchpad in an operation's issue -/

/-- A byte with the bits of a mask taken from another. -/
def maskByte (old mask v : BitVec 8) : BitVec 8 := (old &&& ~~~mask) ||| (v &&& mask)

/-- A memory with masked bytes written, in order. -/
def writeMasked (m : Memory) (l : List (Nat × BitVec 8 × BitVec 8)) : Memory :=
  l.foldl (fun m p => m.write p.1 (maskByte (m.read p.1) p.2.1 p.2.2)) m

/-- The uncorrectable bytes that stay so once masked bytes are written: a byte written whole is good again. -/
def stillBad (bad : List Nat) (l : List (Nat × BitVec 8 × BitVec 8)) : List Nat :=
  bad.filter fun b => !(l.any fun p => p.1 == b && p.2.1 == 0xFF)

/-- The state with masked bytes written to the scratchpad by the operation that issues; they are noted (R46, R56). -/
def State.writeSpad (s : State) (l : List (Nat × BitVec 8 × BitVec 8)) : State :=
  s.modCore fun c => { c with spad := writeMasked c.spad l, spadBad := stillBad c.spadBad l, wrote := c.wrote ++ l }

/-- Whole bytes at an address, as masked bytes. -/
def wholeBytes (a : Nat) (bs : List (BitVec 8)) : List (Nat × BitVec 8 × BitVec 8) :=
  bs.zipIdx.map fun p => (a + p.2, 0xFF, p.1)

/-! ## Traps (R96 to R104) -/

/-- The bit of a slot in PRES order, as a mask (TSLOTS). -/
def slotMask (slot : Slot) : BitVec 6 := 1#6 <<< slot.presBit

/-- KIND as the record holds it (Table 7.2). -/
def TrapKind.code : TrapKind → BitVec 2
  | .atIssue => 0 | .deferred => 1 | .escalated => 2 | .illegal => 3

/-- The lowest-numbered slot of a trap in the order of R98, 6 where it names none. -/
def Trap.first (t : Trap) : Nat := ((List.range 6).find? fun k => t.slots.getLsbD (5 - k)).getD 6

/-- Of two traps of one cycle, the one that is reported is `t`: its slot comes first, or it is the same slot with a lower
cause (R98). -/
def Trap.precedes (t u : Trap) : Bool := t.first < u.first || (t.first == u.first && t.cause < u.cause)

/-- The condition is met again after the resume: by an entry that issues again, or by dispatch at an illegal bundle (R97, R98). TRAP
and BRK have consumed their entry, and no entry raises 0x17 or 0xB6. -/
def Trap.metAgain (t : Trap) : Bool :=
  match t.kind with
  | .atIssue => !([0x10, 0x16, 0x17, 0xB6] : List (BitVec 8)).contains t.cause
  | .illegal => true
  | _ => false

/-- A trap that nothing raises again is held until the resume (R98, R99). -/
def holdTrap (t : Trap) (isB : Bool) (l : List (Trap × Bool)) : List (Trap × Bool) :=
  if t.metAgain then l else l ++ [(t, isB)]

/-- Two traps of one cycle: the first in the order of R98 is reported with the slots of both. -/
def Core.joinTrap (c : Core) (u t : Trap) (isB : Bool) : Core :=
  if t.precedes u then
    { c with trap := some { t with slots := u.slots ||| t.slots }, trapBank := isB, deferred := holdTrap u c.trapBank c.deferred }
  else { c with trap := some { u with slots := u.slots ||| t.slots }, deferred := holdTrap t isB c.deferred }

/-- Takes an exact trap of a bank's task: the core freezes in place, the mesh with it (R96, R201). Traps of one cycle join
(R98); a later one is held until the resume (R99). -/
def State.takeTrapIn (s : State) (isB : Bool) (t : Trap) : State :=
  match s.core.run with
  | .running | .draining =>
    s.modCore fun c =>
      { c with run := .freezing, trap := some t, trapBank := isB, freezeAt := s.cycle, mesh := { c.mesh with frz := true } }
  | .freezing =>
    s.modCore fun c =>
      match c.trap with
      | some u => if c.freezeAt = s.cycle then c.joinTrap u t isB else { c with deferred := holdTrap t isB c.deferred }
      | none => { c with trap := some t, trapBank := isB }
  | _ => s.modCore fun c => { c with deferred := holdTrap t isB c.deferred }

/-- Takes an exact trap of the active bank's task. -/
def State.takeTrap (s : State) (t : Trap) : State := s.takeTrapIn s.core.cur t

/-- Puts the entry that issues back at the head of its queue: it commits nothing and issues again (R97). -/
def State.putBack (s : State) : State :=
  s.modBank fun b =>
    { b with queues := vset b.queues (5 - s.ctx.slot.presBit) (s.ctx.entry :: vget b.queues (5 - s.ctx.slot.presBit) []) }

/-- A trap at issue (KIND 0) of the entry that issues: the entry stays at the head of its queue (R97). -/
def State.trapAtIssue (s : State) (cause : BitVec 8) (addr detail0 detail1 : BitVec 64) : State :=
  s.putBack.takeTrap ⟨cause, .atIssue, (slotMask s.ctx.slot), s.ctx.entry.pc, s.ctx.entry.rep, addr, detail0, detail1⟩

/-- A trap at issue whose record's ADDR and DETAIL fields the spec does not state (log entry 5). -/
def State.trapPlain (s : State) (cause : BitVec 8) : State :=
  s.trapAtIssue cause (Config.unstated cause 0) (Config.unstated cause 1) (Config.unstated cause 2)

/-- A trap at issue with an address, whose DETAIL fields the spec does not state (log entry 5). -/
def State.trapAddr (s : State) (cause : BitVec 8) (addr : BitVec 64) : State :=
  s.trapAtIssue cause addr (Config.unstated cause 1) (Config.unstated cause 2)

/-- A class 3 trap at issue: an address for 0x30, 0x31 and 0x37, none stated for 0x32 to 0x35. -/
def State.trapStream (s : State) (cause : BitVec 8) (addr : BitVec 64) : State :=
  if 0x32 ≤ cause ∧ cause ≤ 0x35 then s.trapPlain cause else s.trapAddr cause addr

/-- A deferred trap (KIND 1) of a bank's task. -/
def State.trapIn (s : State) (isB : Bool) (cause : BitVec 8) (slot : Slot) (pc rep : Nat) (addr d0 d1 : BitVec 64) : State :=
  s.takeTrapIn isB ⟨cause, .deferred, slotMask slot, pc, rep, addr, d0, d1⟩

/-- A deferred trap (KIND 1) that names the bundle which issued the operation (R97). -/
def State.trapDeferred (s : State) (cause : BitVec 8) (slot : Slot) (pc rep : Nat) (addr detail0 detail1 : BitVec 64) :
    State :=
  s.takeTrap ⟨cause, .deferred, slotMask slot, pc, rep, addr, detail0, detail1⟩

/-- An uncorrectable scratchpad error found by an operation (0x36): deferred, ADDR the byte (log entry 5 for DETAIL). -/
def State.trapSpad (s : State) (slot : Slot) (pc rep a : Nat) : State :=
  s.trapDeferred 0x36 slot pc rep (BitVec.ofNat 64 a) (Config.unstated 0x36 1) (Config.unstated 0x36 2)

/-! ## The shared shape of an operation -/

/-- An operation takes effect when its guard holds, and otherwise occupies its issue cycle and does nothing (R20). -/
def guarded (g : Guard) (s : State) (f : State → State) : Out := .next (if s.holds g then f s else s)

/-- The state in which a step answers, or the state itself where it stops. -/
def Out.stateD (d : State) : Out → State
  | .next s => s
  | _ => d

end Sys2Proof.Machine
end

