-- ==== Sys2Proof/Machine/SReg.lean ====
section
/-! DEFINITION. The special registers of Table 5.2: what GETS reads and what a landed SETS or SETSI stores (spec/05 R59 to
R61, spec/06 R89), and GETS, SETS, SETSI and TIME. -/
namespace Sys2Proof.Machine

/-- Device ID of this device (DEVID of Table 25.1). -/
def State.devId (s : State) : BitVec 6 := (vget s.fab 0 0).setWidth 6

/-- LBODY (Table 5.3). -/
def Loop.word (l : Loop) : BitVec 64 := bit l.act ++ (0 : BitVec 39) ++ l.len ++ l.start

/-- A WMn register (Table 16.2). -/
def Wm.word (w : Wm) : BitVec 64 :=
  w.tid ++ bit w.act ++ bit w.frz ++ bit w.ring ++ bit w.abt ++ (0 : BitVec 6) ++ w.addr

/-- CHSn (Table 16.1). -/
def Channel.chs (c : Channel) : BitVec 64 :=
  c.state ++ c.fcause ++ BitVec.ofNat 5 c.queue.length ++ (0 : BitVec 19) ++
    BitVec.ofNat 32 (match c.cur with | some k => k.lidx | none => 0)

/-- MSTATUS (Table 12.5). -/
def Mesh.status (m : Mesh) : BitVec 64 :=
  let hdr := if m.active then m.hdrB else m.hdrA
  let infl := (m.pipe.filter fun p => p.wait == 0).length
  (0 : BitVec 41) ++ BitVec.ofNat 7 infl ++ bit m.gp ++ bit m.mode ++ hdr ++ bit m.frz ++ m.sticky ++
    bit (m.unit.any fun o => o.kind == .mswap) ++ (0 : BitVec 1)

/-- BANK (Table 7.5). -/
def Core.bankWord (c : Core) : BitVec 64 :=
  (0 : BitVec 60) ++ bit c.bankB.xfault ++ bit c.bankA.xfault ++ bit c.cur ++ bit c.arm

/-- DMk as a GETS reads it: reserved bits zero, SCOPE fixed at 3 + k (Table 5.4). -/
def dmWord (k : Nat) (w : BitVec 64) : BitVec 64 :=
  w.extractLsb' 63 1 ++ (0 : BitVec 15) ++ w.extractLsb' 32 16 ++ w.extractLsb' 16 16 ++ (0 : BitVec 12) ++
    BitVec.ofNat 4 (3 + k)

/-- MONADDR without its reserved bits (Table 5.5). -/
def monWord (w : BitVec 64) : BitVec 64 :=
  (0 : BitVec 10) ++ w.extractLsb' 7 47 ++ (0 : BitVec 5) ++ w.extractLsb' 0 2

/-- A special-register number that a Collie core has (R348). -/
def collieSpecial (n : Nat) : Bool :=
  n ≤ 0x03F || (0x080 ≤ n && n ≤ 0x0A9) || (0x0C8 ≤ n && n ≤ 0x0CA) || (0x0E0 ≤ n && n ≤ 0x0E3)

/-- The value of a special register of a core and bank, or none where Table 5.2 has no such number (R59, R197). DESIGN CHOICE:
CORE_ID of a Collie core reads its number in the model, 128 + k (log entry 92); a number of Table 5.2 that R348 does not give a
Collie core is one that it has not, 0x11 (log entry 136). -/
def specialOf (s : State) (c : Core) (b : Bank) (n : Nat) : Option (BitVec 64) :=
  if c.collie && !collieSpecial n then none
  else if 0x080 ≤ n ∧ n ≤ 0x087 then some (vget c.chans (n - 0x080) Channel.reset).wm.word
  else if 0x088 ≤ n ∧ n ≤ 0x08F then some (vget c.wins (n - 0x088) Window.reset).wm.word
  else if 0x090 ≤ n ∧ n ≤ 0x097 then some ((vget c.chans (n - 0x090) Channel.reset).tcp.setWidth 64)
  else if 0x098 ≤ n ∧ n ≤ 0x09F then some ((vget c.chans (n - 0x098) Channel.reset).tid.setWidth 64)
  else if 0x0A0 ≤ n ∧ n ≤ 0x0A7 then some (vget c.chans (n - 0x0A0) Channel.reset).chs
  else if 0x0C0 ≤ n ∧ n ≤ 0x0C3 then some (dmWord (n - 0x0C0) (vget b.dm (n - 0x0C0) 0))
  else if 0x0C4 ≤ n ∧ n ≤ 0x0C7 then some ((vget b.ph (n - 0x0C4) 0).setWidth 64)
  else
    match n with
    | 0x000 => some (BitVec.ofNat 64 s.coreNo)
    | 0x001 => some (b.launchId.setWidth 64)
    | 0x002 => some (b.asid.setWidth 64)
    | 0x003 => some b.taskIx
    | 0x004 => some (s.devId.setWidth 64)
    | 0x020 => some (b.irc.setWidth 64)
    | 0x021 => some (b.drc.setWidth 64)
    | 0x022 => some (b.rotb.setWidth 64)
    | 0x023 => some b.loop.word
    | 0x040 => some (b.vctl.setWidth 64)
    | 0x041 => some (b.vflags.setWidth 64)
    | 0x042 => some (b.fmt.setWidth 64)
    | 0x060 => some c.mesh.status
    | 0x061 => some (c.mesh.ntol.setWidth 64)
    | 0x062 => some (c.mesh.mpcnt.setWidth 64)
    | 0x063 => some (c.mesh.mgain.setWidth 64)
    | 0x0A8 => some (BitVec.ofNat 64 c.gq.length)
    | 0x0A9 => some (c.cstage.setWidth 64)
    | 0x0C8 => some (BitVec.ofNat 64 s.tick)
    | 0x0C9 => some ((ptpSplit s.ptpNs).1.setWidth 64)
    | 0x0CA => some ((ptpSplit s.ptpNs).2.setWidth 64)
    | 0x0CC => some (monWord b.monaddr)
    | 0x0E0 => some b.tcause
    | 0x0E1 => some b.tbundle
    | 0x0E2 => some b.tslots
    | 0x0E3 => some b.taddr
    | 0x0E8 => some c.bankWord
    | 0x0E9 => some (BitVec.ofNat 64 c.psbCnt)
    | _ => none

/-- The special register as the task in focus reads it. -/
def State.special (s : State) (n : Nat) : Option (BitVec 64) := specialOf s s.core s.bank n

/-- Access RW in Table 5.2 and Table 12.4. -/
def specialWritable (n : Nat) : Bool :=
  (0x020 ≤ n && n ≤ 0x022) || (0x040 ≤ n && n ≤ 0x042) || n == 0x060 || n == 0x061 || (0x080 ≤ n && n ≤ 0x08F) ||
    (0x0C0 ≤ n && n ≤ 0x0C3) || n == 0x0CC || n == 0x0E8

/-- FMT as stored: RC 11 stores 00 (Table 8.3). -/
def fmtStored (v : BitVec 4) : BitVec 4 := if v.extractLsb' 2 2 = 3 then v &&& 0b0011 else v

/-- A SETS of a watermark register stores ADDR while ACT and FRZ are 0 (R236). -/
def Wm.sets (w : Wm) (v : BitVec 64) : Wm := if w.act || w.frz then w else { w with addr := v.setWidth 22 }

/-- A bank with a banked special register written (R59: reserved bits ignored, narrow fields take the low bits). -/
def Bank.setSpecial (b : Bank) (n : Nat) (v : BitVec 64) : Bank :=
  if 0x0C0 ≤ n ∧ n ≤ 0x0C3 then { b with dm := vset b.dm (n - 0x0C0) (dmWord (n - 0x0C0) v) }
  else
    match n with
    | 0x020 => { b with irc := v.setWidth 32 }
    | 0x021 => { b with drc := v.setWidth 6 }
    | 0x022 => { b with rotb := v.setWidth 5 }
    | 0x040 => { b with vctl := v.setWidth 9 }
    | 0x041 => { b with vflags := v.setWidth 8 }
    | 0x042 => { b with fmt := fmtStored (v.setWidth 4), fmtNext := [] }
    | 0x0CC =>
      { b with monaddr := monWord v, monLine := none, monSeen := [], posted := b.posted.filter fun a => a.kind != .monitor }
    | _ => b

/-- The core with channel `n` changed. -/
def Core.modChan (c : Core) (n : Nat) (f : Channel → Channel) : Core :=
  { c with chans := vset c.chans n (f (vget c.chans n Channel.reset)) }

/-- The core with window `n` changed. -/
def Core.modWin (c : Core) (n : Nat) (f : Window → Window) : Core :=
  { c with wins := vset c.wins n (f (vget c.wins n Window.reset)) }

/-- A core with a special register of its own (not banked) written by a task (R59, R106, R197, R236). -/
def Core.setSpecial (c : Core) (n : Nat) (v : BitVec 64) : Core :=
  if 0x080 ≤ n ∧ n ≤ 0x087 then c.modChan (n - 0x080) fun ch => { ch with wm := ch.wm.sets v }
  else if 0x088 ≤ n ∧ n ≤ 0x08F then c.modWin (n - 0x088) fun w => { w with wm := w.wm.sets v }
  else
    match n with
    | 0x060 => { c with mesh := { c.mesh with sticky := v.extractLsb' 2 5 } }
    | 0x061 => { c with mesh := { c.mesh with ntol := v.setWidth 33 } }
    | 0x0E8 => { c with arm := if v.getLsbD 0 then c.loadedB || c.arm else false }
    | _ => c.setBank (c.bank.setSpecial n v)

/-- A landed result written to its register, in the active bank (R31, R89). A write of FMT that lands ends what earlier SFMTs left
for V entries, but for that of an SFMT itself (R119). -/
def Core.landResult (c : Core) (f : InFlight) : Core :=
  match f.reg.file with
  | .sr =>
    if f.reg.num = 0x042 ∧ f.slot ≠ .s then c.setBank { c.bank with fmt := fmtStored (f.value.setWidth 4) }
    else c.setSpecial f.reg.num (f.value.setWidth 64)
  | _ => c.setBank (c.bank.writeReg f.reg f.value f.lanes)

/-! ## GETS, SETS, SETSI, TIME -/

/-- A GETS of PTPS arms the bank's nanoseconds latch; the first GETS of PTPN after an arming reads the latch and disarms
it (R60). -/
def getsLatch (s : State) (n : Nat) (v : BitVec 64) : BitVec 64 × State :=
  if n = 0x0C9 then (v, s.modBank fun b => { b with nsLatch := (ptpSplit s.ptpNs).2, nsArmed := true })
  else if n = 0x0CA ∧ s.bank.nsArmed then (s.bank.nsLatch.setWidth 64, s.modBank fun b => { b with nsArmed := false })
  else (v, s)

/-- The special registers that other engines change: WMn, TCPn, CHSn, GQCNT, MSTATUS (R89). -/
def engineRegister (n : Nat) : Bool :=
  (0x080 ≤ n && n ≤ 0x097) || (0x0A0 ≤ n && n ≤ 0x0A8) || n == 0x060

/-- GETS (R59, R60, R89), bound 2; a number absent from Table 5.2 traps 0x11. A register that another engine changes may be read
in a later cycle up to the landing (`resample`). -/
def execGets (f : FmtSG) (s : State) : Out :=
  guarded f.g s fun s =>
    match s.special f.num.toNat with
    | none => s.trapPlain 0x11
    | some v =>
      (getsLatch s f.num.toNat v).2.landFrom (if engineRegister f.num.toNat then some f.num.toNat else none)
        ⟨.x, physReg s.ctx.entry.rotb f.d⟩ ((getsLatch s f.num.toNat v).1.setWidth 4096) 0 2

/-- A write of a special register at issue: the traps 0x11, 0x12, 0x14 and 0xA2, else a write of bound 2 (R59, R61, R67,
R89). -/
def writeSpecial (n : Nat) (v : BitVec 64) (s : State) : State :=
  if (s.special n).isNone then s.trapPlain 0x11
  else if !specialWritable n then s.trapPlain 0x12
  else if (n = 0x020 ∨ n = 0x021 ∨ n = 0x022) ∧ s.bank.loop.act then s.trapPlain 0x14
  else if 0x0C0 ≤ n ∧ n ≤ 0x0C3 ∧ (vget s.bank.out (n - 0x0C0) none).isSome then
    s.trapPlain 0xA2
  else s.land ⟨.sr, n⟩ (v.setWidth 4096) 0 2

/-- SETS (R59, R61, R89), bound 2: A is in VAL[9:4]. -/
def execSets (f : FmtSR) (s : State) : Out :=
  guarded f.g s fun s => writeSpecial f.num.toNat (s.readX (f.val.extractLsb' 4 6)) s

/-- SETSI (R59, R61, R89), bound 2. -/
def execSetsi (f : FmtSR) (s : State) : Out := guarded f.g s fun s => writeSpecial f.num.toNat (f.val.setWidth 64) s

/-- Puts a tracked result of a bounded time under way: it lands within `bound` cycles of its issue (R34). -/
def State.trackKind (s : State) (regs : List RegRef) (kind : TKind) (bound : Nat) : State :=
  let (k, s) := s.choose bound
  s.modBank fun b =>
    { b with tracked := b.tracked ++
        [⟨regs, kind, k + 1, s.ctx.entry.pc, s.ctx.entry.rep, s.ctx.entry.seq, s.ctx.slot⟩] }

/-- Puts a tracked result with a known value under way. -/
def State.track (s : State) (regs : List RegRef) (v : BitVec 512) (bound : Nat) : State := s.trackKind regs (.value v) bound

/-- The x register of a name, as the entry that issues resolves it. -/
def State.xRef (s : State) (name : BitVec 6) : RegRef := ⟨.x, physReg s.ctx.entry.rotb name⟩

/-- The value TIME returns and the latch's new state (R60, R95, Table 6.21). -/
def timeValue (sel : Nat) (s : State) : BitVec 64 × State :=
  let (secs, ns) := ptpSplit s.ptpNs
  match sel with
  | 0 => (BitVec.ofNat 64 s.tick, s)
  | 1 => (secs.setWidth 64, s.modBank fun b => { b with nsLatch := ns, nsArmed := true })
  | 2 => (s.bank.nsLatch.setWidth 64, s.modBank fun b => { b with nsArmed := false })
  | _ => (secs.setWidth 32 ++ ns, s)

/-- TIME (R95): tracked, lands within 4 cycles. -/
def execTime (f : FmtK) (s : State) : Out :=
  guarded f.g s fun s =>
    (timeValue f.k.toNat s).2.track [s.xRef f.d] ((timeValue f.k.toNat s).1.setWidth 512) 4

end Sys2Proof.Machine
end

