-- ==== Sys2Proof/Machine/Control.lean ====
section
/-! DEFINITION. Control transfer, the loop engine, pre-emption points, HALT, TRAP and BRK (spec/05 R62 to R65, spec/06 R83
to R88, spec/07 R109 to R111). -/
namespace Sys2Proof.Machine

/-! ## Joins (R12, R87, R90) -/

/-- A channel has nothing under way: no current and no queued copy. -/
def Channel.idle (c : Channel) : Bool := c.cur.isNone && c.queue.isEmpty

/-- A channel's current copy is frozen (WMn.FRZ, R236, R247). -/
def Channel.frozen (c : Channel) : Bool := c.cur.isSome && c.wm.frz

/-- Every copy has completed or frozen: each channel is idle or stands at a frozen copy (R87). -/
def Core.copiesRest (c : Core) : Bool := c.chans.toList.all fun ch => ch.idle || ch.frozen

/-- Every copy has completed. -/
def Core.copiesDone (c : Core) : Bool := c.chans.toList.all Channel.idle

/-- Every push has landed and every ordered mesh operation has completed (R220). -/
def Mesh.done (m : Mesh) : Bool := m.pipe.isEmpty && m.unit.isEmpty

/-- Every queue of the bank is empty but for entries of bundle issues after `seq`: every entry of this and every earlier
bundle issue has issued. The entry that asks is not in a queue. -/
def Bank.issuedUpTo (b : Bank) (seq : Nat) : Bool := b.queues.toList.all fun q => q.all fun e => seq < e.seq

/-- Every fixed-bound and tracked result has landed (R87, R90). -/
def Bank.resultsLanded (b : Bank) : Bool := b.inflight.isEmpty && b.tracked.isEmpty

/-- An access has not been translated. -/
def GAccess.untranslated (a : GAccess) : Bool := match a.phase with | .walk | .fault | .replay | .migrating _ => true | _ => false

/-- Every posted store of the bank is translated: none can fault any more (R107, R309, log entry 122). -/
def Bank.storesTranslated (b : Bank) : Bool := b.posted.all fun a => a.kind != .store || !a.untranslated

/-- The lowest-numbered channel whose current copy is frozen. -/
def Core.frozenChan (c : Core) : Option Nat := (List.range 8).find? fun n => (vget c.chans n Channel.reset).frozen

/-- DETAIL1 of cause 0x50: LIDX, watermark number, FCAUSE (Table 16.5). -/
def frozenDetail (c : Core) (n : Nat) : BitVec 64 :=
  let ch := vget c.chans n Channel.reset
  (0 : BitVec 24) ++ ch.fcause ++ BitVec.ofNat 4 n ++
    BitVec.ofNat 32 (match ch.cur with | some k => k.lidx | none => 0)

/-- The source address of a channel's failing unit (Table 16.3). -/
def frozenSource (c : Core) (n : Nat) : BitVec 64 :=
  match (vget c.chans n Channel.reset).cur with | some k => k.failSrc | none => 0

/-- Cause 0x50 of a SYNC or HALT at channel `n`: ADDR is the frozen ADDR (R87, R90, Table 16.5). -/
def trapFrozen (s : State) (n : Nat) : State :=
  s.trapAtIssue 0x50 ((vget s.core.chans n Channel.reset).wm.addr.setWidth 64) (frozenSource s.core n)
    (frozenDetail s.core n)

/-- The cause that a released schedule entry left at a channel (R245), and the core with it taken. -/
def takeSchedCause (s : State) : Option (Trap × State) :=
  match (List.range 8).find? fun n => (vget s.core.chans n Channel.reset).schedCause.isSome with
  | none => none
  | some n =>
    match (vget s.core.chans n Channel.reset).schedCause with
    | none => none
    | some t => some (t, s.modCore fun c => c.modChan n fun ch => { ch with schedCause := none })

/-! ## The loop engine (R62 to R65) -/

/-- Stage predicates shifted: p15 down to p9 take what p14 down to p8 held, p8 takes `b8` (R63). -/
def shiftStages (p : BitVec 16) (b8 : Bool) : BitVec 16 :=
  p.extractLsb' 8 7 ++ bit b8 ++ p.extractLsb' 0 8

/-- The drain towards a park begins (R111). -/
def State.beginDrain (s : State) : State :=
  (s.modCore fun c => { c with run := .draining, drainAt := some s.tick }).modBank fun b => { b with draining := true }

/-- Starts the drain towards a park outside a loop: dispatch stops where it stands (R86, R111). -/
def State.startDrain (s : State) : State := s.beginDrain.modBank fun b => { b with hold := .stopped }

/-- The items put aside in lpend start: the loop goes on with them (R110). -/
def Bank.startPending (b : Bank) : Bank :=
  { b with
    irc := b.loop.lpend - 1, drc := b.loop.drcOp, pc := b.loop.start.toNat, rep := 0,
    loop := { b.loop with act := true, lpend := 0 }, p := (b.p &&& 0x00FF) ||| 0x0100 }

/-- The end of a pass (R63): rotate, shift, and start an item, drain or end the loop; after LBRK the loop ends with no
rotation (R85). With a pre-emption request pending the items left are put aside in lpend and the drain begins (R109, R110); a
loop that ends in no drain starts the items put aside before. -/
def passEnd (s : State) : State :=
  let b := s.bank
  let l := b.loop
  let after := l.start.toNat + l.bytes
  let first := s.core.preReq.isSome && s.core.run == .running
  let s :=
    if l.brk then s.setBank { b with loop := { l with act := false, brk := false, lpend := 0 }, pc := after, rep := 0 }
    else
      let irc := if first then 0 else b.irc
      let l := if first then { l with lpend := b.irc } else l
      let (b8, irc, drc, act) :=
        if irc ≠ 0 then (true, irc - 1, b.drc, true)
        else if b.drc ≠ 0 then (false, irc, b.drc - 1, true)
        else (false, irc, b.drc, false)
      let b := { b with
        rotb := b.rotb + 1, p := shiftStages b.p b8, irc := irc, drc := drc,
        loop := { l with act := act }, pc := if act then l.start.toNat else after, rep := 0 }
      s.setBank (if !act && !first && !b.draining && l.lpend != 0 then b.startPending else b)
  (if first then s.beginDrain else s).modCore fun c => { c with point := c.point || c.cur }

/-- Runs the end of the pass when dispatch has taken the body's last bundle. -/
def passEndIfDue (s : State) : State :=
  let b := s.bank
  if b.loop.act && b.rep == 0 && b.pc == b.loop.start.toNat + b.loop.bytes then passEnd s else s

/-- The length of the bundle whose header stands at an IMEM address (R17). -/
def Core.bundleLen (c : Core) (a : Nat) : Nat := (readHeader (BitVec.ofNat 32 (c.imem.num a 4))).len

/-- The bytes of `n` bundles from an IMEM address, found from their PRES fields (R84). -/
def Core.bodyBytes (c : Core) (a : Nat) : Nat → Nat
  | 0 => 0
  | n + 1 => c.bundleLen a + Core.bodyBytes c (a + c.bundleLen a) n

/-! ## Control transfer (R27, R83) -/

/-- What dispatch waits for once a stop for a park has ended. -/
def DHold.resumed (h : DHold) : DHold := if h = .stopped then .free else h

/-- What dispatch waits for once a control-flow operation has acted: nothing, unless it has stopped for a park or an end
(R111). -/
def DHold.released (h : DHold) : DHold := if h = .stopped then .stopped else .free

/-- Dispatch continues at the next bundle, in the cycle after this one (R27). -/
def State.fallThrough (s : State) : State :=
  passEndIfDue (s.modBank fun b => { b with hold := b.hold.released, gap := 0 })

/-- Dispatch continues at `target`, two cycles after this one (R27). -/
def State.jump (s : State) (target : Nat) : State :=
  s.modBank fun b => { b with hold := b.hold.released, gap := 1, pc := target, rep := 0 }

/-- A control-flow operation: nothing but the next bundle where its guard fails (R73). -/
def controlFlow (g : Guard) (s : State) (f : State → State) : Out := .next (if s.holds g then f s else s.fallThrough)

/-- A target inside IMEM and aligned (R83). -/
def targetOk (c : Core) (t : Int) : Bool := 0 ≤ t && t < c.imemSize && t % 4 == 0

/-- A transfer to `t`, or cause 0x15 (R83). -/
def State.transfer (s : State) (t : Int) (f : State → State) : State :=
  if targetOk s.core t then f (s.jump t.toNat) else s.trapPlain 0x15

/-- The target of BR and CALL (R83). -/
def branchTarget (s : State) (off : BitVec 20) : Int := (s.ctx.entry.pc : Int) + 4 * off.toInt

/-- BR (R83). -/
def execBr (f : FmtBO) (s : State) : Out := controlFlow f.g s fun s => s.transfer (branchTarget s f.off) id

/-- JMP (R83). -/
def execJmp (f : FmtK) (s : State) : Out := controlFlow f.g s fun s => s.transfer (s.readX f.a).toNat id

/-- CALL (R83): x31 takes the address of the next bundle, bound 1. -/
def execCall (f : FmtBO) (s : State) : Out :=
  controlFlow f.g s fun s =>
    s.transfer (branchTarget s f.off) fun s => s.landX 31 (BitVec.ofNat 64 (s.ctx.entry.pc + s.ctx.entry.len)) 1

/-- RET (R83). -/
def execRet (f : FmtK) (s : State) : Out := controlFlow f.g s fun s => s.transfer (s.readX f.a).toNat id

/-- The part of a memory that `n` bytes from an address take. -/
def Memory.part (m : Memory) (a n : Nat) : Memory := m.filter fun p => a ≤ p.1 && p.1 < a + n

/-- Starts a loop of `count` + 1 items, its body taken into the loop buffer (R62, R84); a false predicate transfers past the
body (R73), and raises no cause of its own (R20; log entry 94). -/
def startLoop (f : FmtLP) (count : State → BitVec 64) (s : State) : Out :=
  let start := s.ctx.entry.pc + s.ctx.entry.len
  let bytes := s.core.bodyBytes start (f.len.toNat + 1)
  if !s.holds f.g then .next (s.jump (start + bytes))
  else if 2 ^ 32 ≤ (count s).toNat then .next (s.trapPlain 0x19)
  else if 0x40000 < start + bytes then .next (s.trapPlain 0x13)
  else
    .next ((s.modBank fun b =>
      { b with
        irc := (count s).setWidth 32, drc := f.drc,
        loop := ⟨true, f.len, BitVec.ofNat 18 start, bytes, false, f.drc, 0, s.core.imem.part start bytes,
          s.core.imemBad.filter fun a => start ≤ a && a < start + bytes⟩,
        p := (b.p &&& 0x00FF) ||| 0x0100 }).fallThrough)

/-- LOOP (R84): the count is x[a], named by CNT[7:2]. -/
def execLoop (f : FmtLP) (s : State) : Out := startLoop f (fun s => s.readX (f.cnt.extractLsb' 2 6)) s

/-- LOOPI (R84): the count is CNT. -/
def execLoopi (f : FmtLP) (s : State) : Out := startLoop f (fun _ => f.cnt.setWidth 64) s

/-- LBRK (R85): the loop ends when the current pass has dispatched; without a loop it has no effect. -/
def execLbrk (f : FmtK) (s : State) : Out :=
  controlFlow f.g s fun s =>
    (s.modBank fun b => if b.loop.act then { b with loop := { b.loop with brk := true } } else b).fallThrough

/-- PPT (R86, R108): with a request pending it starts the drain, in a loop body at the end of the pass; in bank B it is a
point at which the core may switch back. -/
def execPpt (f : FmtK) (s : State) : Out :=
  guarded f.g s fun s =>
    let s := s.modCore fun c => { c with point := c.point || c.cur }
    if s.core.preReq.isSome && s.core.run == .running && !s.bank.loop.act then s.startDrain else s

/-- HALT (R87): it stays at the head of its queue until every earlier entry has issued, every result has landed, every
push has landed, every copy has completed or frozen and every store of the task is translated (log entry 122); a frozen copy traps
0x50; then the task ends (TASK_END). -/
def execHalt (f : FmtK) (s : State) : Out :=
  controlFlow f.g s fun s =>
    let b := s.bank
    if !(b.issuedUpTo s.ctx.entry.seq && b.resultsLanded && b.storesTranslated && s.core.mesh.done && s.core.copiesRest) then s.putBack
    else
      match takeSchedCause s with
      | some (t, s) => s.putBack.takeTrap { t with pc := s.ctx.entry.pc, rep := s.ctx.entry.rep }
      | none =>
        match s.core.frozenChan with
        | some n => trapFrozen s n
        | none => s.modBank fun b => { b with hold := .stopped, ending := true }

/-- TRAP and BRK (R88, R97): once every other entry of the bundle issue has issued, an exact trap that consumes the entry;
dispatch continues at the following bundle on resume. -/
def softTrap (cause : BitVec 8) (f : FmtTC) (s : State) : Out :=
  controlFlow f.g s fun s =>
    if !s.bank.issuedUpTo s.ctx.entry.seq then s.putBack
    else s.fallThrough.takeTrap
      ⟨cause, .atIssue, slotMask .s, s.ctx.entry.pc, s.ctx.entry.rep, f.code.setWidth 64, f.code.setWidth 64, 0⟩

/-- TRAP (R88), cause 0x10. -/
def execTrap (f : FmtTC) (s : State) : Out := softTrap 0x10 f s

/-- BRK (R88), cause 0x16. -/
def execBrk (f : FmtTC) (s : State) : Out := softTrap 0x16 f s

end Sys2Proof.Machine
end

