-- ==== Sys2Proof/Machine/Flags.lean ====
section
/-! DEFINITION. The vector flags (spec/08 R128 to R130): a mask in VFLAGS order, and how an operation raises and traps. -/
namespace Sys2Proof.Machine

/-- A set of flags in VFLAGS order (Table 8.7). -/
abbrev Flags := BitVec 8

/-- Invalid operation. -/
def fINV : Flags := 0x01
/-- Division by zero. -/
def fDZ : Flags := 0x02
/-- Overflow. -/
def fOVF : Flags := 0x04
/-- Underflow. -/
def fUFL : Flags := 0x08
/-- Inexact. -/
def fINX : Flags := 0x10
/-- Saturation. -/
def fSAT : Flags := 0x20
/-- NaN block scale read. -/
def fNBS : Flags := 0x40
/-- Reserved-code marker decoded. -/
def fMRK : Flags := 0x80

/-- A flag where a condition holds. -/
def flagIf (c : Bool) (f : Flags) : Flags := if c then f else 0

/-- A value with the flags that making it raised. -/
structure Flagged (α : Type) where
  val : α
  fl : Flags
  deriving DecidableEq, Repr

/-- A value that raises nothing. -/
def Flagged.pure (a : α) : Flagged α := ⟨a, 0⟩

/-- A further step, its flags joined. -/
def Flagged.bind (x : Flagged α) (f : α → Flagged β) : Flagged β := ⟨(f x.val).val, x.fl ||| (f x.val).fl⟩

/-- The value with further flags. -/
def Flagged.raise (x : Flagged α) (f : Flags) : Flagged α := ⟨x.val, x.fl ||| f⟩

/-- VCTL.FTZ (Table 8.8). -/
def State.ftz (s : State) : Bool := s.bank.vctl.getLsbD 8

/-- VCTL.TE (Table 8.8). -/
def State.trapEnable (s : State) : Flags := s.bank.vctl.setWidth 8

/-- The lowest set bit of a flag set (R130). -/
def lowestFlag (f : Flags) : Nat := ((List.range 8).find? fun i => f.getLsbD i).getD 0

/-- The cause of a flag trap: 0x20 plus the lowest enabled flag (R128, R130). -/
def flagCause (f : Flags) : BitVec 8 := BitVec.ofNat 8 (0x20 + lowestFlag f)

/-- The mask of lanes whose flags meet a set (R130). -/
def flagLanes (fl : List Flags) (te : Flags) : BitVec 128 :=
  BitVec.ofNat 128 (fl.foldr (fun f acc => acc * 2 + if f &&& te = 0 then 0 else 1) 0)

/-- Flags raised lane by lane, joined. -/
def joinFlags (fl : List Flags) : Flags := fl.foldl (· ||| ·) 0

/-- Raises an operation's flags (ORed into VFLAGS at the end of the issue cycle, R129) and goes on, or traps at issue where
an enabled flag would be raised, with ADDR 0 (R130). `fl` gives the flags of each lane. -/
def State.withFlags (s : State) (fl : List Flags) (go : State → State) : State :=
  let all := joinFlags fl
  if all &&& s.trapEnable = 0 then go (s.modBank fun b => { b with vflagsNow := b.vflagsNow ||| all })
  else
    let lanes := flagLanes fl s.trapEnable
    s.trapAtIssue (flagCause (all &&& s.trapEnable)) 0 (lanes.setWidth 64) (lanes.extractLsb' 64 64)

end Sys2Proof.Machine
end

