-- ==== Sys2Proof/Machine/Float.lean ====
section
/-! DEFINITION. Number formats and arithmetic (spec/08 R115 to R127): exact dyadic values, one rounding core, conversions,
PS8, T16, narrow integers, quantisation. -/
namespace Sys2Proof.Machine

/-! ## Formats (R115, R116) -/

/-- A floating format: exponent bits, fraction bits, bias, and whether it is E4M3, which has no infinity. -/
structure FloatFmt where
  ebits : Nat
  fbits : Nat
  bias : Nat
  e4m3 : Bool
  deriving DecidableEq, Repr

/-- FP32. -/
def fp32 : FloatFmt := ⟨8, 23, 127, false⟩
/-- LF24. -/
def lf24 : FloatFmt := ⟨8, 15, 127, false⟩
/-- BF16. -/
def bf16 : FloatFmt := ⟨8, 7, 127, false⟩
/-- FP16. -/
def fp16 : FloatFmt := ⟨5, 10, 15, false⟩
/-- E5M2. -/
def e5m2 : FloatFmt := ⟨5, 2, 15, false⟩
/-- E4M3. -/
def e4m3 : FloatFmt := ⟨4, 3, 7, true⟩

/-- The two 8-bit formats saturate and their NaNs are all quiet (R117, R124). -/
def FloatFmt.narrow (f : FloatFmt) : Bool := f.ebits + f.fbits == 7

/-- The sign bit's position. -/
def FloatFmt.signBit (f : FloatFmt) : Nat := f.ebits + f.fbits

/-- The bits of the largest finite magnitude (Table 8.2). -/
def FloatFmt.maxBits (f : FloatFmt) : Nat := if f.e4m3 then 0x7E else (2 ^ f.ebits - 1) * 2 ^ f.fbits - 1

/-- The bits of +Inf (Table 8.2; for E4M3 none, this is S.1111.000 and never used). -/
def FloatFmt.infBits (f : FloatFmt) : Nat := (2 ^ f.ebits - 1) * 2 ^ f.fbits

/-- The canonical NaN (Table 8.2). -/
def FloatFmt.nan (f : FloatFmt) : Nat := if f.e4m3 then 0x7F else f.infBits + 2 ^ (f.fbits - 1)

/-- The exponent of the last place of subnormals and of the smallest normal. -/
def FloatFmt.qmin (f : FloatFmt) : Int := 1 - (f.bias : Int) - f.fbits

/-- The bits of a magnitude with its sign. -/
def FloatFmt.signed (f : FloatFmt) (neg : Bool) (mag : Nat) : Nat := if neg then 2 ^ f.signBit + mag else mag

/-! ## Values -/

/-- The value of an encoding: a NaN (signalling or not), an infinity, or (−1)^neg · m · 2^e. -/
inductive FVal where
  | nan (sig : Bool)
  | inf (neg : Bool)
  | fin (neg : Bool) (m : Nat) (e : Int)
  deriving DecidableEq, Repr

/-- The value of an encoding (R115, R117). -/
def FloatFmt.decode (f : FloatFmt) (bits : Nat) : FVal :=
  let neg := bits.testBit f.signBit
  let x := bits / 2 ^ f.fbits % 2 ^ f.ebits
  let m := bits % 2 ^ f.fbits
  if f.e4m3 then
    if x = 15 ∧ m = 7 then .nan false
    else if x = 0 then .fin neg m f.qmin else .fin neg (m + 8) (f.qmin + x - 1)
  else if x = 2 ^ f.ebits - 1 then
    if m = 0 then .inf neg else .nan (!f.narrow && m < 2 ^ (f.fbits - 1))
  else if x = 0 then .fin neg m f.qmin
  else .fin neg (m + 2 ^ f.fbits) (f.qmin + x - 1)

/-- The sign of a value; a NaN counts as positive. -/
def FVal.neg : FVal → Bool
  | .nan _ => false
  | .inf n => n
  | .fin n _ _ => n

/-- A NaN. -/
def FVal.isNan : FVal → Bool
  | .nan _ => true
  | _ => false

/-- A signalling NaN. -/
def FVal.isSig : FVal → Bool
  | .nan g => g
  | _ => false

/-- An infinity. -/
def FVal.isInf : FVal → Bool
  | .inf _ => true
  | _ => false

/-- A zero. -/
def FVal.isZero : FVal → Bool
  | .fin _ m _ => m == 0
  | _ => false

/-- The value with its sign set. -/
def FVal.withSign (n : Bool) : FVal → FVal
  | .nan g => .nan g
  | .inf _ => .inf n
  | .fin _ m e => .fin n m e

/-- The value with its sign inverted. -/
def FVal.negate (v : FVal) : FVal := v.withSign (!v.neg)

/-- A subnormal input of a format read as zero of the same sign when FTZ is set (R125). -/
def FloatFmt.flushIn (f : FloatFmt) (ftz : Bool) (v : FVal) : FVal :=
  match v with
  | .fin n m e => if ftz && !f.narrow && m < 2 ^ f.fbits then .fin n 0 e else .fin n m e
  | v => v

/-! ## Rounding (R124, R125) -/

/-- Rounding modes of the RM field. -/
inductive Rm where
  | rne | rtz | rup | rdn
  deriving DecidableEq, Repr

/-- The mode of an RM field (Table 3.3). -/
def rmOf (b : BitVec 2) : Rm :=
  match b.toNat with
  | 0 => .rne | 1 => .rtz | 2 => .rup | _ => .rdn

/-- A multiple `n` of the last place and the remainder's comparison with half a place (0 exact, 1 below, 2 half, 3 above),
rounded to an integer. -/
def roundStep (rm : Rm) (neg : Bool) (n rest : Nat) : Nat :=
  let up :=
    match rm with
    | .rne => rest == 3 || (rest == 2 && n % 2 == 1)
    | .rtz => false
    | .rup => !neg && rest != 0
    | .rdn => neg && rest != 0
  if up then n + 1 else n

/-- `m`·2^e (plus something below one unit of `m` when `sticky`) in units of 2^q: the floor and the remainder class. -/
def splitAt (m : Nat) (e : Int) (sticky : Bool) (q : Int) : Nat × Nat :=
  if q ≤ e then (m * 2 ^ (e - q).toNat, if sticky then 1 else 0)
  else
    let k := (q - e).toNat
    if k > m.log2 + 1 then (0, if m = 0 ∧ !sticky then 0 else 1)
    else
      let r := m % 2 ^ k
      let h := 2 ^ (k - 1)
      (m / 2 ^ k, if r = 0 then (if sticky then 1 else 0) else if r < h then 1 else if r = h then (if sticky then 3 else 2) else 3)

/-- The magnitude `m`·2^e (`sticky` as in `splitAt`) rounded to an integer. -/
def roundInt (rm : Rm) (neg : Bool) (m : Nat) (e : Int) (sticky : Bool) : Nat × Bool :=
  let (n, r) := splitAt m e sticky 0
  (roundStep rm neg n r, r != 0)

/-- What rounding a nonzero magnitude to a format gives. -/
structure Rounded where
  mag : Nat
  inexact : Bool
  ovf : Bool
  tiny : Bool
  deriving DecidableEq, Repr

/-- A nonzero magnitude `m`·2^e (`sticky`: a little more) rounded to a format, with overflow and tininess judged after
rounding with an unbounded exponent (R124). -/
def FloatFmt.roundMag (f : FloatFmt) (rm : Rm) (neg : Bool) (m : Nat) (e : Int) (sticky : Bool) : Rounded :=
  let top : Int := e + m.log2
  let q0 := top - f.fbits
  let (n0, r0) := splitAt m e sticky q0
  let u := roundStep rm neg n0 r0
  let tiny : Bool := q0 < f.qmin && (q0 + 1 < f.qmin || u < 2 ^ (f.fbits + 1))
  let q := max q0 f.qmin
  let (n, r) := splitAt m e sticky q
  let v := roundStep rm neg n r
  let mag := (q - f.qmin).toNat * 2 ^ f.fbits + v
  ⟨mag, r != 0, f.maxBits < mag, tiny⟩

/-- A magnitude rounded to a format, with its flags (R124, R125); the 8-bit formats saturate (Table 8.6). -/
def FloatFmt.round (f : FloatFmt) (rm : Rm) (ftz : Bool) (neg : Bool) (m : Nat) (e : Int) (sticky : Bool) : Flagged Nat :=
  if m = 0 ∧ !sticky then ⟨f.signed neg 0, 0⟩
  else
    let r := f.roundMag rm neg m e sticky
    if r.ovf then
      if f.narrow then ⟨f.signed neg f.maxBits, fSAT ||| fINX⟩
      else
        let inf :=
          match rm with
          | .rne => true
          | .rtz => false
          | .rup => !neg
          | .rdn => neg
        ⟨f.signed neg (if inf then f.infBits else f.maxBits), fOVF ||| fINX⟩
    else if r.tiny && ftz && !f.narrow then ⟨f.signed neg 0, fUFL ||| fINX⟩
    else ⟨f.signed neg r.mag, flagIf r.inexact fINX ||| flagIf (r.tiny && r.inexact) fUFL⟩

/-- An exact value in a format: a NaN gives the canonical NaN, an infinity the infinity (Table 8.6: the 8-bit formats
saturate). -/
def FloatFmt.encode (f : FloatFmt) (rm : Rm) (ftz : Bool) (v : FVal) : Flagged Nat :=
  match v with
  | .nan g => ⟨f.nan, flagIf g fINV⟩
  | .inf n => if f.narrow then ⟨f.signed n f.maxBits, fSAT ||| fINX⟩ else ⟨f.signed n f.infBits, 0⟩
  | .fin n m e => f.round rm ftz n m e false

/-! ## Exact arithmetic -/

/-- The signed mantissa of a finite value. -/
def signedMant (n : Bool) (m : Nat) : Int := if n then -(m : Int) else m

/-- The exact sum of two finite values; the sign of a zero sum is that of R124. -/
def addFin (rm : Rm) (n1 : Bool) (m1 : Nat) (e1 : Int) (n2 : Bool) (m2 : Nat) (e2 : Int) : FVal :=
  let e := min e1 e2
  let i := signedMant n1 (m1 * 2 ^ (e1 - e).toNat) + signedMant n2 (m2 * 2 ^ (e2 - e).toNat)
  if i = 0 then .fin (if n1 = n2 then n1 else rm == .rdn) 0 0 else .fin (decide (i < 0)) i.natAbs e

/-- IEEE 754 addition before rounding: INV on a signalling NaN and on ∞ − ∞. -/
def fAdd (rm : Rm) (a b : FVal) : Flagged FVal :=
  match a, b with
  | .fin n1 m1 e1, .fin n2 m2 e2 => ⟨addFin rm n1 m1 e1 n2 m2 e2, 0⟩
  | .inf n1, .inf n2 => if n1 = n2 then ⟨.inf n1, 0⟩ else ⟨.nan false, fINV⟩
  | .inf n, .fin .. => ⟨.inf n, 0⟩
  | .fin .., .inf n => ⟨.inf n, 0⟩
  | a, b => ⟨.nan false, flagIf (a.isSig || b.isSig) fINV⟩

/-- IEEE 754 multiplication before rounding: INV on a signalling NaN and on 0 · ∞. -/
def fMul (a b : FVal) : Flagged FVal :=
  match a, b with
  | .fin n1 m1 e1, .fin n2 m2 e2 => ⟨.fin (n1 != n2) (m1 * m2) (e1 + e2), 0⟩
  | .inf n1, .inf n2 => ⟨.inf (n1 != n2), 0⟩
  | .inf n1, .fin n2 m _ => if m = 0 then ⟨.nan false, fINV⟩ else ⟨.inf (n1 != n2), 0⟩
  | .fin n1 m _, .inf n2 => if m = 0 then ⟨.nan false, fINV⟩ else ⟨.inf (n1 != n2), 0⟩
  | a, b => ⟨.nan false, flagIf (a.isSig || b.isSig) fINV⟩

/-- fusedMultiplyAdd before rounding (R151): a 0 · ∞ product raises INV whatever the addend. -/
def fFma (rm : Rm) (a b c : FVal) : Flagged FVal := (fMul a b).bind fun p => fAdd rm p c

/-- Order of two values, −0 below +0, for numbers (R152). -/
def fLess (a b : FVal) : Bool :=
  match a, b with
  | .nan _, _ | _, .nan _ => false
  | .inf n1, .inf n2 => n1 && !n2
  | .inf n1, .fin .. => n1
  | .fin .., .inf n2 => !n2
  | .fin n1 m1 e1, .fin n2 m2 e2 =>
    if m1 = 0 ∧ m2 = 0 then n1 && !n2
    else
      let e := min e1 e2
      signedMant n1 (m1 * 2 ^ (e1 - e).toNat) < signedMant n2 (m2 * 2 ^ (e2 - e).toNat)

/-- Numerical equality, −0 equal to +0; false for NaNs (R155). -/
def fEq (a b : FVal) : Bool :=
  if a.isNan || b.isNan then false
  else if a.isZero && b.isZero then true else !fLess a b && !fLess b a

/-- Numerical order with −0 equal to +0 (R155). -/
def fLt (a b : FVal) : Bool := !(a.isZero && b.isZero) && fLess a b

/-- minimumNumber or maximumNumber of two encodings (R152): the chosen value, INV on a signalling NaN. -/
def fMinMax (max : Bool) (a b : FVal) : Flagged FVal :=
  ⟨if a.isNan then (if b.isNan then .nan false else b) else if b.isNan then a
    else if max then (if fLess a b then b else a) else (if fLess b a then b else a),
   flagIf (a.isSig || b.isSig) fINV⟩

/-- A finite value divided by a nonzero finite value: mantissa with at least 64 significant bits, exponent, sticky. -/
def divMag (m1 : Nat) (e1 : Int) (m2 : Nat) (e2 : Int) : Nat × Int × Bool :=
  let k := m2.log2 + 66
  let n := m1 * 2 ^ k
  (n / m2, e1 - e2 - k, n % m2 != 0)

/-- Integer square root by Newton's iteration from above. -/
def isqrtGo (n : Nat) : Nat → Nat → Nat
  | 0, x => x
  | k + 1, x => let y := (x + n / x) / 2; if y < x then isqrtGo n k y else x

/-- The integer square root. -/
def isqrt (n : Nat) : Nat := if n = 0 then 0 else isqrtGo n (n.log2 + 4) (2 ^ (n.log2 / 2 + 1))

/-- The square root of a magnitude: mantissa with at least 64 significant bits, exponent, sticky. -/
def sqrtMag (m : Nat) (e : Int) : Nat × Int × Bool :=
  let k : Nat := 132 + (if e % 2 = 0 then 0 else 1)
  let n := m * 2 ^ k
  let r := isqrt n
  (r, (e - k) / 2, r * r != n)

/-! ## PS8 and T16 (R121 to R123) -/

/-- The two terms of a PS8 coefficient that are present: sign and shift. -/
def ps8Terms (c : BitVec 8) : List (Bool × Nat) :=
  let a := (c.extractLsb' 4 3).toNat
  let b := (c.extractLsb' 0 3).toNat
  (if a = 7 then [] else [(c.getLsbD 7, a)]) ++ (if b = 7 then [] else [(c.getLsbD 3, b)])

/-- The value of a PS8 coefficient, in units of 2⁻⁶. -/
def ps8Value (c : BitVec 8) : Int := ((ps8Terms c).map fun t => signedMant t.1 (2 ^ (6 - t.2))).sum

/-- A value times one term of a PS8 coefficient. -/
def ps8Term (x : FVal) (t : Bool × Nat) : FVal :=
  match x with
  | .fin n m e => .fin (n != t.1) m (e - t.2)
  | x => x.withSign (x.neg != t.1)

/-- A value times a PS8 coefficient, exact (R121): the sum of the terms that are present, a zero sum signed as under RNE, +0 or a
NaN where none is (R226). One rounding is left. DEDUCED: an infinity times two terms of opposite signs is the invalid sum of two
infinities, whether or not the terms sum to zero (log entry 131). -/
def ps8Mul (c : BitVec 8) (x : FVal) : Flagged FVal :=
  if x.isNan then ⟨.nan false, flagIf x.isSig fINV⟩
  else
    match ps8Terms c with
    | [] => if x.isInf then ⟨.nan false, fINV⟩ else ⟨.fin false 0 0, 0⟩
    | [t] => ⟨ps8Term x t, 0⟩
    | t :: u :: _ => fAdd .rne (ps8Term x t) (ps8Term x u)

/-- to_t16 (R123): a value in turns to a turn code. -/
def toT16 (rm : Rm) (v : FVal) : Flagged (BitVec 16) :=
  match v with
  | .nan _ | .inf _ => ⟨0, fINV⟩
  | .fin n m e =>
    let (k, x) := roundInt rm n m (e + 16) false
    ⟨BitVec.ofInt 16 (signedMant n k), flagIf x fINX⟩

/-! ## Narrow integers (R119, R120) -/

/-- A narrow-integer type: width, signedness, RC. -/
structure IntFmt where
  width : Nat
  sgn : Bool
  rc : Nat
  deriving DecidableEq, Repr

/-- The N8 type of a register operand under FMT (R158). -/
def n8Of (fmt : BitVec 4) : IntFmt :=
  ⟨if fmt.getLsbD 1 then 4 else 8, fmt.getLsbD 0, (fmt.extractLsb' 2 2).toNat⟩

/-- The N8 or N4 type of a stream element: the width comes from EFMT (R137). -/
def nStream (width : Nat) (fmt : BitVec 4) : IntFmt := ⟨width, fmt.getLsbD 0, (fmt.extractLsb' 2 2).toNat⟩

/-- A full two's-complement type. -/
def intFmt (w : Nat) : IntFmt := ⟨w, true, 0⟩

/-- The value of a narrow code and MRK for a marker (R120). -/
def IntFmt.decode (t : IntFmt) (v : Nat) : Flagged Int :=
  let v := v % 2 ^ t.width
  if !t.sgn then ⟨v, 0⟩
  else if v = 2 ^ (t.width - 1) then
    match t.rc with
    | 0 => ⟨-(2 ^ (t.width - 1) : Nat), 0⟩
    | 1 => ⟨-(2 ^ (t.width - 1) - 1 : Nat), 0⟩
    | _ => ⟨0, fMRK⟩
  else ⟨signedNat t.width v, 0⟩

/-- The least value of the quantisation range (R120). -/
def IntFmt.lo (t : IntFmt) : Int :=
  if !t.sgn then 0 else if t.rc = 0 then -(2 ^ (t.width - 1) : Nat) else 1 - (2 ^ (t.width - 1) : Nat)

/-- The greatest value of the quantisation range (R120). -/
def IntFmt.hi (t : IntFmt) : Int := if t.sgn then (2 ^ (t.width - 1) : Nat) - 1 else (2 ^ t.width : Nat) - 1

/-- SAT of an integer: clamped, raising SAT (R6). -/
def IntFmt.sat (t : IntFmt) (n : Int) : Flagged Nat :=
  let c := max t.lo (min n t.hi)
  ⟨(c % (2 ^ t.width : Nat)).toNat, flagIf (c != n) fSAT⟩

/-! ## Conversions (R126, Table 8.6) -/

/-- The element formats among which a conversion goes. -/
inductive EFmt where
  | float (f : FloatFmt)
  | int (t : IntFmt)
  deriving DecidableEq, Repr

/-- A value converted to an integer type (Table 8.6). -/
def toInt (t : IntFmt) (rm : Rm) (v : FVal) : Flagged Nat :=
  match v with
  | .nan _ => ⟨0, fINV⟩
  | .inf n => t.sat (if n then t.lo - 1 else t.hi + 1)
  | .fin n m e =>
    let (k, x) := roundInt rm n m e false
    (t.sat (signedMant n k)).raise (flagIf x fINX)

/-- An element converted from one format to another (Table 8.6); FTZ flushes floating inputs and results (R125). -/
def convert (src dst : EFmt) (rm : Rm) (ftz : Bool) (bits : Nat) : Flagged Nat :=
  match src, dst with
  | .float f, .float g => g.encode rm ftz (f.flushIn ftz (f.decode bits))
  | .float f, .int t => toInt t rm (f.flushIn ftz (f.decode bits))
  | .int t, .float g => (t.decode bits).bind fun n => g.round rm ftz (decide (n < 0)) n.natAbs 0 false
  | .int t, .int u => (t.decode bits).bind fun n => u.sat n

/-! ## Block scales (R122, R127) -/

/-- A block scale: a NaN scale, or a value (FP32 or E8). -/
def e8Scale (b : BitVec 8) : FVal := if b = 0xFF then .nan false else .fin false 1 ((b.toNat : Int) - 127)

/-- quant to an integer type (R127): INV and 0 for a bad scale or a NaN, else the exact quotient rounded once; a
NaN scale that is read raises NBS too (R122, R161). -/
def quantInt (t : IntFmt) (rm : Rm) (x s : FVal) : Flagged Nat :=
  match s with
  | .nan _ => ⟨0, fINV ||| fNBS⟩
  | .inf _ => ⟨0, fINV⟩
  | .fin sn sm se =>
    if sn ∨ sm = 0 then ⟨0, fINV⟩
    else
      match x with
      | .nan _ => ⟨0, fINV⟩
      | .inf n => t.sat (if n then t.lo - 1 else t.hi + 1)
      | .fin n m e =>
        let (qm, qe, st) := divMag m e sm se
        let (k, x) := roundInt rm n qm qe st
        (t.sat (signedMant n k)).raise (flagIf x fINX)

/-- quant to E4M3 or E5M2 (R127). -/
def quantFloat (f : FloatFmt) (rm : Rm) (x s : FVal) : Flagged Nat :=
  match s with
  | .nan _ => ⟨f.nan, fINV ||| fNBS⟩
  | .inf _ => ⟨f.nan, fINV⟩
  | .fin sn sm se =>
    if sn ∨ sm = 0 then ⟨f.nan, fINV⟩
    else
      match x with
      | .fin n m e =>
        let (qm, qe, st) := divMag m e sm se
        f.round rm false n qm qe st
      | v => f.encode rm false v

/-- dequant of an element value (R127): NBS and the canonical NaN for a NaN scale, else the product rounded by RNE. Its rounding
raises the flags of R124 and R125, in VDQT too, whose list names NBS and MRK only (R161; log entry 99). -/
def dequantVal (g : FloatFmt) (ftz : Bool) (q s : FVal) : Flagged Nat :=
  if s.isNan then ⟨g.nan, fNBS⟩ else (fMul q s).bind fun p => g.encode .rne ftz p

/-- The value of an integer. -/
def intVal (n : Int) : FVal := .fin (decide (n < 0)) n.natAbs 0

end Sys2Proof.Machine
end

