-- ==== Sys2Proof/Machine/Function.lean ====
section
/-! DEFINITION. The correctly rounded functions (spec/08 R131, Table 8.9) and expand_cs (R123): fixed-point enclosures,
refined until both ends round alike. -/
namespace Sys2Proof.Machine

/-! ## Fixed point: a natural number `n` stands for n·2^(−p) -/

/-- The product of two fixed-point numbers, rounded down. -/
def fxMul (p a b : Nat) : Nat := a * b / 2 ^ p

/-- Σ tᵢ with t₀ given and tᵢ₊₁ = step i tᵢ, `k` terms. -/
def series (step : Nat → Nat → Nat) : Nat → Nat → Nat → Nat
  | 0, _, _ => 0
  | k + 1, i, t => if t = 0 then 0 else t + series step k (i + 1) (step i t)

/-- Σ (−1)ⁱ tᵢ, as positive and negative sums. -/
def altSeries (step : Nat → Nat → Nat) : Nat → Nat → Nat → Nat × Nat
  | 0, _, _ => (0, 0)
  | k + 1, i, t => if t = 0 then (0, 0) else let r := altSeries step k (i + 1) (step i t); (t + r.2, r.1)

/-- e^r for 0 ≤ r < 1. -/
def fxExp (p r : Nat) : Nat := series (fun i t => fxMul p t r / (i + 1)) (p + 8) 0 (2 ^ p)

/-- The inverse hyperbolic tangent of 1/k. -/
def fxAtanhInv (p k : Nat) : Nat := series (fun i t => t * (2 * i + 1) / (k * k * (2 * i + 3))) (p + 8) 0 (2 ^ p / k)

/-- ln 2 = 2·atanh(1/3). -/
def fxLn2 (p : Nat) : Nat := 2 * fxAtanhInv p 3

/-- atan(1/k). -/
def fxAtanInv (p k : Nat) : Nat :=
  let r := altSeries (fun i t => t * (2 * i + 1) / (k * k * (2 * i + 3))) (p + 8) 0 (2 ^ p / k)
  r.1 - r.2

/-- π = 16·atan(1/5) − 4·atan(1/239). -/
def fxPi (p : Nat) : Nat := 16 * fxAtanInv p 5 - 4 * fxAtanInv p 239

/-- ln m for 1 ≤ m < 2 (as n/d): 2·atanh((n − d)/(n + d)). -/
def fxLn (p n d : Nat) : Nat :=
  let z := (n - d) * 2 ^ p / (n + d)
  let zz := fxMul p z z
  2 * series (fun i t => fxMul p t zz * (2 * i + 1) / (2 * i + 3)) (p + 8) 0 z

/-- sin r and cos r for 0 ≤ r < 2. -/
def fxSin (p r : Nat) : Nat :=
  let rr := fxMul p r r
  let s := altSeries (fun i t => fxMul p t rr / ((2 * i + 2) * (2 * i + 3))) (p + 8) 0 r
  s.1 - s.2

/-- cos r for 0 ≤ r < 2. -/
def fxCos (p r : Nat) : Int :=
  let rr := fxMul p r r
  let s := altSeries (fun i t => fxMul p t rr / ((2 * i + 1) * (2 * i + 2))) (p + 8) 0 (2 ^ p)
  (s.1 : Int) - s.2

/-- atan(y/x) for 0 ≤ y ≤ x, 0 < x (Euler's series). -/
def fxAtan (p y x : Nat) : Nat :=
  let d := x * x + y * y
  let r := y * y * 2 ^ p / d
  series (fun i t => fxMul p t r * (2 * i + 2) / (2 * i + 3)) (2 * p + 16) 0 (x * y * 2 ^ p / d)

/-- erf z for 0 ≤ z < 8: (2/√π)·e^(−z²)·Σ 2ⁱ z^(2i+1)/(1·3·…·(2i+1)). -/
def fxErf (p z : Nat) : Nat :=
  let zz := fxMul p z z
  let sum := series (fun i t => fxMul p t (2 * zz) / (2 * i + 3)) (4 * p + 400) 0 z
  let n := zz / 2 ^ p
  let frac := fxExp p (zz % 2 ^ p)
  let e1 := fxExp p (2 ^ p - 1)
  let expz := (List.range n).foldl (fun a _ => fxMul p a e1) frac
  let c := 2 * 2 ^ (2 * p) / isqrt (fxPi p * 2 ^ p)
  fxMul p c (sum * 2 ^ p / expz)

/-! ## Enclosures -/

/-- The magnitude `m`·2^e, with `sticky` for a little more. -/
structure Mag where
  m : Nat
  e : Int
  sticky : Bool
  deriving DecidableEq, Repr

/-- An enclosure of a positive real: centre and half-width in units of 2^e. -/
structure Encl where
  c : Nat
  w : Nat
  e : Int
  deriving DecidableEq, Repr

/-- Rounds what `encl` encloses, with the first of the given precisions at which both ends round alike; the enclosed real
is not a number of the format. -/
def roundEncl (f : FloatFmt) (rm : Rm) (ftz neg : Bool) (encl : Nat → Encl) : List Nat → Flagged Nat
  | [] => let x := encl 4096; f.round rm ftz neg x.c x.e true
  | p :: ps =>
    let x := encl p
    let lo := f.round rm ftz neg (x.c - x.w) x.e true
    if x.c > x.w * 2 ^ 30 ∧ lo = f.round rm ftz neg (x.c + x.w) x.e true then lo else roundEncl f rm ftz neg encl ps

/-- The precisions tried. -/
def precisions : List Nat := [128, 256, 512, 1024, 2048]

/-- Half-width of an enclosure: more than every truncation of a series makes. -/
def slack : Nat := 2 ^ 24

/-- A finite magnitude m·2^e in fixed point, rounded down. -/
def toFx (p m : Nat) (e : Int) : Nat := if 0 ≤ e + p then m * 2 ^ (e + p).toNat else m / 2 ^ (-(e + p)).toNat

/-- e^(±m·2^e) for a magnitude below 2^12; larger ones are given as 2^(±5000). -/
def enclExp (neg : Bool) (m : Nat) (e : Int) (p : Nat) : Encl :=
  if 11 < e + m.log2 then ⟨2 ^ 60, 1, if neg then -5060 else 4940⟩
  else
    let q := p + 16
    let a := toFx q m e
    let l := fxLn2 q
    let n := a / l
    let r := a % l
    if neg then ⟨fxExp q (l - r) / 2 ^ 16, slack, -(n : Int) - 1 - p⟩ else ⟨fxExp q r / 2 ^ 16, slack, (n : Int) - p⟩

/-- ln of m·2^e as a signed enclosure: n·ln 2 + ln(m/2^k). -/
def enclLn (m : Nat) (e : Int) (p : Nat) : Bool × Encl :=
  let k := m.log2
  let n : Int := e + k
  let v : Int := n * fxLn2 p + fxLn p m (2 ^ k)
  (decide (v < 0), ⟨v.natAbs, slack, -(p : Int)⟩)

/-- log₂ of m·2^e, not a power of two. -/
def enclLog2 (m : Nat) (e : Int) (p : Nat) : Bool × Encl :=
  let k := m.log2
  let n : Int := e + k
  let v : Int := n * 2 ^ p + (fxLn p m (2 ^ k) * 2 ^ p / fxLn2 p : Nat)
  (decide (v < 0), ⟨v.natAbs, slack, -(p : Int)⟩)

/-- Quadrant and remainder of m·2^e modulo π/2, in fixed point. -/
def quadrant (p m : Nat) (e : Int) : Nat × Nat :=
  let g := p + 160
  let a := toFx g m e
  let h := fxPi g / 2
  (a / h % 4, a % h / 2 ^ 160)

/-- sin or cos of a magnitude: sign and enclosure. -/
def enclTrig (cos : Bool) (m : Nat) (e : Int) (p : Nat) : Bool × Encl :=
  let (q, r) := quadrant p m e
  let q := if cos then (q + 1) % 4 else q
  let v : Nat := if q % 2 = 0 then fxSin p r else (fxCos p r).toNat
  (2 ≤ q, ⟨v, slack, -(p : Int)⟩)

/-- tanh of a positive magnitude. -/
def enclTanh (m : Nat) (e : Int) (p : Nat) : Encl :=
  if 6 < e + m.log2 then ⟨2 ^ 200 - 1, 0, -200⟩
  else
    let q := p + 300
    let a := toFx q (2 * m) e
    let l := fxLn2 q
    let x := fxExp q (a % l) * 2 ^ (a / l)
    ⟨(x - 2 ^ q) * 2 ^ p / (x + 2 ^ q), slack, -(p : Int)⟩

/-- erf of a positive magnitude. -/
def enclErf (m : Nat) (e : Int) (p : Nat) : Encl :=
  if 2 < e + m.log2 then ⟨2 ^ 60 - 1, 0, -60⟩ else ⟨fxErf (p + 64) (toFx (p + 64) m e) / 2 ^ 64, slack, -(p : Int)⟩

/-- atan2 of positive magnitudes, in (0, π/2), or π minus it. -/
def enclAtan2 (neg : Bool) (my : Nat) (ey : Int) (mx : Nat) (ex : Int) (p : Nat) : Encl :=
  let e := min ey ex
  let y := my * 2 ^ (ey - e).toNat
  let x := mx * 2 ^ (ex - e).toNat
  let a := if y ≤ x then fxAtan p y x else fxPi p / 2 - fxAtan p x y
  ⟨if neg then fxPi p - a else a, slack, -(p : Int)⟩

/-! ## The functions -/

/-- A NaN result. -/
def nanRes (f : FloatFmt) (fl : Flags) : Flagged Nat := ⟨f.nan, fl⟩

/-- An infinity. -/
def infRes (f : FloatFmt) (n : Bool) (fl : Flags) : Flagged Nat := ⟨f.signed n f.infBits, fl⟩

/-- A zero. -/
def zeroRes (f : FloatFmt) (n : Bool) : Flagged Nat := ⟨f.signed n 0, 0⟩

/-- VDIV. -/
def fDiv (f : FloatFmt) (rm : Rm) (ftz : Bool) (a b : FVal) : Flagged Nat :=
  match a, b with
  | .nan g, b => nanRes f (flagIf (g || b.isSig) fINV)
  | _, .nan g => nanRes f (flagIf g fINV)
  | .inf _, .inf _ => nanRes f fINV
  | .inf n, .fin k _ _ => infRes f (n != k) 0
  | .fin n _ _, .inf k => zeroRes f (n != k)
  | .fin n m e, .fin k l d =>
    if l = 0 then (if m = 0 then nanRes f fINV else infRes f (n != k) fDZ)
    else let (q, x, st) := divMag m e l d; f.round rm ftz (n != k) q x st

/-- VSQRT. -/
def fSqrt (f : FloatFmt) (rm : Rm) (ftz : Bool) (a : FVal) : Flagged Nat :=
  match a with
  | .nan g => nanRes f (flagIf g fINV)
  | .inf n => if n then nanRes f fINV else infRes f false 0
  | .fin n m e =>
    if m = 0 then zeroRes f n else if n then nanRes f fINV
    else let (q, x, st) := sqrtMag m e; f.round rm ftz false q x st

/-- VRCP. -/
def fRcp (f : FloatFmt) (rm : Rm) (ftz : Bool) (a : FVal) : Flagged Nat := fDiv f rm ftz (.fin false 1 0) a

/-- VRSQ: the root of the reciprocal. -/
def fRsq (f : FloatFmt) (rm : Rm) (ftz : Bool) (a : FVal) : Flagged Nat :=
  match a with
  | .nan g => nanRes f (flagIf g fINV)
  | .inf n => if n then nanRes f fINV else zeroRes f false
  | .fin n m e =>
    if m = 0 then infRes f n fDZ else if n then nanRes f fINV
    else
      let k : Nat := 2 * (m.log2 + 70)
      let odd := e % 2 != 0
      let m' := if odd then 2 * m else m
      let e' := if odd then e - 1 else e
      let r := isqrt (2 ^ k / m')
      f.round rm ftz false r (-(e' / 2) - (k / 2 : Nat)) (r * r * m' != 2 ^ k)

/-- VEXP2. -/
def fExp2 (f : FloatFmt) (rm : Rm) (ftz : Bool) (a : FVal) : Flagged Nat :=
  match a with
  | .nan g => nanRes f (flagIf g fINV)
  | .inf n => if n then zeroRes f false else infRes f false 0
  | .fin n m e =>
    if m = 0 then f.round rm ftz false 1 0 false
    else if 11 < e + m.log2 then f.round rm ftz false 1 (if n then -5000 else 5000) true
    else
      let whole := if 0 ≤ e then m * 2 ^ e.toNat else m / 2 ^ (-e).toNat
      let rest := if 0 ≤ e then 0 else m % 2 ^ (-e).toNat
      if rest = 0 then f.round rm ftz false 1 (signedMant n whole) false
      else
        roundEncl f rm ftz false (fun p =>
          let q := p + 16
          let r := if 0 ≤ e + q then rest * 2 ^ (e + q).toNat else rest / 2 ^ (-(e + q)).toNat
          let r := if n then 2 ^ q - r else r
          let x : Int := if n then -(whole : Int) - 1 else whole
          ⟨fxExp q (fxMul q r (fxLn2 q)) / 2 ^ 16, slack, x - p⟩) precisions

/-- VEXP. -/
def fExp (f : FloatFmt) (rm : Rm) (ftz : Bool) (a : FVal) : Flagged Nat :=
  match a with
  | .nan g => nanRes f (flagIf g fINV)
  | .inf n => if n then zeroRes f false else infRes f false 0
  | .fin n m e => if m = 0 then f.round rm ftz false 1 0 false else roundEncl f rm ftz false (enclExp n m e) precisions

/-- The shape of VLN and VLOG2. -/
def fLog (f : FloatFmt) (rm : Rm) (ftz : Bool) (exact : Nat → Int → Option Int) (encl : Nat → Int → Nat → Bool × Encl)
    (a : FVal) : Flagged Nat :=
  match a with
  | .nan g => nanRes f (flagIf g fINV)
  | .inf n => if n then nanRes f fINV else infRes f false 0
  | .fin n m e =>
    if m = 0 then infRes f true fDZ else if n then nanRes f fINV
    else
      match exact m e with
      | some k => f.round rm ftz (decide (k < 0)) k.natAbs 0 false
      | none => roundEncl f rm ftz (encl m e 128).1 (fun p => (encl m e p).2) precisions

/-- VLN: exact at 1. -/
def fLn (f : FloatFmt) (rm : Rm) (ftz : Bool) (a : FVal) : Flagged Nat :=
  fLog f rm ftz (fun m e => if m = 2 ^ m.log2 ∧ e + m.log2 = 0 then some 0 else none) enclLn a

/-- VLOG2: exact at powers of two. -/
def fLog2 (f : FloatFmt) (rm : Rm) (ftz : Bool) (a : FVal) : Flagged Nat :=
  fLog f rm ftz (fun m e => if m = 2 ^ m.log2 then some (e + m.log2) else none) enclLog2 a

/-- The shape of VTANH and VERF: odd, ±0 to ±0, ±Inf to ±1. -/
def fOdd (f : FloatFmt) (rm : Rm) (ftz : Bool) (encl : Nat → Int → Nat → Encl) (a : FVal) : Flagged Nat :=
  match a with
  | .nan g => nanRes f (flagIf g fINV)
  | .inf n => f.round rm ftz n 1 0 false
  | .fin n m e => if m = 0 then zeroRes f n else roundEncl f rm ftz n (encl m e) precisions

/-- VTANH. -/
def fTanh (f : FloatFmt) (rm : Rm) (ftz : Bool) (a : FVal) : Flagged Nat := fOdd f rm ftz enclTanh a

/-- VERF. -/
def fErf (f : FloatFmt) (rm : Rm) (ftz : Bool) (a : FVal) : Flagged Nat := fOdd f rm ftz enclErf a

/-- VSIN and VCOS. -/
def fTrig (cos : Bool) (f : FloatFmt) (rm : Rm) (ftz : Bool) (a : FVal) : Flagged Nat :=
  match a with
  | .nan g => nanRes f (flagIf g fINV)
  | .inf _ => nanRes f fINV
  | .fin n m e =>
    if m = 0 then (if cos then f.round rm ftz false 1 0 false else zeroRes f n)
    else
      roundEncl f rm ftz ((enclTrig cos m e 512).1 != (n && !cos)) (fun p => (enclTrig cos m e p).2) precisions

/-- A multiple k/4 of π, with its sign. -/
def piRes (f : FloatFmt) (rm : Rm) (ftz neg : Bool) (k : Nat) : Flagged Nat :=
  roundEncl f rm ftz neg (fun p => ⟨k * fxPi p, slack, -(p : Int) - 2⟩) precisions

/-- VATN2(y, x), with the special cases of IEEE 754-2019, clause 9.2. -/
def fAtan2 (f : FloatFmt) (rm : Rm) (ftz : Bool) (y x : FVal) : Flagged Nat :=
  match y, x with
  | .nan g, x => nanRes f (flagIf (g || x.isSig) fINV)
  | _, .nan g => nanRes f (flagIf g fINV)
  | .inf n, .inf k => piRes f rm ftz n (if k then 3 else 1)
  | .inf n, .fin .. => piRes f rm ftz n 2
  | .fin n _ _, .inf k => if k then piRes f rm ftz n 4 else zeroRes f n
  | .fin n my ey, .fin k mx ex =>
    if my = 0 then (if k then piRes f rm ftz n 4 else zeroRes f n)
    else if mx = 0 then piRes f rm ftz n 2
    else roundEncl f rm ftz n (enclAtan2 k my ey mx ex) precisions

/-- VHYP: √(x² + y²). -/
def fHyp (f : FloatFmt) (rm : Rm) (ftz : Bool) (x y : FVal) : Flagged Nat :=
  match x, y with
  | .inf _, y => infRes f false (flagIf y.isSig fINV)
  | x, .inf _ => infRes f false (flagIf x.isSig fINV)
  | .fin _ m1 e1, .fin _ m2 e2 =>
    let e := min e1 e2
    let a := m1 * 2 ^ (e1 - e).toNat
    let b := m2 * 2 ^ (e2 - e).toNat
    let n := a * a + b * b
    if n = 0 then zeroRes f false else let (q, q2, st) := sqrtMag n (2 * e); f.round rm ftz false q q2 st
  | x, y => nanRes f (flagIf (x.isSig || y.isSig) fINV)

/-! ## Turn codes (R123) -/

/-- RN(2.22, ·) of an exact or enclosed magnitude: nearest multiple of 2⁻²², ties to even, clamped. -/
def toFix22 (neg : Bool) (m : Nat) (e : Int) (sticky : Bool) : BitVec 24 :=
  let (n, r) := splitAt m (e + 22) sticky 0
  let n := roundStep .rne neg n r
  BitVec.ofInt 24 (max (-(2 ^ 23 : Int)) (min (signedMant neg n) (2 ^ 23 - 1)))

/-- cos and sin of 2πk/65536 in 2.22 format, the quadrant codes exact (R123). -/
def expandCs (k : BitVec 16) : BitVec 24 × BitVec 24 :=
  let one : BitVec 24 := 0x400000
  if k = 0 then (one, 0) else if k = 0x4000 then (0, one) else if k = 0x8000 then (-one, 0) else if k = 0xC000 then (0, -one)
  else
    let p := 128
    let q := k.toNat / 0x4000
    let r := fxPi p * (k.toNat % 0x4000) / 0x8000
    let sn := fxSin p r
    let cs := (fxCos p r).toNat
    let c := match q with | 0 => (false, cs) | 1 => (true, sn) | 2 => (true, cs) | _ => (false, sn)
    let s := match q with | 0 => (false, sn) | 1 => (false, cs) | 2 => (true, sn) | _ => (true, cs)
    (toFix22 c.1 c.2 (-(p : Int)) true, toFix22 s.1 s.2 (-(p : Int)) true)

end Sys2Proof.Machine
end

