-- ==== Sys2Proof/Machine/Watermark.lean ====
section
/-! DEFINITION. The stall comparison: which scratchpad bytes pass the copies and windows of a core, which are held, and which
meet a frozen copy (spec/16 R233, R236, R238, R239, R242, R243). -/
namespace Sys2Proof.Machine

/-- What the stall comparison says of a byte: it passes, it is held, or a frozen copy or window holds it (its watermark). -/
inductive Pass where
  | passes | held
  | frozen (wm : Nat)
  deriving DecidableEq, Repr

/-- The C opcode of a copy. -/
def Copy.code (c : Copy) : Nat := match c.op with | .c op _ => op | _ => 0

/-- The copy's box is a destination in the core's scratchpad: its watermark is active (R236). -/
def Copy.tracks (c : Copy) : Bool := c.e0 != 0 && [0x00, 0x03, 0x06, 0x07, 0x09, 0x17, 0x1A, 0x1F].contains c.code

/-- One past the last byte of a copy's box (R233). -/
def Copy.hi (c : Copy) : Nat :=
  if c.e0 = 0 then c.dbase
  else c.dbase + c.e0 + (if 1 < c.n1 then (c.n1 - 1) * c.s1 else 0) + (if 1 < c.n2 then (c.n2 - 1) * c.s2 else 0)

/-- Byte `a` of the range is a destination byte of the box (R233). -/
def Copy.isDest (c : Copy) (a : Nat) : Bool :=
  let off := a - c.dbase
  let off := if 1 < c.n2 then (if off / c.s2 < c.n2 then off % c.s2 else off - (c.n2 - 1) * c.s2) else off
  let col := if 1 < c.n1 then (if off / c.s1 < c.n1 then off % c.s1 else off - (c.n1 - 1) * c.s1) else off
  c.dbase ≤ a && a < c.hi && col < c.e0

/-- A copy passes byte `a`, its landing address being `addr` (R238). -/
def Copy.passes (c : Copy) (addr a : Nat) : Bool := !c.tracks || a < c.dbase || c.hi ≤ a || (c.isDest a && a < addr)

/-- What a channel says of byte `a` (R238): a frozen copy traps at or above its landing address only (R239). -/
def Channel.check (c : Channel) (n a : Nat) : Pass :=
  let cur : Pass :=
    match c.cur with
    | none => .passes
    | some k =>
      if !c.wm.act || k.passes c.wm.addr.toNat a then .passes
      else if c.wm.frz && c.wm.addr.toNat ≤ a then .frozen n else .held
  match cur with
  | .passes => if c.queue.all fun k => k.passes k.dbase a then .passes else .held
  | p => p

/-- FLOW of a window (Table 16.4). -/
def Window.flow (w : Window) : Nat := (w.w0.extractLsb' 48 3).toNat
/-- The channel of a FLOW 1 window. -/
def Window.chan (w : Window) : Nat := (w.w0.extractLsb' 51 3).toNat
/-- N, the number of slots. -/
def Window.slots (w : Window) : Nat := (w.w0.extractLsb' 40 8).toNat + 1
/-- Bytes of a slot. -/
def Window.rowb (w : Window) : Nat := (w.w0.extractLsb' 24 16).toNat
/-- Scratchpad address of slot 0. -/
def Window.rbase (w : Window) : Nat := (w.w0.extractLsb' 0 22).toNat
/-- W, the rows landed. -/
def Window.landed (w : Window) : Nat := w.wm.addr.toNat

/-- The logical row that the slot of byte `a` holds (R243). -/
def Window.rowOf (w : Window) (a : Nat) : Nat :=
  let s := (a - w.rbase) / w.rowb
  w.b.toNat + (s + w.slots - w.b.toNat % w.slots) % w.slots

/-- What a window says of byte `a` (R239, R243). -/
def Window.check (w : Window) (n a : Nat) : Pass :=
  if !w.wm.act || w.rowb == 0 || a < w.rbase || w.rbase + w.slots * w.rowb ≤ a then .passes
  else if w.rowOf a < w.landed then .passes
  else if w.wm.frz then .frozen (8 + n) else .held

/-- Two answers joined: a frozen one first, then a held one. -/
def Pass.join : Pass → Pass → Pass
  | .frozen n, _ => .frozen n
  | _, .frozen n => .frozen n
  | .held, _ => .held
  | .passes, q => q

/-- The channels as the checks of this cycle see them: as they stood before it while slots issue (R26, R238, R279). -/
def Core.chansSeen (c : Core) : Vector Channel 8 := (c.seen.map (·.1)).getD c.chans

/-- The windows as the checks of this cycle see them. -/
def Core.winsSeen (c : Core) : Vector Window 8 := (c.seen.map (·.2)).getD c.wins

/-- Byte `a` against every tracked copy and every window of a core. -/
def Core.byteCheck (c : Core) (a : Nat) : Pass :=
  ((List.range 8).map fun n =>
    (Pass.join ((vget c.chansSeen n Channel.reset).check n a) ((vget c.winsSeen n Window.reset).check n a))).foldl Pass.join .passes

/-- No copy and no window of the core tracks a range. -/
def Core.noRanges (c : Core) : Bool :=
  c.chansSeen.toList.all (fun ch => ch.cur.isNone && ch.queue.isEmpty) && c.winsSeen.toList.all fun w => !w.wm.act

/-- The first byte of an access that a frozen copy or window holds, with the watermark's number (R239). -/
def Core.frozenByte (c : Core) (bytes : List Nat) : Option (Nat × Nat) :=
  if c.noRanges then none
  else bytes.findSome? fun a => match c.byteCheck a with | .frozen n => some (a, n) | _ => none

/-- The first access, as the list of its bytes, that a frozen copy or window holds: its first byte, with the watermark's number
(R239, Table 16.5). -/
def Core.frozenAccess (c : Core) (accesses : List (List Nat)) : Option (Nat × Nat) :=
  if c.noRanges then none else accesses.findSome? fun l => (c.frozenByte l).map fun p => (l.headD p.1, p.2)

/-- Every byte passes, or one meets a frozen range, so that the access does not wait (R238, R239). -/
def Core.mayIssue (c : Core) (bytes : List Nat) : Bool :=
  c.noRanges || (c.frozenByte bytes).isSome || bytes.all fun a => c.byteCheck a == .passes

/-- The channel whose copy feeds watermark `n`: the channel itself, the fetching channel of a FLOW 1 window, the channel that runs
the CSCAN of a FLOW 4 window; none for a remote or wire flow (R236, R241, R272). -/
def Core.feeder (c : Core) (n : Nat) : Option Channel :=
  if n < 8 then c.chansSeen[n]?
  else
    let w := vget c.winsSeen (n - 8) Window.reset
    if w.flow = 1 ∨ w.flow = 4 then c.chansSeen[w.chan]? else none

/-- Record of cause 0x50 for watermark `n` (Table 16.5): source address of the failing unit, and DETAIL1. -/
def Core.frozenRecord (c : Core) (n : Nat) : BitVec 64 × BitVec 64 :=
  match c.feeder n with
  | some ch =>
    ((ch.cur.map (·.failSrc)).getD 0,
      (0 : BitVec 24) ++ ch.fcause ++ BitVec.ofNat 4 n ++ BitVec.ofNat 32 ((ch.cur.map (·.lidx)).getD 0))
  | none => (0, (0 : BitVec 28) ++ BitVec.ofNat 4 n ++ (0 : BitVec 32))

/-- Cause 0x50 at issue for an access with first byte `a` that meets frozen watermark `n` (R239, Table 16.5). -/
def State.trapFrozenByte (s : State) (a n : Nat) : State :=
  s.trapAtIssue 0x50 (BitVec.ofNat 64 a) (s.core.frozenRecord n).1 (s.core.frozenRecord n).2

/-- The bytes of spans (address, length). -/
def spanBytes (l : List (Nat × Nat)) : List Nat := l.flatMap fun p => (List.range p.2).map (p.1 + ·)

end Sys2Proof.Machine
end

