-- ==== Sys2Proof/Machine/Stream.lean ====
section
/-! DEFINITION. Stream descriptors: checks, addressing, stepping, the uses of an instruction and their conversions
(spec/09 R136 to R142, R144). -/
namespace Sys2Proof.Machine

/-! ## The descriptor (Table 9.1) -/

/-- A stream descriptor, byte 0 in bits [7:0]. -/
abbrev Desc := BitVec 512

/-- The 8-byte word `k` of a descriptor. -/
def Desc.word (d : Desc) (k : Nat) : BitVec 64 := BitVec.extractLsb' (64 * k) 64 d

/-- END. -/
def Desc.ended (d : Desc) : Bool := BitVec.getLsbD d 63
/-- SFP: FP32 block scales. -/
def Desc.sfp (d : Desc) : Bool := BitVec.getLsbD d 32
/-- BGEO. -/
def Desc.bgeo (d : Desc) : Nat := (BitVec.extractLsb' 29 3 d).toNat
/-- NDIM. -/
def Desc.ndim (d : Desc) : Nat := (BitVec.extractLsb' 26 3 d).toNat
/-- EFMT. -/
def Desc.efmt (d : Desc) : Nat := (BitVec.extractLsb' 22 4 d).toNat
/-- BASE. -/
def Desc.base (d : Desc) : Nat := (BitVec.extractLsb' 0 22 d).toNat
/-- SBASE. -/
def Desc.sbase (d : Desc) : Nat := (BitVec.extractLsb' 88 22 d).toNat
/-- SSTR, signed. -/
def Desc.sstr (d : Desc) : Int := (BitVec.extractLsb' 64 24 d).toInt
/-- POSd. -/
def Desc.pos (d : Desc) (k : Nat) : Nat := (BitVec.extractLsb' (128 + 64 * k + 40) 16 d).toNat
/-- STRIDEd, signed. -/
def Desc.stride (d : Desc) (k : Nat) : Int := (BitVec.extractLsb' (128 + 64 * k + 16) 24 d).toInt
/-- COUNTd. -/
def Desc.count (d : Desc) (k : Nat) : Nat := (BitVec.extractLsb' (128 + 64 * k) 16 d).toNat

/-- Elements per block, 0 for none (BGEO). -/
def Desc.block (d : Desc) : Nat :=
  match d.bgeo with
  | 1 => 8 | 2 => 16 | 3 => 32 | 4 => 64 | _ => 0

/-- A reserved bit is set. -/
def Desc.reservedSet (d : Desc) : Bool :=
  BitVec.extractLsb' 33 30 d != 0 || BitVec.extractLsb' 110 18 d != 0 ||
    (List.range 6).any fun k => BitVec.extractLsb' (128 + 64 * k + 56) 8 d != 0

/-- The cause a use raises for the descriptor (R138): 0x32, 0x34, or none. -/
def Desc.cause (d : Desc) : Option (BitVec 8) :=
  if d.reservedSet || d.ndim == 0 || d.ndim == 7 || 11 ≤ d.efmt ||
      (List.range 6).any (fun k =>
        if k < d.ndim then d.count k == 0 || d.count k ≤ d.pos k
        else d.count k != 0 || d.stride k != 0 || d.pos k != 0) ||
      (d.efmt == 9 && (d.stride 0 != 0 || d.count 0 % 2 == 1)) then some 0x32
  else if 5 ≤ d.bgeo || (d.bgeo != 0 && !(d.efmt == 4 || d.efmt == 5 || d.efmt == 8 || d.efmt == 9)) ||
      (d.bgeo != 0 && d.count 0 % d.block != 0) then some 0x34
  else none

/-- Number of elements of the stream. -/
def Desc.total (d : Desc) : Nat := ((List.range d.ndim).map d.count).foldl (· * ·) 1

/-- The number of the current element, counted from the stream's start (R139). -/
def Desc.index (d : Desc) : Nat :=
  (List.range d.ndim).foldr (fun k acc => d.pos k + d.count k * acc) 0

/-- Elements still to be consumed. -/
def Desc.left (d : Desc) : Nat := if d.ended then 0 else d.total - d.index

/-- The positions of element `n` (R139), dimension 0 first. -/
def Desc.positions (d : Desc) (n : Nat) : List Nat :=
  ((List.range d.ndim).foldl (fun (acc : List Nat × Nat) k =>
    ((acc.2 % d.count k) :: acc.1, acc.2 / d.count k)) ([], n)).1.reverse

/-- The descriptor with its positions set to element `n`, or ended when `n` is past the last (R139). -/
def Desc.seek (d : Desc) (n : Nat) : Desc :=
  let fin := d.total ≤ n
  let ps := d.positions (if fin then 0 else n)
  let clear : BitVec 512 :=
    (List.range 6).foldl (fun w k => w &&& ~~~((0xFFFF : BitVec 512) <<< (128 + 64 * k + 40))) (d &&& ~~~((1 : BitVec 512) <<< 63))
  let w := (ps.zipIdx).foldl (fun (w : BitVec 512) p => w ||| (BitVec.ofNat 512 p.1 <<< (128 + 64 * p.2 + 40))) clear
  if fin then w ||| ((1 : BitVec 512) <<< 63) else w

/-- The descriptor stepped `n` times (R139, R173): it ends at its last element. -/
def Desc.stepped (d : Desc) (n : Nat) : Desc := if n = 0 || d.ended then d else d.seek (d.index + n)

/-- The descriptor with every POSd and END cleared (ZRST, R172). -/
def Desc.rewound (d : Desc) : Desc :=
  (List.range 6).foldl (fun (w : BitVec 512) k => w &&& ~~~((0xFFFF : BitVec 512) <<< (128 + 64 * k + 40)))
    (d &&& ~~~((1 : BitVec 512) <<< 63))

/-- Address and nibble of the element at the given positions (R139). -/
def Desc.elemAddr (d : Desc) (ps : List Nat) : Int × Bool :=
  let n4 := d.efmt == 9
  let a := (ps.zipIdx).foldl (fun (a : Int) p =>
    if n4 && p.2 == 0 then a + (p.1 / 2 : Nat) else a + p.1 * d.stride p.2) d.base
  (a, n4 && ps.headD 0 % 2 == 1)

/-- Address of the block scale of element `n` (R139). -/
def Desc.scaleAddr (d : Desc) (n : Nat) : Int := d.sbase + (n / d.block : Nat) * d.sstr

/-- Bytes an element of an EFMT takes in scratchpad (Table 9.2); N4 counts its byte. -/
def efmtBytes (e : Nat) : Nat :=
  match e with
  | 0 | 1 | 6 | 10 => 4
  | 2 | 3 | 7 => 2
  | _ => 1

/-! ## Uses (R140, R141) -/

/-- One use of a stream: the register, whether it writes, the format, address and nibble of each element, the address of
each element's block scale (none without scales), and the descriptor after the use. -/
structure Use where
  z : Nat
  write : Bool
  efmt : Nat
  elems : List (Int × Bool)
  scales : List Int
  sfp : Bool
  next : BitVec 512
  deriving DecidableEq, Repr

/-- An operand that names a stream: the register, whether it writes, the number of elements. -/
structure UseReq where
  z : Nat
  write : Bool
  n : Nat
  deriving DecidableEq, Repr

/-- Elements of a use: 128 of them for a RAW32 stream, else `n` (R140). -/
def useCount (d : Desc) (n : Nat) : Nat := if d.efmt = 10 then 128 else n

/-- The use of a descriptor. -/
def makeUse (d : Desc) (r : UseReq) : Use :=
  let k := d.index
  let n := useCount d r.n
  { z := r.z, write := r.write, efmt := d.efmt,
    elems := (List.range n).map fun j => d.elemAddr (d.positions (k + j)),
    scales := if d.block = 0 then [] else (List.range n).map fun j => d.scaleAddr (k + j),
    sfp := d.sfp, next := d.seek (k + n) }

/-- The uses of an instruction in order, each from where the one before left its stream (R141); none when one needs an
element past the last (0x33). -/
def chainUses (z : Nat → Desc) : List UseReq → Option (List Use)
  | [] => some []
  | r :: rs =>
    let d := z r.z
    if d.ended || d.total < d.index + useCount d r.n then none
    else
      let u := makeUse d r
      (chainUses (fun k => if k = r.z then u.next else z k) rs).map (u :: ·)

/-- The first bad address among accesses of `sz` bytes (R142): 0x30 outside the scratchpad, 0x31 misaligned. DESIGN CHOICE: where
several fail, the first in element order is reported (log entry 128). -/
def badAddr (top sz : Nat) (as : List Int) : Option (BitVec 8 × BitVec 64) :=
  as.findSome? fun a =>
    if a < 0 ∨ (top : Int) ≤ a then some (0x30, BitVec.ofInt 64 a)
    else if (sz = 2 ∨ sz = 4) ∧ a % sz ≠ 0 then some (0x31, BitVec.ofInt 64 a)
    else none

/-- The address check of a use (R142): elements, then block scales, which need no alignment. -/
def Use.badAddr (u : Use) (top : Nat) : Option (BitVec 8 × BitVec 64) :=
  match Machine.badAddr top (efmtBytes u.efmt) (u.elems.map (·.1)) with
  | some e => some e
  | none => Machine.badAddr top 1 u.scales

/-- The checks of an instruction's uses in the order of R150: descriptors, exhaustion, addresses. A failing check gives its
cause and ADDR. DESIGN CHOICE: within a step the first failing use in the order A, B, C, D is reported, its elements before its
scales (log entry 128). -/
def planUses (z : Nat → Desc) (top : Nat) (rs : List UseReq) : Except (BitVec 8 × BitVec 64) (List Use) :=
  match rs.findSome? fun r => (z r.z).cause with
  | some c => .error (c, 0)
  | none =>
    match chainUses z rs with
    | none => .error (0x33, 0)
    | some us =>
      match us.findSome? fun u => u.badAddr top with
      | some e => .error e
      | none => .ok us

/-- Spans of the element bytes of the enabled elements of a use. -/
def Use.elemSpans (u : Use) (on : Nat → Bool) : List (Nat × Nat) :=
  (u.elems.zipIdx.filter fun p => on p.2).map fun p => (p.1.1.toNat, efmtBytes u.efmt)

/-- Spans of the block scales of blocks with an enabled element (R142). -/
def Use.scaleSpans (u : Use) (on : Nat → Bool) : List (Nat × Nat) :=
  ((u.scales.zipIdx.filter fun p => on p.2).map fun p => (p.1.toNat, if u.sfp then 4 else 1)).dedup

/-- The spans a use reads: its elements unless it writes, and its block scales. -/
def Use.readSpans (u : Use) (on : Nat → Bool) : List (Nat × Nat) :=
  (if u.write then [] else u.elemSpans on) ++ u.scaleSpans on

/-- The spans a use writes. -/
def Use.writeSpans (u : Use) (on : Nat → Bool) : List (Nat × Nat) := if u.write then u.elemSpans on else []

/-! ## Conversions of a use (R140) -/

/-- The format of a stream element under FMT; none for RAW32 (R137). -/
def streamFmt (efmt : Nat) (fmt : BitVec 4) : Option EFmt :=
  match efmt with
  | 0 => some (.float fp32) | 1 => some (.float lf24) | 2 => some (.float bf16) | 3 => some (.float fp16)
  | 4 => some (.float e4m3) | 5 => some (.float e5m2) | 6 => some (.int (intFmt 32)) | 7 => some (.int (intFmt 16))
  | 8 => some (.int (nStream 8 fmt)) | 9 => some (.int (nStream 4 fmt))
  | _ => none

/-- EFMT is one of the two narrow-integer formats. -/
def efmtNarrow (efmt : Nat) : Bool := efmt == 8 || efmt == 9

/-- The bits of an element as they stand in scratchpad. -/
def readElem (m : Memory) (efmt : Nat) (p : Int × Bool) : Nat :=
  let a := p.1.toNat
  match efmt with
  | 9 => if p.2 then (m.read a).toNat / 16 else (m.read a).toNat % 16
  | 1 => m.num a 4 / 256
  | e => m.num a (efmtBytes e)

/-- The masked bytes that writing an element stores: a nibble of its byte for N4, all of its bytes otherwise (R118). -/
def elemStores (efmt : Nat) (p : Int × Bool) (v : Nat) : List (Nat × BitVec 8 × BitVec 8) :=
  let a := p.1.toNat
  match efmt with
  | 9 => [if p.2 then (a, 0xF0, BitVec.ofNat 8 (v % 16 * 16)) else (a, 0x0F, BitVec.ofNat 8 (v % 16))]
  | 1 => wholeBytes a (leBytes 4 (v * 256))
  | e => wholeBytes a (leBytes (efmtBytes e) v)

/-- Four bytes of an FP32 block scale; what lies past the scratchpad's end is open (log entry 101). -/
def scaleBits (m : Memory) (a : Nat) : Nat :=
  leNat ((List.range 4).map fun i => if 0x300000 ≤ a + i then Config.beyondSpad (a + i) else m.read (a + i))

/-- The bits of a block scale. -/
def scaleWord (m : Memory) (sfp : Bool) (a : Int) : BitVec 32 :=
  if sfp then BitVec.ofNat 32 (scaleBits m a.toNat) else (m.read a.toNat).setWidth 32

/-- A block scale as a value; FTZ flushes a subnormal FP32 one (R127). -/
def scaleVal (sfp ftz : Bool) (w : BitVec 32) : FVal :=
  if sfp then fp32.flushIn ftz (fp32.decode w.toNat) else e8Scale (w.setWidth 8)

/-- A block scale read from scratchpad. -/
def readScale (m : Memory) (sfp ftz : Bool) (a : Int) : FVal := scaleVal sfp ftz (scaleWord m sfp a)

/-- The bits of the block scale of each element of a use, none without scales. -/
def Use.scaleWords (u : Use) (m : Memory) : List (BitVec 32) := u.scales.map (scaleWord m u.sfp)

/-- Conversion between a stream's element format and another: a format that is its own copies the bits (R117), else
Table 8.6. FTZ does not touch it (R125). -/
def convertElem (src dst : EFmt) (rm : Rm) (bits : Nat) : Flagged Nat :=
  if src = dst then ⟨bits, 0⟩ else convert src dst rm false bits

/-- The exact value of an element. -/
def elemVal (src : EFmt) (bits : Nat) : Flagged FVal :=
  match src with
  | .float f => ⟨f.decode bits, 0⟩
  | .int t => (t.decode bits).bind fun n => ⟨intVal n, 0⟩

/-- An element of a block-scaled stream read into a format: dequant, the exact product rounded once by RNE (R127, R140). Into an
integer a NaN scale gives 0 (log entry 21). -/
def dequantElem (src dst : EFmt) (s : FVal) (bits : Nat) : Flagged Nat :=
  match dst with
  | .float g => if s.isNan then ⟨g.nan, fNBS⟩ else (elemVal src bits).bind fun q => dequantVal g false q s
  | .int t => if s.isNan then ⟨0, fNBS⟩ else (elemVal src bits).bind fun q => (fMul q s).bind fun p => toInt t .rne p

/-- An element written to a block-scaled stream: quant of its exact value (R127, R140). -/
def quantElem (src dst : EFmt) (rm : Rm) (s : FVal) (bits : Nat) : Flagged Nat :=
  (elemVal src bits).bind fun x =>
    match dst with
    | .float g => quantFloat g rm x s
    | .int t => quantInt t rm x s

/-- Element `j` of a read use converted to a format. -/
def Use.readElem (u : Use) (m : Memory) (fmt : BitVec 4) (ftz : Bool) (dst : EFmt) (rm : Rm) (j : Nat) : Flagged Nat :=
  let bits := Machine.readElem m u.efmt (u.elems.getD j (0, false))
  match streamFmt u.efmt fmt, u.scales[j]? with
  | none, _ => ⟨bits, 0⟩
  | some src, none => convertElem src dst rm bits
  | some src, some a => dequantElem src dst (readScale m u.sfp ftz a) bits

/-- The value a write use stores for an element with the given block scale, converted from a format. -/
def Use.convScaled (u : Use) (scale : Option FVal) (fmt : BitVec 4) (src : EFmt) (rm : Rm) (bits : Nat) : Flagged Nat :=
  match streamFmt u.efmt fmt, scale with
  | none, _ => ⟨bits, 0⟩
  | some dst, none => convertElem src dst rm bits
  | some dst, some x => quantElem src dst rm x bits

/-- The value a write use stores for element `j`, converted from a format. -/
def Use.convElem (u : Use) (m : Memory) (fmt : BitVec 4) (ftz : Bool) (src : EFmt) (rm : Rm) (j bits : Nat) : Flagged Nat :=
  u.convScaled (u.scales[j]?.map (readScale m u.sfp ftz)) fmt src rm bits

/-- The masked bytes that a write use stores, its enabled elements in element order (R144). -/
def Use.stores (u : Use) (on : Nat → Bool) (vals : List Nat) : List (Nat × BitVec 8 × BitVec 8) :=
  ((u.elems.zip vals).zipIdx).flatMap fun p => if on p.2 then elemStores u.efmt p.1.1 p.1.2 else []

/-- Steps the streams of the uses: each register takes the descriptor after its last use (R141). -/
def State.stepStreams (s : State) (us : List Use) : State :=
  s.modBank fun b => { b with z := us.foldl (fun z u => vset z u.z u.next) b.z }

end Sys2Proof.Machine
end

