-- ==== Sys2Proof/Machine/Operands.lean ====
section
/-! DEFINITION. The operand forms of V instructions (spec/10 R145 to R150): sources, masks, types, destinations, and the
shape that every V instruction shares. -/
namespace Sys2Proof.Machine

/-! ## Types and packed lanes (R118, R148) -/

/-- The element format of a TYPE (Table 3.3). -/
def tyFmt (ty : BitVec 3) : EFmt :=
  match ty.toNat with
  | 0 => .float fp32 | 1 => .float bf16 | 2 => .float fp16 | 3 => .int (intFmt 32) | 4 => .int (intFmt 16)
  | _ => .int (intFmt 8)

/-- The floating format of a TYPE. -/
def tyFloat (ty : BitVec 3) : FloatFmt :=
  match ty.toNat with
  | 1 => bf16 | 2 => fp16 | _ => fp32

/-- Elements per lane of a TYPE. -/
def perLane (ty : BitVec 3) : Nat := 32 / tyWidth ty

/-- The elements of a lane, element 0 first. -/
def splitLane (w : Nat) (x : BitVec 32) : List Nat := (List.range (32 / w)).map fun k => x.toNat / 2 ^ (w * k) % 2 ^ w

/-- The lane of a list of elements. -/
def joinLane (w : Nat) (l : List Nat) : BitVec 32 := BitVec.ofNat 32 (l.foldr (fun x acc => acc * 2 ^ w + x % 2 ^ w) 0)

/-- Flagged elements joined into a lane, with the flags of all of them. -/
def joinFlagged (w : Nat) (l : List (Flagged Nat)) : Flagged (BitVec 32) :=
  ⟨joinLane w (l.map (·.val)), joinFlags (l.map (·.fl))⟩

/-! ## FMT as a V entry sees it (R119) -/

/-- The value SFMT operations leave for the V entries of bundle issue `seq`: the last that applies from it on, else FMT. -/
def fmtAt (fmt : BitVec 4) (seq : Nat) (l : List (Nat × BitVec 4)) : BitVec 4 :=
  l.foldl (fun acc p => if p.1 ≤ seq then p.2 else acc) fmt

/-- The values that FMT may have where an entry reads `here`: with several writes of FMT in flight it is unsettled (R33, R119). -/
def State.fmtVals (s : State) (here : BitVec 4) : List (BitVec 4) :=
  let fl := s.bank.inflight.filter fun f => f.reg = ⟨.sr, 0x042⟩
  if fl.length ≤ 1 then [here] else here :: s.bank.fmt :: fl.map fun f => fmtStored (f.value.setWidth 4)

/-- FMT where an entry reads `here`: one of the values it may have. -/
def State.fmtRead (s : State) (here : BitVec 4) : BitVec 4 × State :=
  let vals := s.fmtVals here
  if vals.length ≤ 1 then (here, s)
  else
    let (k, s) := s.choose vals.length
    (vals.getD k here, s)

/-- The values that FMT may have for the V entry that issues. -/
def State.fmtValsV (s : State) : List (BitVec 4) := s.fmtVals (fmtAt s.bank.fmt s.ctx.entry.seq s.bank.fmtNext)

/-- FMT for the V entry that issues (R119). -/
def State.fmtV (s : State) : BitVec 4 × State := s.fmtRead (fmtAt s.bank.fmt s.ctx.entry.seq s.bank.fmtNext)

/-- FMT for the M entry that issues, as it stands (R119, R137). -/
def State.fmtM (s : State) : BitVec 4 × State := s.fmtRead s.bank.fmt

/-! ## Sources -/

/-- A source operand as an instruction reads it: its lanes, and the flags that reading them raised, lane by lane. -/
structure VSrc where
  lanes : List (BitVec 32)
  fl : List Flags
  deriving DecidableEq, Repr

/-- Lane `i` of a source. -/
def VSrc.lane (a : VSrc) (i : Nat) : BitVec 32 := a.lanes.getD i 0

/-- What an instruction computes from: its sources, lane mask, rounding mode, FTZ and FMT. -/
structure VIn where
  a : VSrc
  b : VSrc
  c : VSrc
  mask : BitVec 128
  rm : Rm
  ftz : Bool
  fmt : BitVec 4
  deriving DecidableEq, Repr

/-- A lane is enabled. -/
def VIn.on (v : VIn) (i : Nat) : Bool := v.mask.getLsbD i

/-- The operand code names a stream (R21). -/
def isStream (c : BitVec 7) : Bool := 64 ≤ c.toNat

/-- The lane of element `j` of a use that takes `n` elements for 128 lanes. -/
def laneOf (n j : Nat) : Nat := j / (n / 128)

/-- The enabled elements of a use under a mask; all of them where the instruction reads its source whole (R135, R166). -/
def useOn (whole : Bool) (mask : BitVec 128) (u : Use) (j : Nat) : Bool :=
  (whole && !u.write) || mask.getLsbD (laneOf u.elems.length j)

/-- The lanes that a read use gives under a TYPE. -/
def Use.lanes (u : Use) (m : Memory) (fmt : BitVec 4) (ftz : Bool) (ty : BitVec 3) (rm : Rm) (on : Nat → Bool) : VSrc :=
  let per := u.elems.length / 128
  let l := (List.range 128).map fun i =>
    joinFlagged (32 / per) ((List.range per).map fun k =>
      let j := per * i + k
      if on j then u.readElem m fmt ftz (tyFmt ty) rm j else ⟨0, 0⟩)
  ⟨l.map (·.val), l.map (·.fl)⟩

/-- The stream uses of a V instruction in the order A, B, C, D (R141). -/
def vUseReqs (f : VOp) (srcs : List (BitVec 7)) : List UseReq :=
  ((srcs.filter isStream).map fun c => ⟨c.toNat - 64, false, 128 * perLane f.ty⟩) ++
    (if f.ds then [⟨f.d.toNat, true, 128 * perLane f.ty⟩] else [])

/-- The stream registers of the active bank. -/
def State.zreg (s : State) (k : Nat) : Desc := vget s.bank.z k 0

/-- Reads the source operands in order; the uses of the streams among them stand in `us`. -/
def readSources (s : State) (f : VOp) (whole : Bool) (fmt : BitVec 4) (mask : BitVec 128) :
    List (BitVec 7) → List Use → List VSrc × State
  | [], _ => ([], s)
  | c :: cs, us =>
    if isStream c then
      match us with
      | [] => ([], s)
      | u :: us =>
        let v := u.lanes s.core.spad fmt s.ftz f.ty (rmOf f.rm) (useOn whole mask u)
        let (vs, s) := readSources s f whole fmt mask cs us
        (v :: vs, s)
    else
      let (r, s) := s.readVPhys (physReg s.ctx.entry.rotb (c.setWidth 6))
      let (vs, s) := readSources s f whole fmt mask cs us
      (⟨lanesOf r, List.replicate 128 0⟩ :: vs, s)

/-- The mask of a use's elements: all of them for the destination of an instruction that writes every lane (`full`; R165, R167). -/
def useMask (full : Bool) (mask : BitVec 128) (u : Use) : BitVec 128 := if full && u.write then BitVec.allOnes 128 else mask

/-- Spans a V instruction's uses read: source elements, and the block scales of sources and destination. -/
def vReadSpans (whole full : Bool) (mask : BitVec 128) (us : List Use) : List (Nat × Nat) :=
  us.flatMap fun u => u.readSpans (useOn whole (useMask full mask u) u)

/-- Spans a V instruction's uses write. -/
def vWriteSpans (full : Bool) (mask : BitVec 128) (us : List Use) : List (Nat × Nat) :=
  us.flatMap fun u => u.writeSpans (useOn false (useMask full mask u) u)

/-! ## The shared shape (R148 to R150) -/

/-- What a V instruction does once its sources are read: the flags it raises, lane by lane, and its effect. -/
structure VEffect where
  fl : List Flags
  go : State → State

/-- The address of ZSET and ZRST, exact (R5, R172). -/
def descAddr (f : VOp) (s : State) : Nat := (s.readX (f.a.setWidth 6)).toNat + 64 * f.imm.toNat

/-- Accesses of an instruction beside its stream uses: the addresses it checks, 4 bytes each, those it reads and those it
writes (R170, R171); `apart`: each is an access of its own. -/
structure VDirect where
  check : List Int
  reads : Bool
  writes : Bool
  apart : Bool

/-- No access beside the stream uses. -/
def VDirect.none : VDirect := ⟨[], false, false, false⟩

/-- The spans of direct accesses. -/
def VDirect.spans (d : VDirect) : List (Nat × Nat) := d.check.map fun a => (a.toNat, 4)

/-- The accesses that a V instruction makes, as lists of bytes: one for each stream use, and the direct ones. -/
def vAccesses (whole full : Bool) (mask : BitVec 128) (us : List Use) (d : VDirect) : List (List Nat) :=
  (us.map fun u => spanBytes (u.readSpans (useOn whole (useMask full mask u) u) ++
      u.writeSpans (useOn false (useMask full mask u) u))) ++
    (if d.apart then d.spans.map fun p => spanBytes [p] else [spanBytes d.spans])

/-- The first of the bytes read that has an uncorrectable error (R150). -/
def State.badByte (s : State) (spans : List (Nat × Nat)) : Option Nat :=
  if s.core.spadBad.isEmpty then none else (spanBytes spans).find? fun a => s.core.spadBad.contains a

/-- The shape of a V instruction (`full`: it writes every lane whatever its mask): checks in the order of R150, frozen watermarks (R239), source reads, flags and flag traps
(R130), stepping and the effect; an uncorrectable scratchpad error is a deferred trap that leaves the destination (R150). -/
def vIssueW (full : Bool) (f : VOp) (srcs : List (BitVec 7)) (whole : Bool) (direct : State → VDirect) (k : VIn → List Use → VEffect)
    (s : State) : State :=
  let mask := s.readM f.mask.toNat
  let dir := direct s
  match planUses s.zreg s.core.spadSize (vUseReqs f srcs) with
  | .error (c, a) => s.trapStream c a
  | .ok us =>
    match badAddr s.core.spadSize 4 dir.check with
    | some (c, a) => s.trapStream c a
    | none =>
      let rd := vReadSpans whole full mask us ++ (if dir.reads then dir.spans else [])
      match s.core.frozenAccess (vAccesses whole full mask us dir) with
      | some (a, n) => s.trapFrozenByte a n
      | none =>
        let (fmt, s) := s.fmtV
        let (vs, s) := readSources s f whole fmt mask srcs us
        match s.badByte rd with
        | some a =>
          (s.stepStreams us).trapSpad s.ctx.slot s.ctx.entry.pc s.ctx.entry.rep a
        | none =>
          let none_ : VSrc := ⟨[], []⟩
          let v : VIn := ⟨vs.getD 0 none_, vs.getD 1 none_, vs.getD 2 none_, mask, rmOf f.rm, s.ftz, fmt⟩
          let e := k v us
          s.withFlags e.fl fun s => e.go (s.stepStreams us)

/-- The shape of a V instruction that writes the lanes its mask enables. -/
def vIssue (f : VOp) (srcs : List (BitVec 7)) (whole : Bool) (direct : State → VDirect) (k : VIn → List Use → VEffect)
    (s : State) : State := vIssueW false f srcs whole direct k s

/-- The flags of the enabled lanes. -/
def maskFlags (mask : BitVec 128) (fl : List Flags) : List Flags := fl.zipIdx.map fun p => if mask.getLsbD p.2 then p.1 else 0

/-- Flag lists joined lane by lane. -/
def zipFlags (a b : List Flags) : List Flags := (List.range 128).map fun i => a.getD i 0 ||| b.getD i 0

/-- Flags of the sources. -/
def VIn.srcFlags (v : VIn) : List Flags := zipFlags v.a.fl (zipFlags v.b.fl v.c.fl)

/-- A v register of a name written with a bound, the given lanes only. -/
def State.landV (s : State) (name : BitVec 6) (v : BitVec 4096) (lanes : BitVec 128) (bound : Nat) : State :=
  s.land ⟨.v, physReg s.ctx.entry.rotb name⟩ v lanes bound

/-- The write of a destination of kind d: a v register, or the last use, which is the destination stream's (R140, R144). The
conversions of stream uses raise their flags in an instruction that raises none of its own, too (log entry 100). -/
def vWrite (f : VOp) (v : VIn) (us : List Use) (bound : Nat) (lanes : List (Flagged (BitVec 32))) (m : Memory) : VEffect :=
  let fl := maskFlags v.mask (zipFlags v.srcFlags (lanes.map (·.fl)))
  match f.ds, us.getLast? with
  | true, some u =>
    let per := u.elems.length / 128
    let conv := (List.range 128).map fun i =>
      (splitLane (32 / per) (lanes.getD i ⟨0, 0⟩).val).zipIdx.map fun p =>
        if v.on i then u.convElem m v.fmt v.ftz (tyFmt f.ty) v.rm (per * i + p.2) p.1 else ⟨0, 0⟩
    let vals := conv.flatten.map (·.val)
    ⟨zipFlags fl (conv.map fun l => joinFlags (l.map (·.fl))), fun s => s.writeSpad (u.stores (useOn false v.mask u) vals)⟩
  | _, _ => ⟨fl, fun s => s.landV f.d (ofLanes (lanes.map (·.val))) v.mask bound⟩

/-- The write of a destination of which every lane is written whatever the mask (R165, R167); flags come from the enabled lanes alone
(R129). -/
def vWriteAll (f : VOp) (v : VIn) (us : List Use) (bound : Nat) (lanes : List (Flagged (BitVec 32))) (m : Memory) : VEffect :=
  let e := vWrite f { v with mask := BitVec.allOnes 128 } us bound lanes m
  ⟨maskFlags v.mask e.fl, e.go⟩

/-- A V instruction whose destination is of kind d and whose result is computed lane by lane. -/
def vLanes (f : VOp) (srcs : List (BitVec 7)) (whole : Bool) (bound : Nat) (g : VIn → Nat → Flagged (BitVec 32))
    (s : State) : Out :=
  guarded f.g s fun s =>
    vIssue f srcs whole (fun _ => .none) (fun v us =>
      vWrite f v us bound ((List.range 128).map fun i => if v.on i then g v i else ⟨0, 0⟩) s.core.spad) s

/-- A V instruction computed element by element from one source. -/
def vEl1 (f : VOp) (bound : Nat) (g : VIn → Nat → Flagged Nat) (s : State) : Out :=
  vLanes f [f.a] false bound (fun v i => joinFlagged (tyWidth f.ty) ((splitLane (tyWidth f.ty) (v.a.lane i)).map (g v))) s

/-- A V instruction computed element by element from two sources. -/
def vEl2 (f : VOp) (bound : Nat) (g : VIn → Nat → Nat → Flagged Nat) (s : State) : Out :=
  vLanes f [f.a, f.b] false bound (fun v i =>
    joinFlagged (tyWidth f.ty)
      (List.zipWith (g v) (splitLane (tyWidth f.ty) (v.a.lane i)) (splitLane (tyWidth f.ty) (v.b.lane i)))) s

/-- A V instruction computed element by element from three sources. -/
def vEl3 (f : VOp) (bound : Nat) (g : VIn → Nat → Nat → Nat → Flagged Nat) (s : State) : Out :=
  vLanes f [f.a, f.b, f.c] false bound (fun v i =>
    joinFlagged (tyWidth f.ty)
      (List.zipWith (fun x g => g x) (splitLane (tyWidth f.ty) (v.c.lane i))
        (List.zipWith (fun a b c => g v a b c) (splitLane (tyWidth f.ty) (v.a.lane i))
          (splitLane (tyWidth f.ty) (v.b.lane i))))) s

/-- An element read as a number: decoded, and flushed under FTZ (R125). -/
def VIn.num (v : VIn) (t : FloatFmt) (x : Nat) : FVal := t.flushIn v.ftz (t.decode x)

/-- An exact result rounded to the element format under RM. -/
def VIn.rnd (v : VIn) (t : FloatFmt) (x : Flagged FVal) : Flagged Nat := x.bind fun y => t.encode v.rm v.ftz y

/-- A V instruction whose whole effect is a result for an x, p or m register, computed from its sources. -/
def vScalar (f : VOp) (srcs : List (BitVec 7)) (whole : Bool) (go : VIn → State → State) (s : State) : Out :=
  guarded f.g s fun s =>
    vIssue f srcs whole (fun _ => .none) (fun v _ => ⟨maskFlags v.mask v.srcFlags, go v⟩) s

end Sys2Proof.Machine
end

