-- ==== Sys2Proof/Machine/Mesh.lean ====
section
/-! DEFINITION. The rotation mesh: cells, the passage of a push through stages, columns and the norm monitor, landing, and
the plane unit (spec/12 R180 to R202, spec/13 R206 to R225). -/
namespace Sys2Proof.Machine

/-! ## Lanes and cells -/

/-- The lane format of a mesh (R187). -/
def Mesh.fmt (m : Mesh) : FloatFmt := if m.mode then fp32 else lf24

/-- C of a cell word, in units of 2⁻²² (Table 12.1). -/
def cellC (w : BitVec 64) : Int := (w.extractLsb' 40 24).toInt
/-- S of a cell word. -/
def cellS (w : BitVec 64) : Int := (w.extractLsb' 16 24).toInt
/-- DIX. -/
def cellDix (w : BitVec 64) : Nat := (w.extractLsb' 9 7).toNat

/-- A cell word with C and S. -/
def cellSetCs (w : BitVec 64) (c s : BitVec 24) : BitVec 64 := c ++ s ++ w.extractLsb' 0 16

/-- A cell word with one bit set or cleared. -/
def setBit (w : BitVec 64) (i : Nat) (v : Bool) : BitVec 64 := if v then w ||| (1#64 <<< i) else w &&& ~~~(1#64 <<< i)

/-- A 2.22 coefficient as an exact value. -/
def coefVal (n : Int) : FVal := .fin (decide (n < 0)) n.natAbs (-22)

/-- A sum of coefficient times operand with the term rules of R189: zero coefficients left out, a lone ±1 moves the bits,
every other sum rounded once by RNE. -/
def cellSum (f : FloatFmt) (terms : List (Int × Nat)) : Flagged Nat :=
  match terms.filter fun t => t.1 != 0 with
  | [] => ⟨0, 0⟩
  | [(n, x)] =>
    if n = 2 ^ 22 then ⟨x, 0⟩
    else if n = -(2 ^ 22) then ⟨x ^^^ 2 ^ f.signBit, 0⟩
    else f.encode .rne false (fMul (coefVal n) (f.decode x)).val
  | l =>
    let ps := l.map fun t => (fMul (coefVal t.1) (f.decode t.2)).val
    f.encode .rne false (ps.tail.foldl (fun acc p => (fAdd .rne acc p).val) (ps.headD (.fin false 0 0)))

/-- The rotation of R189, or transposed, of R193. -/
def rotPair (f : FloatFmt) (w : BitVec 64) (transposed : Bool) (x y : Nat) : Flagged Nat × Flagged Nat :=
  let c := cellC w
  let s := if transposed then -cellS w else cellS w
  (cellSum f [(c, x), (-s, y)], cellSum f [(s, x), (c, y)])

/-- |X| / √(X² + Y²) rounded to a multiple of 2⁻²², ties to even (R190). -/
def unitRatio (x y : Nat) : Nat :=
  let d := x * x + y * y
  let t := isqrt (x * x * 2 ^ 46 / d)
  if t % 2 = 0 then t / 2
  else if t * t * d = x * x * 2 ^ 46 ∧ t / 2 % 2 = 0 then t / 2
  else t / 2 + 1

/-- The derive of R190: new cell word (C, S, DRVD), the pair, its flags, and whether an operand was not finite. -/
def derivePair (f : FloatFmt) (w : BitVec 64) (x y : Nat) : BitVec 64 × Flagged Nat × Flagged Nat × Bool :=
  let one : BitVec 64 := setBit (cellSetCs w 0x400000 0) 5 true
  match f.decode x, f.decode y with
  | .fin nx mx ex, .fin ny my ey =>
    if mx = 0 ∧ my = 0 then (one, ⟨0, 0⟩, ⟨0, 0⟩, false)
    else
      let e := min ex ey
      let a := mx * 2 ^ (ex - e).toNat
      let b := my * 2 ^ (ey - e).toNat
      let c : Int := signedMant nx (unitRatio a b)
      let s : Int := signedMant (!ny) (unitRatio b a)
      let (m, q, st) := sqrtMag (a * a + b * b) (2 * e)
      (setBit (cellSetCs w (BitVec.ofInt 24 c) (BitVec.ofInt 24 s)) 5 true,
        f.round .rne false false m q st, ⟨0, 0⟩, false)
  | _, _ => (one, ⟨x, 0⟩, ⟨y, 0⟩, true)

/-- IEEE 754 totalOrder of a format's encodings, as an integer (R191). -/
def orderKey (f : FloatFmt) (x : Nat) : Int :=
  if x / 2 ^ f.signBit % 2 = 1 then -((x % 2 ^ f.signBit : Nat) : Int) - 1 else x

/-- What passing one cell gives: the word, the pair, whether something overflowed, whether a derive met a non-finite
operand. -/
structure CellPass where
  word : BitVec 64
  x : Nat
  y : Nat
  ovf : Bool
  dvi : Bool
  deriving DecidableEq, Repr

/-- A push of operation `op` passes a cell that is no identity (Table 13.10); GRD is `gradPass`. -/
def cellPass (f : FloatFmt) (op : Nat) (rev : Bool) (pnum : Nat) (w : BitVec 64) (x y : Nat) : CellPass :=
  let rot (t : Bool) : CellPass :=
    let r := rotPair f w t x y
    ⟨w, r.1.val, r.2.val, (r.1.fl ||| r.2.fl) &&& fOVF != 0, false⟩
  let swap (c : Bool) (w : BitVec 64) : CellPass := if c then ⟨w, y, x, false, false⟩ else ⟨w, x, y, false, false⟩
  match op with
  | 0 => rot rev
  | 1 =>
    if cellDix w = 127 ∨ cellDix w < pnum then rot false
    else if pnum < cellDix w then ⟨w, x, y, false, false⟩
    else
      let d := derivePair f w x y
      ⟨d.1, d.2.1.val, d.2.2.1.val, d.2.1.fl &&& fOVF != 0, d.2.2.2⟩
  | 2 =>
    let c := if w.getLsbD 7 then orderKey f x < orderKey f y else orderKey f y < orderKey f x
    swap c (setBit w 4 c)
  | 3 => swap (w.getLsbD 4) w
  | 4 => swap (w.getLsbD 6) w
  | _ => ⟨w, x, y, false, false⟩

/-- The accumulator of a cell after the second push of a pair (R193): one rounding of the exact sum; and its overflow. -/
def gradSum (f : FloatFmt) (acc : BitVec 32) (xo yo gx gy : Nat) : Flagged Nat :=
  let p := (fMul (f.decode xo) (f.decode gy)).val
  let q := ((fMul (f.decode yo) (f.decode gx)).val).negate
  fp32.encode .rne false (fAdd .rne (fAdd .rne (fp32.decode acc.toNat) p).val q).val

/-! ## A push at a stage -/

/-- The physical plane of a tag. -/
def Mesh.plane (m : Mesh) (tag : Bool) : Vector (BitVec 64) 4096 := if tag then m.planeB else m.planeA

/-- The mesh with a physical plane replaced. -/
def Mesh.setPlane (m : Mesh) (tag : Bool) (p : Vector (BitVec 64) 4096) : Mesh :=
  if tag then { m with planeB := p } else { m with planeA := p }

/-- S of a physical plane. -/
def Mesh.stages (m : Mesh) (tag : Bool) : Nat := (if tag then m.hdrB else m.hdrA).toNat + 1

/-- The mesh with a physical plane's header. -/
def Mesh.setHeader (m : Mesh) (tag : Bool) (h : BitVec 6) : Mesh :=
  if tag then { m with hdrB := h } else { m with hdrA := h }

/-- The lanes of cell `j` of stage `k` (R180). -/
def cellLanes (k j : Nat) : Nat × Nat := if k % 2 = 0 then (2 * j, 2 * j + 1) else (2 * j + 1, (2 * j + 2) % 128)

/-- A push runs against the stages' order: REV and GRD (R181). -/
def Push.reverse (p : Push) : Bool := p.rev || p.op == 6

/-- Where a stage leaves a push: plane, gradient plane, lanes, overflow, cells with a non-finite derive (number, x, y), a bad cell
met; `held` is what its cells hold for the second push of a GRD pair. -/
structure StageRun where
  plane : Vector (BitVec 64) 4096
  grad : Vector (BitVec 32) 4096
  lanes : Array Nat
  held : Array Nat
  ovf : Bool
  derives : List (Nat × Nat × Nat)
  badCell : Option Nat

/-- One cell of a stage. -/
def stageCell (f : FloatFmt) (p : Push) (bad : List Nat) (k : Nat) (r : StageRun) (j : Nat) : StageRun :=
  let n := 64 * k + j
  let w := vget r.plane n 0
  let r := if bad.contains n then { r with badCell := some n } else r
  if w.getLsbD 8 then { r with plane := if p.op = 2 then vset r.plane n (setBit w 4 false) else r.plane }
  else
    let (i, o) := cellLanes k j
    let x := r.lanes.getD i 0
    let y := r.lanes.getD o 0
    if p.op = 6 then
      let a := rotPair f w true x y
      let g : Flagged Nat := if p.half then gradSum f (vget r.grad n 0) (r.held.getD i 0) (r.held.getD o 0) x y
        else ⟨(vget r.grad n 0).toNat, 0⟩
      { r with
        grad := vset r.grad n (BitVec.ofNat 32 g.val), lanes := (r.lanes.set! i a.1.val).set! o a.2.val,
        ovf := r.ovf || (a.1.fl ||| a.2.fl ||| g.fl) &&& fOVF != 0 }
    else
      let c := cellPass f p.op p.rev p.pnum.toNat w x y
      { r with
        plane := vset r.plane n c.word, lanes := (r.lanes.set! i c.x).set! o c.y, ovf := r.ovf || c.ovf,
        derives := if c.dvi then (n, x, y) :: r.derives else r.derives }

/-- The lanes of a vector as numbers. -/
def laneNats (v : BitVec 4096) : Array Nat := ((lanesOf v).map (·.toNat)).toArray

/-- A vector of lanes given as numbers. -/
def ofLaneNats (a : Array Nat) : BitVec 4096 := ofLanes (a.toList.map (BitVec.ofNat 32))

/-- A value of the lane format as an FP32 image: LF24 widens exactly (R187, R201). -/
def Mesh.image (m : Mesh) (x : Nat) : Nat := if m.mode then x else x * 256

/-- An FP32 value in the lane format, with overflow (R187). -/
def Mesh.narrow (m : Mesh) (x : Nat) : Flagged Nat :=
  if m.mode then ⟨x, 0⟩ else convert (.float fp32) (.float lf24) .rne false x

/-- The exact sum of the squares of the lanes, rounded to FP32 (R196). -/
def normOf (f : FloatFmt) (v : BitVec 4096) : Nat :=
  (fp32.encode .rne false ((lanesOf v).foldl (fun acc l =>
    (fAdd .rne acc (fMul (f.decode l.toNat) (f.decode l.toNat)).val).val) (.fin false 0 0))).val

/-- A scaling column applied (R186): the lanes, a NaN scale met, an overflow. -/
def Column.scale (c : Column) (f : FloatFmt) (v : BitVec 4096) : BitVec 4096 × Bool × Bool :=
  let l := (lanesOf v).zipIdx.map fun p =>
    let e := c.e8.extractLsb' (8 * (p.2 / 32)) 8
    if e = 0xFF then (f.nan, true, false)
    else
      let r := f.encode .rne false
        (fMul (ps8Mul (c.ps8.extractLsb' (8 * p.2) 8) (f.decode p.1.toNat)).val (e8Scale e)).val
      (r.val, false, r.fl &&& fOVF != 0)
  (ofLanes (l.map fun x => BitVec.ofNat 32 x.1), l.any (·.2.1), l.any (·.2.2))

/-- The mesh with sticky bits set: bit 0 PAR, 1 NEX, 2 DVI, 3 OVF, 4 NBS (Table 12.5, bits [6:2]). -/
def Mesh.stick (m : Mesh) (b : BitVec 5) : Mesh := { m with sticky := m.sticky ||| b }

/-- A deferred trap of a push, of its own task's bank (R202). -/
def pushTrap (p : Push) (cause : BitVec 8) (addr d0 d1 : BitVec 64) (s : State) : State :=
  s.trapIn p.bankB cause .m p.pc p.rep addr d0 d1

/-- The state with the mesh changed. -/
def State.modMesh (s : State) (f : Mesh → Mesh) : State := s.modCore fun c => { c with mesh := f c.mesh }

/-- The norm monitor's verdict (R196): excursion and the new MGAIN. -/
def normCheck (ntol : BitVec 33) (nIn nOut : Nat) : Bool × Nat :=
  let tol := fp32.decode (ntol.setWidth 32).toNat
  match fp32.decode nIn, fp32.decode nOut with
  | .fin _ mi ei, .fin _ mo eo =>
    if tol.isNan || (tol.isInf && !tol.neg) then (false, fp32.nan)
    else
      let diff := (fAdd .rne (.fin false mo eo) (.fin true mi ei)).val
      let exc := if mi = 0 then mo != 0 else
        fLt (fMul tol (.fin false mi ei)).val (diff.withSign false)
      let gain := if mi = 0 then fp32.nan
        else if mo = 0 then 0
        else (let (m, e, st) := divMag mo eo mi ei; (fp32.round .rne false false m e st).val)
      (exc, gain)
  | _, _ => (false, fp32.nan)

/-- The mesh after the pushes of a GRD pair have passed a stage: it holds the first one's lanes for the second (R193). -/
def Mesh.hold (m : Mesh) (k : Nat) (p : Push) : Mesh :=
  if p.op = 6 then { m with held := if p.half then Sparse.drop m.held k else Sparse.put m.held k p.lanes } else m

/-- What the cells of stage `k` hold for a push: the lanes of the first push of its pair. DESIGN CHOICE: open where the pair was
restored between them (log entry 79). -/
def heldLanes (k : Nat) (p : Push) (s : State) : BitVec 4096 × State :=
  if p.half && (s.core.mesh.held.find? fun h => h.1 == k).isNone then s.openValue 4096 else (Sparse.at 0 s.core.mesh.held k, s)

/-- A push passes stage `k` of its plane (R180, R181, R194). -/
def passStage (k : Nat) (p : Push) (s : State) : Push × State :=
  let m := s.core.mesh
  let parity := m.parBad.contains k
  let s := if parity then s.modMesh fun m => ({ m with parBad := m.parBad.filter (· != k) }).stick 1 else s
  let (p, s) := if parity then ({ p with bad := true }, pushTrap p 0x48 (p.pnum.setWidth 64) (BitVec.ofNat 64 k) 0 s) else (p, s)
  if m.stages p.tag ≤ k then (p, s)
  else
    let off := if p.tag then 4096 else 0
    let badCells := (m.planeBad.filter fun n => n / 4096 == off / 4096).map (· % 4096)
    let (other, s) := heldLanes k p s
    let r := (List.range 64).foldl (stageCell m.fmt p badCells k)
      ⟨m.plane p.tag, m.grad, laneNats p.lanes, laneNats other, false, [], none⟩
    let s := s.modMesh fun m =>
      ((({ (m.setPlane p.tag r.plane) with grad := r.grad }).hold k p).stick (if r.ovf then 8 else 0)).stick
        (if r.derives.isEmpty then 0 else 4)
    let s := if p.ntol.getLsbD 32 then
        r.derives.reverse.foldl (fun s d => pushTrap p 0x42 (p.pnum.setWidth 64) (BitVec.ofNat 64 d.1)
          (BitVec.ofNat 32 (m.image d.2.2) ++ BitVec.ofNat 32 (m.image d.2.1)) s) s
      else s
    let p := { p with lanes := ofLaneNats r.lanes }
    match r.badCell with
    | none => (p, s)
    | some n =>
      ({ p with bad := true },
        pushTrap p 0x47 (BitVec.ofNat 64 ((if p.tag = m.active then 0x600000 else 0x608000) + 8 * n)) (BitVec.ofNat 64 n) 0 s)

/-- A push passes a scaling column where `on`: its lanes, and the sticky bits. An overflow of the scaling sets OVF as one of a
conversion does (log entry 104). -/
def passColumn (on : Bool) (c : Column) (p : Push) (s : State) : Push × State :=
  if on then
    let (l, nbs, ovf) := c.scale s.core.mesh.fmt p.lanes
    ({ p with lanes := l }, s.modMesh fun m => (m.stick (if nbs then 16 else 0)).stick (if ovf then 8 else 0))
  else (p, s)

/-- A push advances by one cycle on the timetable of R188. -/
def advancePush (p : Push) (s : State) : Push × State :=
  let m := s.core.mesh
  let p := { p with age := min 71 (p.age + 1) }
  if p.age = 3 then
    let (p, s) := passColumn (p.op = 0 ∧ !p.rev) m.inCol p s
    ({ p with nIn := BitVec.ofNat 32 (normOf m.fmt p.lanes) }, s.modMesh fun m => m.stick (if p.ovf then 8 else 0))
  else if 4 ≤ p.age ∧ p.age ≤ 67 then passStage (if p.reverse then 67 - p.age else p.age - 4) p s
  else if p.age = 68 ∧ !p.half then
    let nOut := normOf m.fmt p.lanes
    let (exc, gain) := normCheck p.ntol p.nIn.toNat nOut
    let s := s.modMesh fun m => ({ m with mgain := BitVec.ofNat 32 gain }).stick (if exc then 2 else 0)
    (p, if exc then pushTrap p 0x40 (p.pnum.setWidth 64) (BitVec.ofNat 32 nOut ++ p.nIn) (p.ntol.setWidth 64) s else s)
  else if p.age = 70 then passColumn (p.op = 0 ∧ !p.rev ∧ !p.noc) m.outCol p s
  else (p, s)

/-- FP32 lanes in the lane format, with overflow (R187). -/
def Mesh.narrowAll (m : Mesh) (l : List (Flagged Nat)) : BitVec 4096 × Bool :=
  let r := l.map fun x => x.bind m.narrow
  (ofLanes (r.map fun x => BitVec.ofNat 32 x.val), r.any fun x => x.fl &&& fOVF != 0)

/-- The lanes of a v register as an input of the mesh (R187). -/
def regInput (n : Nat) (s : State) : List (Flagged Nat) × State :=
  let (r, s) := s.readVPhys n
  ((lanesOf r).map fun l => ⟨l.toNat, 0⟩, s)

/-- The second push of a GRD pair waits for its issue; in that cycle it reads a v register (R31, R207). -/
def awaitPush (p : Push) (s : State) : Push × State :=
  match p.wait, p.src with
  | 1, some n =>
    let (l, s) := regInput n s
    let (l, ovf) := s.core.mesh.narrowAll l
    ({ p with wait := 0, src := none, lanes := l, ovf := ovf }, s)
  | w, _ => ({ p with wait := w - 1 }, s)

/-- Every push of the pipeline advances by a cycle, oldest first. -/
def advancePipe (s : State) : State :=
  if s.core.mesh.pipe.isEmpty || s.core.mesh.frz then s else
  let (ps, s) := s.core.mesh.pipe.foldl (fun (acc : List Push × State) p =>
    let (q, s) := if p.cyc = acc.2.cycle then (p, acc.2) else if p.wait = 0 then advancePush p acc.2 else awaitPush p acc.2
    (q :: acc.1, s)) ([], s)
  s.modMesh fun m => { m with pipe := ps.reverse }

/-! ## Landing (R187, R206, R224) -/

/-- The bank of a push's task. -/
def State.bankOf (s : State) (b : Bool) : Bank := if b then s.core.bankB else s.core.bankA

/-- The state with a bank of the core in focus changed. -/
def State.modBankOf (s : State) (b : Bool) (f : Bank → Bank) : State :=
  s.modCore fun c => if b then { c with bankB := f c.bankB } else { c with bankA := f c.bankA }

/-- The use of a stream output. -/
def outUse (d : BitVec 512) : Use := makeUse d ⟨0, true, 128⟩

/-- The scratchpad bytes that landing an output writes; its block scales were read at issue (R178). -/
def PushOut.bytes : PushOut → List Nat
  | .stream d => spanBytes ((outUse d).elemSpans fun _ => true)
  | _ => []

/-- The block scales that an output's conversion uses, as they stand in scratchpad (R178). -/
def PushOut.scales (m : Memory) : PushOut → List (BitVec 32)
  | .stream d => (outUse d).scaleWords m
  | _ => []

/-- The output of a push lands: a v register takes FP32 images; a stream takes converted elements (R187); a frozen
watermark on an output byte is a deferred 0x50 and no lane lands (R206). Block scales are those read at issue (R178). -/
def landOut (p : Push) (out : PushOut) (lanes : BitVec 4096) (s : State) : State :=
  let m := s.core.mesh
  let lanes := if p.bad then ofLanes (List.replicate 128 (BitVec.ofNat 32 m.fmt.nan)) else lanes
  match out with
  | .none => s
  | .reg n =>
    s.modBankOf p.bankB fun b =>
      b.writeReg ⟨.v, n⟩ (ofLanes ((lanesOf lanes).map fun l => BitVec.ofNat 32 (m.image l.toNat))) (BitVec.allOnes 128)
  | .stream d =>
    let u := outUse d
    match s.core.frozenAccess [out.bytes] with
    | some (a, n) => pushTrap p 0x50 (BitVec.ofNat 64 a) (s.core.frozenRecord n).1 (s.core.frozenRecord n).2 s
    | none =>
      let vals := (lanesOf lanes).zipIdx.map fun q =>
        if (streamFmt u.efmt p.fmt).isNone then ⟨m.image q.1.toNat, 0⟩
        else u.convScaled (p.scales[q.2]?.map (scaleVal u.sfp false)) p.fmt (.float m.fmt) .rne q.1.toNat
      let s := s.modCore fun c => { c with spad := writeMasked c.spad (u.stores (fun _ => true) (vals.map (·.val))) }
      s.modMesh fun m => m.stick (if joinFlags (vals.map (·.fl)) &&& fOVF != 0 then 8 else 0)

/-- The oldest push may land: it has passed the output column and its output bytes pass their watermarks (R149, R224). -/
def landReady (s : State) : Bool :=
  match s.core.mesh.pipe with
  | p :: _ => !s.core.mesh.frz && 70 ≤ p.age && s.core.mayIssue p.out.bytes
  | [] => false

/-- The oldest push lands and leaves the mesh (MPUSH_LAND). -/
def landPush (s : State) : State :=
  match s.core.mesh.pipe with
  | p :: ps =>
    if landReady s then landOut p p.out p.lanes (s.modMesh fun m => { m with pipe := ps }) else s
  | [] => s

/-! ## The plane unit (R208 to R221) -/

/-- What a plane-unit access may do now (R225). -/
inductive UnitPass where
  | passes | held
  | frozen (byte wm : Nat)
  deriving DecidableEq, Repr

/-- The access of the plane unit to bytes, in order. -/
def unitPass (c : Core) : List Nat → UnitPass
  | [] => .passes
  | a :: as =>
    match c.byteCheck a with
    | .passes => unitPass c as
    | .held => .held
    | .frozen n => .frozen a n

/-- The bytes from an address. -/
def byteRange (a n : Nat) : List Nat := (List.range n).map (a + ·)

/-- A piece of a plane-unit operation: the bytes it accesses and its effect; an effect may end the operation with a
deferred trap. -/
structure UnitItem where
  addr : Nat
  len : Nat
  reads : Bool
  act : State → State × Bool

/-- The deferred trap of an ordered operation, of its own task's bank (R222). -/
def planeTrap (o : PlaneOp) (cause : BitVec 8) (addr d0 d1 : BitVec 64) (s : State) : State :=
  s.trapIn o.bankB cause .m o.pc o.rep addr d0 d1

/-- Runs the pieces in order up to the first whose bytes meet a frozen range (0x50), an uncorrectable byte (0x36), or that
ends the operation, which is then over; where a watermark holds a piece, the state at it, with the number of pieces done
(R225). -/
def runItems (o : PlaneOp) (k : Nat) : List UnitItem → State → Option Nat × State
  | [], s => (none, s)
  | i :: is, s =>
    match (if s.core.noRanges then UnitPass.passes else unitPass s.core (byteRange i.addr i.len)) with
    | .held => (some k, s)
    | .frozen a n => (none, planeTrap o 0x50 (BitVec.ofNat 64 a) (s.core.frozenRecord n).1 (s.core.frozenRecord n).2 s)
    | .passes =>
      match (if i.reads then s.badByte [(i.addr, i.len)] else none) with
      | some a => (none, planeTrap o 0x36 (BitVec.ofNat 64 a) (Config.unstated 0x36 1) (Config.unstated 0x36 2) s)
      | none =>
        match i.act s with
        | (s, true) => runItems o (k + 1) is s
        | (s, false) => (none, s)

/-- Cells of a physical plane rewritten, from cell `n0`; an uncorrectable cell that is written is good again. -/
def writeCells (tag : Bool) (n0 : Nat) (ws : List (BitVec 64)) (m : Mesh) : Mesh :=
  let p := (ws.zipIdx).foldl (fun p w => vset p (n0 + w.2) (w.1 &&& ~~~0xF)) (m.plane tag)
  let lo := (if tag then 4096 else 0) + n0
  { (m.setPlane tag p) with planeBad := m.planeBad.filter fun b => b < lo || lo + ws.length ≤ b }

/-- A cell with an expanded turn code (R185): ID, DRVD and XCH 0, the other fields kept. -/
def expandCell (w : BitVec 64) (code : BitVec 16) : BitVec 64 :=
  setBit (setBit (setBit (cellSetCs w (expandCs code).1 (expandCs code).2) 8 false) 5 false) 4 false

/-- One entry of a list operation (Table 13.13): none where it is not well formed. -/
def listEntry (k : PlaneKind) (e : Nat) (w : BitVec 64) : Option (BitVec 64) :=
  let hi := e / 2 ^ 16
  match k with
  | .mpatch .. => some (expandCell w (BitVec.ofNat 16 hi))
  | .mdix .. => if 128 ≤ hi then none else some (w.extractLsb' 16 48 ++ BitVec.ofNat 7 hi ++ w.extractLsb' 0 9)
  | _ =>
    if 256 ≤ hi then none
    else
      let en := BitVec.ofNat 4 (hi / 16)
      let v := BitVec.ofNat 4 hi
      some (([(3, 8), (2, 7), (1, 6), (0, 5)] : List (Nat × Nat)).foldl (fun w p =>
        if en.getLsbD p.1 then setBit w p.2 (v.getLsbD p.1) else w) w)

/-- The pieces of a list operation on the shadow plane. -/
def listItems (o : PlaneOp) (addr count : Nat) : List UnitItem :=
  (List.range count).map fun i =>
    ⟨addr + 4 * i, 4, true, fun s =>
      let e := s.core.spad.num (addr + 4 * i) 4
      let n := e % 2 ^ 16
      let t := !s.core.mesh.active
      match (if 4096 ≤ n then none else listEntry o.kind e (vget (s.core.mesh.plane t) n 0)) with
      | some w => (s.modMesh (writeCells t n [w]), true)
      | none => (planeTrap o 0x44 (BitVec.ofNat 64 (addr + 4 * i)) (BitVec.ofNat 64 e) (BitVec.ofNat 64 i) s, false)⟩

/-- A column as bytes and back: PS8 then E8 (R215). -/
def Column.bytes (c : Column) : List (BitVec 8) := leBytes 128 c.ps8.toNat ++ leBytes 4 c.e8.toNat

/-- The column read at an address. -/
def columnAt (m : Memory) (a : Nat) : Column := ⟨BitVec.ofNat 1024 (m.num a 128), BitVec.ofNat 32 (m.num (a + 128) 4)⟩

/-- Word 0x0000 of the sweep state image (Table 12.7). -/
def Mesh.imageHead (m : Mesh) : BitVec 64 :=
  (0 : BitVec 56) ++ bit m.gp ++ bit m.mode ++ (if m.active then m.hdrB else m.hdrA)

/-- Bytes 0x000 to 0x1FF of the sweep state image (Table 12.7). -/
def Mesh.imageTop (m : Mesh) : List (BitVec 8) :=
  leBytes 8 m.imageHead.toNat ++ leBytes 8 m.mpcnt.toNat ++ leBytes 8 m.sticky.toNat ++ leBytes 8 m.ntol.toNat ++
    List.replicate 32 0 ++ leBytes 128 m.inCol.ps8.toNat ++ leBytes 128 m.outCol.ps8.toNat ++
    leBytes 4 m.inCol.e8.toNat ++ leBytes 4 m.outCol.e8.toNat ++ List.replicate 184 0

/-- The cell words of a stage of the active plane as bytes. -/
def Mesh.stageBytes (m : Mesh) (k : Nat) : List (BitVec 8) :=
  (List.range 64).flatMap fun j => leBytes 8 (vget (m.plane m.active) (64 * k + j) 0).toNat

/-- The accumulators of a stage as bytes. -/
def Mesh.gradBytes (m : Mesh) (k : Nat) : List (BitVec 8) :=
  (List.range 64).flatMap fun j => leBytes 4 (vget m.grad (64 * k + j) 0).toNat

/-- GP as the ordered operations that have issued leave it (R224). -/
def Mesh.gpAhead (m : Mesh) : Bool :=
  m.unit.foldl (fun g o => match o.kind with | .mfmt _ gp => gp | _ => g) m.gp

/-- Bytes of the image of an MSAVE or MREST that issues now (Table 12.7; log entry 151). -/
def Mesh.imageLen (m : Mesh) : Nat := if m.gpAhead then 0xC200 else 0x8200

/-- An effect on the mesh as a piece without scratchpad bytes. -/
def meshItem (f : Mesh → Mesh) : List UnitItem := [⟨0, 0, false, fun s => (s.modMesh f, true)⟩]

/-- A piece that reads bytes into the mesh. -/
def readItem (a n : Nat) (f : Memory → Mesh → Mesh) : UnitItem := ⟨a, n, true, fun s => (s.modMesh (f s.core.spad), true)⟩

/-- A piece that writes bytes of the mesh, and then changes it. -/
def writeItem (a n : Nat) (bytes : Mesh → List (BitVec 8)) (f : Mesh → Mesh) : UnitItem :=
  ⟨a, n, false, fun s => ((s.modCore fun c => { c with spad := c.spad.store a (bytes c.mesh) }).modMesh f, true)⟩

/-- A number of pieces, by index. -/
def itemsOf (n : Nat) (f : Nat → UnitItem) : List UnitItem := (List.range n).map f

/-- The parts of the image's first 512 bytes, offset and length: its words, the columns' PS8 scales, their E8 scales, the rest. -/
def topParts : List (Nat × Nat) :=
  [(0, 8), (8, 8), (0x10, 8), (0x18, 8), (0x20, 32), (0x40, 128), (0xC0, 128), (0x140, 4), (0x144, 4), (0x148, 184)]

/-- The pieces of MSAVE: the image's first 512 bytes part by part, then the active plane and the gradient plane stage by stage (R213;
log entry 129). -/
def saveItems (m : Mesh) (a : Nat) : List UnitItem :=
  topParts.map (fun p => writeItem (a + p.1) p.2 (fun m => (m.imageTop.drop p.1).take p.2) id) ++ itemsOf 64 (fun k => writeItem (a + 0x200 + 512 * k) 512 (·.stageBytes k) id) ++
    (if m.gp then itemsOf 64 fun k => writeItem (a + 0x8200 + 256 * k) 256 (·.gradBytes k) id else [])

/-- The pieces of MREST: STG, MODE and GP are compared first (R199, R213); then word by word, column by column (a column is read
with its last byte, log entry 129), and the planes stage by stage. -/
def restoreItems (o : PlaneOp) (m : Mesh) (a : Nat) : List UnitItem :=
  ⟨a, 8, true, fun s =>
      let w := BitVec.ofNat 64 (s.core.spad.num a 8)
      if w.setWidth 8 ≠ s.core.mesh.imageHead.setWidth 8 then
        (planeTrap o 0x41 (BitVec.ofNat 64 a) w s.core.mesh.imageHead s, false)
      else (s, true)⟩ ::
    readItem (a + 8) 8 (fun sp m => { m with mpcnt := BitVec.ofNat 32 (sp.num (a + 8) 4) }) ::
    readItem (a + 0x10) 8 (fun sp m => { m with sticky := BitVec.ofNat 5 (sp.num (a + 0x10) 1) }) ::
    readItem (a + 0x18) 8 (fun sp m => { m with ntol := BitVec.ofNat 33 (sp.num (a + 0x18) 8) }) ::
    readItem (a + 0x40) 0x104 (fun sp m => { m with
      inCol := ⟨BitVec.ofNat 1024 (sp.num (a + 0x40) 128), BitVec.ofNat 32 (sp.num (a + 0x140) 4)⟩ }) ::
    readItem (a + 0x144) 4 (fun sp m => { m with
      outCol := ⟨BitVec.ofNat 1024 (sp.num (a + 0xC0) 128), BitVec.ofNat 32 (sp.num (a + 0x144) 4)⟩ }) ::
    itemsOf 64 (fun k => readItem (a + 0x200 + 512 * k) 512 fun sp m =>
      writeCells m.active (64 * k) ((List.range 64).map fun j => BitVec.ofNat 64 (sp.num (a + 0x200 + 512 * k + 8 * j) 8)) m) ++
    (if m.gp then itemsOf 64 fun k => readItem (a + 0x8200 + 256 * k) 256 fun sp m => { m with
      grad := (List.range 64).foldl (fun g j =>
        vset g (64 * k + j) (BitVec.ofNat 32 (sp.num (a + 0x8200 + 256 * k + 4 * j) 4))) m.grad } else [])

/-- The pieces of an ordered operation (R210 to R221). -/
def unitItems (o : PlaneOp) (m : Mesh) : List UnitItem :=
  match o.kind with
  | .mlda a k0 nm1 =>
    (itemsOf (nm1 + 1) fun i => readItem (a + 128 * i) 128 fun sp m =>
      writeCells (!m.active) (64 * (k0 + i)) ((List.range 64).map fun j =>
        expandCell (vget (m.plane !m.active) (64 * (k0 + i) + j) 0) (BitVec.ofNat 16 (sp.num (a + 128 * i + 2 * j) 2))) m) ++
      meshItem fun m => m.setHeader (!m.active) (BitVec.ofNat 6 (k0 + nm1))
  | .mldp a k0 nm1 =>
    (itemsOf (nm1 + 1) fun i => readItem (a + 512 * i) 512 fun sp m =>
      writeCells (!m.active) (64 * (k0 + i)) ((List.range 64).map fun j => BitVec.ofNat 64 (sp.num (a + 512 * i + 8 * j) 8)) m) ++
      meshItem fun m => m.setHeader (!m.active) (BitVec.ofNat 6 (k0 + nm1))
  | .mpatch a n | .mdix a n | .mbits a n => listItems o a n
  | .mswap => meshItem fun m => { m with active := !m.active }
  | .msave a => saveItems m a
  | .mrest a => restoreItems o m a
  | .mgsv a k0 nm1 clr =>
    itemsOf (nm1 + 1) fun i => writeItem (a + 256 * i) 256 (·.gradBytes (k0 + i)) fun m =>
      if clr then { m with grad := (List.range 64).foldl (fun v j => vset v (64 * (k0 + i) + j) 0) m.grad } else m
  | .mscli a => [readItem a 132 fun sp m => { m with inCol := columnAt sp a }]
  | .msclo a => [readItem a 132 fun sp m => { m with outCol := columnAt sp a }]
  | .mrst g k =>
    meshItem fun m =>
      let m := { (m.setPlane m.active ((m.plane m.active).map fun w => setBit (setBit w 5 false) 4 false)) with mpcnt := 0 }
      { m with grad := if g && m.gp then Vector.replicate 4096 0 else m.grad, sticky := if k then 0 else m.sticky }
  | .mnrm v => meshItem fun m => { m with ntol := v }
  | .mfmt mode gp =>
    meshItem fun m => { m with mode := mode, gp := gp, grad := if m.gp = gp then m.grad else Vector.replicate 4096 0 }
  | .mclr a sh g c =>
    meshItem fun m =>
      let wipe (t : Bool) (m : Mesh) : Mesh := (writeCells t 0 (List.replicate 4096 cellReset) m).setHeader t 63
      let m := if a then wipe m.active m else m
      let m := if sh then wipe (!m.active) m else m
      let m := if g && m.gp then { m with grad := Vector.replicate 4096 0 } else m
      if c then { m with inCol := Column.reset, outCol := Column.reset } else m

/-- What an ordered operation waits for before it acts (Table 13.12, R209). -/
def unitWaits (m : Mesh) (k : PlaneKind) : Bool :=
  match k with
  | .mlda .. | .mldp .. | .mpatch .. | .mdix .. | .mbits .. | .mclr false true false false =>
    m.pipe.any fun p => p.tag != m.active && p.age < 67
  | .mswap | .mnrm _ => false
  | .mscli _ => m.pipe.any fun p => p.age < 3
  | .msclo _ => m.pipe.any fun p => p.age < 70
  | _ => !m.pipe.isEmpty

/-- Cycles from issue to completion of an ordered operation that waits for nothing (Table 13.12). -/
def PlaneKind.bound (k : PlaneKind) (m : Mesh) : Nat :=
  match k with
  | .mlda _ _ nm1 => 2 + (nm1 + 1)
  | .mldp _ _ nm1 => 2 + 4 * (nm1 + 1)
  | .mpatch _ n | .mdix _ n | .mbits _ n => 2 + (n + 3) / 4
  | .mclr .. => 2 + 64
  | .mswap | .mnrm _ => 2
  | .mscli _ | .msclo _ | .mrst .. | .mfmt .. => 4
  | .msave _ | .mrest _ => 2 + m.imageLen / 128
  | .mgsv _ _ nm1 _ => 2 + 2 * (nm1 + 1)

/-- The plane unit's oldest operation may act in this cycle (R208). -/
def unitReady (s : State) : Bool :=
  match s.core.mesh.unit with
  | [] => false
  | o :: _ => !(s.core.mesh.frz || o.cyc == s.cycle || unitWaits s.core.mesh o.kind)

/-- The plane unit's oldest operation acts, up to a piece that a watermark holds (R225). -/
def runUnit (s : State) : State :=
  match s.core.mesh.unit with
  | [] => s
  | o :: os =>
    let r := runItems o o.done ((unitItems o s.core.mesh).drop o.done) s
    r.2.modMesh fun m => { m with unit := match r.1 with | none => os | some k => { o with done := k } :: os }

end Sys2Proof.Machine
end

