-- ==== Sys2Proof/Machine/MeshOps.lean ====
section
/-! DEFINITION. The 24 mesh instructions (spec/13 R203 to R222) and the mesh's events. -/
namespace Sys2Proof.Machine

/-- A slot issues nothing for the rest of `n` issue cycles from this one (R36). -/
def State.stall (s : State) (slot : Slot) (n : Nat) : State :=
  s.modCore fun c => { c with stalls := (List.range 6).map fun i => if i = 5 - slot.presBit then n else c.stalls.getD i 0 }

/-! ## Pushes (R206, R207) -/

/-- The stream use of an operand code, where it names one. -/
def operandUse (c : BitVec 7) (write : Bool) : List UseReq := if isStream c then [⟨c.toNat - 64, write, 128⟩] else []

/-- The descriptor of a stream before use number `k` of an instruction's uses. -/
def descBefore (z : Nat → Desc) (us : List Use) (k : Nat) : Desc :=
  match us[k]? with
  | none => 0
  | some u => ((us.take k).reverse.find? fun t => t.z == u.z).elim (z u.z) (·.next)

/-- The elements of a stream use as FP32 lanes (R140, R187). -/
def streamInput (u : Use) (fmt : BitVec 4) (m : Memory) : List (Flagged Nat) :=
  (List.range 128).map fun j => u.readElem m fmt false (.float fp32) .rne j

/-- An input operand as FP32 lanes (R187): a stream's elements under R140, or a v register's lanes. -/
def pushInput (c : BitVec 7) (fmt : BitVec 4) (u : Option Use) (s : State) : List (Flagged Nat) × State :=
  if isStream c then ((u.map fun u => streamInput u fmt s.core.spad).getD [], s)
  else regInput (physReg s.ctx.entry.rotb (c.setWidth 6)) s

/-- Where an output lands, its name resolved at issue: `k` is its place among the uses. -/
def pushTarget (c : BitVec 7) (no : Bool) (z : Nat → Desc) (us : List Use) (k : Nat) (s : State) : PushOut :=
  if no then .none
  else if isStream c then .stream (descBefore z us k)
  else .reg (physReg s.ctx.entry.rotb (c.setWidth 6))

/-- Number of uses an operand code makes. -/
def useNo (c : BitVec 7) : Nat := if isStream c then 1 else 0

/-- Issue cycles between two pushes (Table 3.8). -/
def Mesh.pushCycles (m : Mesh) : Nat := if m.mode then 2 else 1

/-- The second push of a GRD pair, from the first (R207): it issues by itself one issue time later, reads a v register then, and has
read a stream with the first one (log entry 105). -/
def secondPush (p : Push) (gin : BitVec 7) (u : Option Use) (out : PushOut) (s : State) : Push :=
  let l := s.core.mesh.narrowAll (if isStream gin then (pushInput gin p.fmt u s).1 else [])
  { p with half := true, wait := s.core.mesh.pushCycles, src := if isStream gin then none else some (physReg s.ctx.entry.rotb (gin.setWidth 6)),
           lanes := l.1, ovf := l.2, out := out, scales := out.scales s.core.spad }

/-- An MPUSH at issue (R206, R207): checks, the input read, the push number, and the push into the pipeline. `g` holds GIN
and GOUT. -/
def mpush (op : Nat) (inp out : BitVec 7) (rev : Bool) (ofmt : BitVec 2) (g : Option (BitVec 7 × BitVec 7)) (s : State) :
    State :=
  let m := s.core.mesh
  let no := ofmt == 1
  let (gin, gout) := g.getD (0, 0)
  let reqs := operandUse inp false ++ operandUse gin false ++ (if no then [] else operandUse out true) ++ operandUse gout true
  match planUses s.zreg s.core.spadSize reqs with
  | .error (c, a) => s.trapStream c a
  | .ok us =>
    if op = 6 ∧ !m.gp then s.trapAtIssue 0x45 0 6 0
    else if op = 3 ∧ m.cxm ≠ m.mode then s.trapAtIssue 0x46 0 ((bit m.cxm).setWidth 64) ((bit m.mode).setWidth 64)
    else
      let spans := us.flatMap fun u => u.readSpans fun _ => true
      match s.core.frozenAccess (us.map fun u => spanBytes (u.readSpans fun _ => true)) with
      | some (a, n) => s.trapFrozenByte a n
      | none =>
        match s.badByte spans with
        | some a => (s.stepStreams us).trapSpad .m s.ctx.entry.pc s.ctx.entry.rep a
        | none =>
          let (fmt, s) := s.fmtM
          let (l, s) := pushInput inp fmt us[0]? s
          let a := m.narrowAll l
          let ko := useNo inp + (if g.isSome then useNo gin else 0)
          let kg := ko + (if no then 0 else useNo out)
          let p : Push :=
            { op := op, rev := rev, half := false, wait := 0, src := none, tag := m.active, pnum := m.mpcnt, age := 0, lanes := a.1,
              out := pushTarget out no s.zreg us ko s, scales := (pushTarget out no s.zreg us ko s).scales s.core.spad, noc := ofmt == 2, ntol := m.ntol, fmt := fmt, nIn := 0, ovf := a.2,
              bad := false, bankB := s.core.cur, pc := s.ctx.entry.pc, rep := s.ctx.entry.rep, seq := s.ctx.entry.seq,
              cyc := s.cycle }
          let ps := if g.isSome then [p, secondPush p gin us[useNo inp]? (pushTarget gout false s.zreg us kg s) s] else [p]
          let s := s.stepStreams us
          let s := s.modMesh fun m =>
            { m with mpcnt := m.mpcnt + 1, pipe := m.pipe ++ ps, cxm := if op = 2 then m.mode else m.cxm }
          s.stall .m (m.pushCycles * (if op = 6 then 2 else 1))

/-- MPUSH.ROT (R189, R193, R206). -/
def execMpushRot (f : FmtMP) (s : State) : Out := guarded f.g s (mpush 0 f.inp f.out f.rev f.ofmt none)
/-- MPUSH.DRV (R190, R206). -/
def execMpushDrv (f : FmtMP) (s : State) : Out := guarded f.g s (mpush 1 f.inp f.out f.rev f.ofmt none)
/-- MPUSH.CXG (R191, R206). -/
def execMpushCxg (f : FmtMP) (s : State) : Out := guarded f.g s (mpush 2 f.inp f.out f.rev f.ofmt none)
/-- MPUSH.FOL (R191, R206). -/
def execMpushFol (f : FmtMP) (s : State) : Out := guarded f.g s (mpush 3 f.inp f.out f.rev f.ofmt none)
/-- MPUSH.SWP (R192, R206). -/
def execMpushSwp (f : FmtMP) (s : State) : Out := guarded f.g s (mpush 4 f.inp f.out f.rev f.ofmt none)
/-- MPUSH.PAS (R192, R206). -/
def execMpushPas (f : FmtMP) (s : State) : Out := guarded f.g s (mpush 5 f.inp f.out f.rev f.ofmt none)
/-- MPUSH.GRD (R193, R207). -/
def execMpushGrd (f : FmtGR) (s : State) : Out :=
  guarded f.g s (mpush 6 f.inp f.out f.rev f.ofmt (some (f.gin, f.gout)))

/-! ## Ordered operations (R208 to R221) -/

/-- An ordered operation at issue: a range outside the scratchpad (0x30; an empty range has no byte outside) or an address not aligned
(0x43) traps; else it joins the plane unit's queue, to complete within its bound (Table 13.12). -/
def planeIssue (op addr len align : Nat) (k : PlaneKind) (s : State) : State :=
  if len ≠ 0 ∧ s.core.spadSize < addr + len then s.trapAddr 0x30 (BitVec.ofNat 64 addr)
  else if addr % align ≠ 0 then s.trapAtIssue 0x43 (BitVec.ofNat 64 addr) (BitVec.ofNat 64 op) 0
  else s.modMesh fun m => { m with unit := m.unit ++ [⟨k, s.core.cur, s.ctx.entry.pc, s.ctx.entry.rep, s.cycle, 0, k.bound m - 1⟩] }

/-- MLDA (R185, R210). -/
def execMlda (f : FmtMPL) (s : State) : Out :=
  guarded f.g s (planeIssue 7 f.addr.toNat (128 * (f.nm1.toNat + 1)) 128 (.mlda f.addr.toNat f.k0.toNat f.nm1.toNat))
/-- MLDP (R210). -/
def execMldp (f : FmtMPL) (s : State) : Out :=
  guarded f.g s (planeIssue 8 f.addr.toNat (512 * (f.nm1.toNat + 1)) 64 (.mldp f.addr.toNat f.k0.toNat f.nm1.toNat))
/-- MPATCH (R211). -/
def execMpatch (f : FmtLS) (s : State) : Out :=
  guarded f.g s (planeIssue 9 f.addr.toNat (4 * f.count.toNat) 4 (.mpatch f.addr.toNat f.count.toNat))
/-- MSWAP (R184, R212): it holds later pushes until it completes, 2 cycles after its issue at the earliest. -/
def execMswap (f : FmtMP) (s : State) : Out := guarded f.g s (planeIssue 10 0 0 1 .mswap)
/-- MSAVE (R213). -/
def execMsave (f : FmtAD) (s : State) : Out :=
  guarded f.g s fun s => planeIssue 11 f.addr.toNat s.core.mesh.imageLen 64 (.msave f.addr.toNat) s
/-- MREST (R213). -/
def execMrest (f : FmtAD) (s : State) : Out :=
  guarded f.g s fun s => planeIssue 12 f.addr.toNat s.core.mesh.imageLen 64 (.mrest f.addr.toNat) s
/-- MGSV (R214): without a gradient plane it traps 0x45. -/
def execMgsv (f : FmtMPL) (s : State) : Out :=
  guarded f.g s fun s =>
    if s.core.mesh.gp ∨ s.core.spadSize < f.addr.toNat + 256 * (f.nm1.toNat + 1) ∨ f.addr.toNat % 64 ≠ 0 then
      planeIssue 13 f.addr.toNat (256 * (f.nm1.toNat + 1)) 64 (.mgsv f.addr.toNat f.k0.toNat f.nm1.toNat f.clr) s
    else s.trapAtIssue 0x45 0 13 0
/-- MSCLI (R215). -/
def execMscli (f : FmtAD) (s : State) : Out := guarded f.g s (planeIssue 14 f.addr.toNat 132 4 (.mscli f.addr.toNat))
/-- MSCLO (R215). -/
def execMsclo (f : FmtAD) (s : State) : Out := guarded f.g s (planeIssue 15 f.addr.toNat 132 4 (.msclo f.addr.toNat))
/-- MDIX (R211). -/
def execMdix (f : FmtLS) (s : State) : Out :=
  guarded f.g s (planeIssue 16 f.addr.toNat (4 * f.count.toNat) 4 (.mdix f.addr.toNat f.count.toNat))
/-- MBITS (R211). -/
def execMbits (f : FmtLS) (s : State) : Out :=
  guarded f.g s (planeIssue 17 f.addr.toNat (4 * f.count.toNat) 4 (.mbits f.addr.toNat f.count.toNat))
/-- MRST (R216): G acts where a gradient plane is present. -/
def execMrst (f : FmtFL) (s : State) : Out := guarded f.g s (planeIssue 18 0 0 1 (.mrst (f.fl.getLsbD 0) (f.fl.getLsbD 1)))
/-- MNRM (R217). -/
def execMnrm (f : FmtNT) (s : State) : Out := guarded f.g s (planeIssue 19 0 0 1 (.mnrm (bit f.dvte ++ f.tol)))
/-- MSTAT (R218): tracked, it lands when every earlier mesh operation is done (log entry 123). -/
def execMstat (f : FmtFL) (s : State) : Out :=
  guarded f.g s fun s =>
    s.modBank fun b =>
      { b with tracked := b.tracked ++ [⟨[s.xRef f.d], .mstat (f.fl.getLsbD 0) s.cycle, 0, s.ctx.entry.pc, s.ctx.entry.rep,
          s.ctx.entry.seq, .m⟩] }
/-- MFMT (R219). -/
def execMfmt (f : FmtFL) (s : State) : Out :=
  guarded f.g s (planeIssue 21 0 0 1 (.mfmt (f.fl.getLsbD 0) (f.fl.getLsbD 1)))
/-- MDRN (R220): it stays at the head of its queue until every earlier mesh operation is done, then leaves it. -/
def execMdrn (f : FmtMP) (s : State) : Out := guarded f.g s fun s => if s.core.mesh.done then s else s.putBack
/-- MCLR (R221): G acts where a gradient plane is present. -/
def execMclr (f : FmtFL) (s : State) : Out :=
  guarded f.g s fun s =>
    planeIssue 23 0 0 1
      (.mclr (f.fl.getLsbD 0) (f.fl.getLsbD 1) (f.fl.getLsbD 2) (f.fl.getLsbD 3)) s

/-! ## Events -/

/-- MPUSH_LAND (R188, R224): the oldest push lands, where it may. -/
def execMpushLand (s : State) : Out := .next (landPush s)

/-- PLANE_UNIT_OPERATION (R208): the plane unit's oldest operation acts, where it may. -/
def execPlaneUnitOperation (s : State) : Out := .next (if unitReady s then runUnit s else s)

/-- MDRN_COMPLETE (R220): an MDRN at the head of the M queue leaves it once the mesh is done. -/
def execMdrnComplete (s : State) : Out :=
  match s.bank.queues[3]? with
  | some (e :: q) =>
    match e.op with
    | some (.m 0x16 _) =>
      .next (if s.core.mesh.done && !s.core.mesh.frz then s.modBank fun b => { b with queues := vset b.queues 3 q } else s)
    | _ => .next s
  | _ => .next s

/-- MSTAT lands: the register takes MSTATUS, and with CLR the sticky bits clear in the same cycle (R218). -/
def landMstat (isB : Bool) (t : Tracked) (clr : Bool) (s : State) : State :=
  let w := s.core.mesh.status
  let s := s.modBankOf isB fun b => t.regs.foldl (fun b r => b.writeReg r (w.setWidth 4096) 0) b
  if clr then s.modMesh fun m => { m with sticky := 0 } else s

/-- An MSTAT that has not landed: its bank, its tracked entry, whether it clears, the cycle of its issue. -/
structure WaitingMstat where
  isB : Bool
  t : Tracked
  clr : Bool
  cyc : Nat
  deriving DecidableEq, Repr

/-- The MSTATs of a bank that have not landed. -/
def Bank.mstats (b : Bank) (isB : Bool) : List WaitingMstat :=
  b.tracked.filterMap fun t => match t.kind with | .mstat clr cyc => some ⟨isB, t, clr, cyc⟩ | _ => none

/-- MSTATs in issue order. -/
def insertMstat (m : WaitingMstat) : List WaitingMstat → List WaitingMstat
  | [] => [m]
  | n :: ns => if m.cyc < n.cyc then m :: n :: ns else n :: insertMstat m ns

/-- The MSTATs of a core that have not landed, in issue order. -/
def Core.mstats (c : Core) : List WaitingMstat := (c.bankB.mstats true).foldl (fun l m => insertMstat m l) (c.bankA.mstats false)

/-- Every mesh operation that issued before an MSTAT is done (R218). -/
def mstatReady (m : Mesh) (cyc : Nat) : Bool := (m.pipe.all fun p => cyc < p.cyc) && m.unit.all fun o => cyc < o.cyc

end Sys2Proof.Machine
end

