-- ==== Sys2Proof/Machine/Line.lean ====
section
/-! DEFINITION. Lines of global memory: the address map, metadata words, this device's slices, home transactions, requests
to other homes and ports, and the read and write of a line (spec/19 R281 to R298, spec/21 R312 to R322). -/
namespace Sys2Proof.Machine

/-! ## The address map (R281, R282) -/

/-- A range of Table 19.1. -/
inductive Range where
  | hbm
  | cxl (d3 : Bool)
  | host | control | opm | unassigned
  deriving DecidableEq, Repr

/-- The range a local address lies in (Table 19.1). -/
def rangeOf (la : Nat) : Range :=
  if la < 0x008000000000 then .hbm
  else if la < 0x010000000000 then .unassigned
  else if la < 0x030000000000 then .cxl false
  else if la < 0x050000000000 then .cxl true
  else if la < 0x100000000000 then .unassigned
  else if la < 0x200000000000 then .host
  else if la < 0x3E0000000000 then .unassigned
  else if la < 0x3F0000000000 then .control
  else if la < 0x3F0200000000 then .opm
  else .unassigned

/-- The device of a physical address. -/
def devOf (pa : Nat) : BitVec 6 := BitVec.ofNat 6 (pa / 2 ^ 46)

/-- The local address of a physical address. -/
def localOf (pa : Nat) : Nat := pa % 2 ^ 46

/-- The line of a physical address: the address divided by 128. -/
def lineOf (pa : Nat) : Nat := pa / 128

/-- The local line of a line. -/
def localLine (line : Nat) : Nat := line % 2 ^ 39

/-- A device, as the first line of its addresses. -/
def lineBase (d : BitVec 6) : Nat := d.toNat * 2 ^ 39

/-- HBM channel of a local address (R286). -/
def channelOf (la : Nat) : Nat :=
  let g := la / 2048
  (g % 256) ^^^ (g / 2 ^ 8 % 256) ^^^ (g / 2 ^ 16 % 256) ^^^ (g / 2 ^ 24 % 256) ^^^ (g / 2 ^ 32 % 8)

/-- The line-cache slice of a local address, 0 to 63; slice k is on die k / 16 (R286). -/
def sliceOf (la : Nat) : Nat := channelOf la / 4

/-- The die of a slice. -/
def dieOf (la : Nat) : Nat := sliceOf la / 16

/-- The HBM stack of a local address (R286). -/
def stackOf (la : Nat) : Nat := channelOf la / 32

/-- The channel of its stack. -/
def stackChannel (la : Nat) : Nat := channelOf la % 32

/-- The byte offset in its channel. -/
def channelOffset (la : Nat) : Nat := la / 2048 / 2 ^ 8 % 2 ^ 20 * 2048 + la % 2048

/-- The set of a slice in which a line stands. DESIGN CHOICE: the low bits of its number (R287 names no index; log entry 110). -/
def setOf (la : Nat) : Nat := la / 128 % 1024

/-- Device memory: control blocks and OPM windows. -/
def Range.isDevice : Range → Bool
  | .control | .opm => true
  | _ => false

/-! ## The metadata word (R312, R313) -/

/-- HST. -/
def hst (w : BitVec 32) : Nat := (w.extractLsb' 0 3).toNat
/-- OWN. -/
def own (w : BitVec 32) : BitVec 6 := w.extractLsb' 3 6
/-- SHR. -/
def shr (w : BitVec 32) : BitVec 16 := w.extractLsb' 9 16
/-- CMP = 01. -/
def compressed (w : BitVec 32) : Bool := w.getLsbD 25
/-- PSN. -/
def psn (w : BitVec 32) : Bool := w.getLsbD 27

/-- The word is valid (R313). -/
def metaValid (w : BitVec 32) : Bool :=
  hst w ≤ 4 && !w.getLsbD 26 && w.extractLsb' 28 4 == 0 && (own w == 0 || 2 ≤ hst w)

/-- The word with a new home state, owner and sharers. -/
def wordState (w : BitVec 32) (h : BitVec 3) (o : BitVec 6) (sh : BitVec 16) : BitVec 32 :=
  w.extractLsb' 25 7 ++ sh ++ o ++ h

/-- The word with its CMP field. -/
def wordForm (w : BitVec 32) (c : Bool) : BitVec 32 := w.extractLsb' 27 5 ++ (if c then 1#2 else 0#2) ++ w.extractLsb' 0 25

/-- The word with its PSN bit. -/
def wordPoison (w : BitVec 32) (p : Bool) : BitVec 32 := w.extractLsb' 28 4 ++ bit p ++ w.extractLsb' 0 27

/-- The metadata word of a local line. -/
def State.metaWord (s : State) (l : Nat) : BitVec 32 := Sparse.at 0 s.metaWords l

/-- The lines of a memory-side cache's list that its channel `ch` has room for: a compressed line takes one sector, a raw one two;
other channels' lines stay. -/
def mscKeep (cost : Nat → Nat) (ch : Nat) : Nat → List Nat → List Nat
  | _, [] => []
  | room, l :: r =>
    if channelOf (128 * l) ≠ ch then l :: mscKeep cost ch room r
    else if cost l ≤ room then l :: mscKeep cost ch (room - cost l) r
    else mscKeep cost ch room r

/-- A home line enters its channel's memory-side cache of 16,384 sectors, or is used again (R289). -/
def State.mscTouch (s : State) (l : Nat) : State :=
  { s with msc := mscKeep (fun k => if compressed (s.metaWord k) then 1 else 2) (channelOf (128 * l)) 16384 (l :: s.msc.filter (· != l)) }

/-- The state with a metadata word written, to the memory-side cache (R315). -/
def State.setMeta (s : State) (l : Nat) (w : BitVec 32) : State :=
  { (s.mscTouch l) with metaWords := if w = 0 then Sparse.drop s.metaWords l else Sparse.put s.metaWords l w }

/-- MEMB has device `d` (Table 25.1). -/
def State.member (s : State) (d : BitVec 6) : Bool := (vget s.fab 1 0).getLsbD d.toNat

/-- The device takes part in the domain. -/
def State.inDomain (s : State) : Bool := (vget s.fab 0 0).getLsbD 8

/-- Every device ID of the domain is 15 or below: SHR bits name single devices (R313). -/
def State.exactShr (s : State) : Bool := (vget s.fab 1 0).extractLsb' 16 48 == 0

/-- The SHR bit of a device. -/
def State.shrBit (s : State) (d : BitVec 6) : BitVec 16 :=
  if s.exactShr then 1#16 <<< d.toNat else 1#16 <<< (d.toNat / 4)

/-- The devices that the sharers cover, but for one; home itself is not one of them. -/
def State.sharers (s : State) (sh : BitVec 16) (but : BitVec 6) : List (BitVec 6) :=
  ((List.range 64).map (BitVec.ofNat 6)).filter fun d =>
    d != s.devId && d != but && s.member d && (sh &&& s.shrBit d) != 0

/-! ## Other devices (R351 to R353) -/

/-- The next devices by which this device reaches another (R353). DESIGN CHOICE: the device itself where system software has named none
(log entry 138). -/
def State.nextOf (s : State) (d : BitVec 6) : List (BitVec 6) := Sparse.at [d] s.routes d.toNat

/-- The link of a port is up and leads to a device; one whose other end has not been named leads to any (log entry 138). -/
def FabricPort.leadsTo (l : FabricPort) (n : BitVec 6) : Bool := l.up && l.peer.all (· == n)

/-- A link towards a next device is up. -/
def State.linkUp (s : State) (n : BitVec 6) : Bool := s.links.toList.any (·.leadsTo n)

/-- A route to a device is up (R353). -/
def State.routeUp (s : State) (d : BitVec 6) : Bool := (s.nextOf d).any s.linkUp

/-- The cause that ends a request to another device before it is sent: 0x92 where MEMB lacks either of them, 0x90 where no route is up
or the target has left the domain (R352, R353, R358). -/
def State.fabricCause (s : State) (d : BitVec 6) : Option (BitVec 8) :=
  if !s.inDomain || !s.member s.devId || !s.member d then some 0x92
  else if s.away.getLsbD d.toNat || !s.routeUp d then some 0x90
  else none

/-- TMO. -/
def State.tmo (s : State) : Nat := ((vget s.fab 0 0).extractLsb' 16 32).toNat

/-- A request of device `y` is one that this device answers: it takes part in the domain, which has `y`, and ALLOW accepts it. -/
def State.admits (s : State) (y : BitVec 6) : Bool := s.inDomain && s.member y && y != s.devId && (vget s.fab 4 0).getLsbD y.toNat

/-! ## Lines held here -/

/-- The slice's copy of a line. -/
def State.sliceLine (s : State) (line : Nat) : Option SliceLine := s.slice.find? fun x => x.line == line

/-- The state of the slice's copy of a line. -/
def State.sliceState (s : State) (line : Nat) : Option SliceState := (s.sliceLine line).map (·.st)

/-- The state without a slice's copy. -/
def State.dropSlice (s : State) (line : Nat) : State := { s with slice := s.slice.filter fun x => x.line != line }

/-- The state with a slice's copy placed or replaced. -/
def State.setSlice (s : State) (x : SliceLine) : State :=
  { s with slice := x :: s.slice.filter fun y => y.line != x.line }

/-- Halfwords of a line, ascending. -/
def halves (d : BitVec 1024) : List (BitVec 16) := (List.range 64).map fun i => d.extractLsb' (16 * i) 16

/-- Nonzero halfwords of a line (R296). -/
def halfwords (d : BitVec 1024) : Nat := ((halves d).filter (· != 0)).length

/-- The line may be stored compressed (R296). -/
def compressible (d : BitVec 1024) : Bool := halfwords d ≤ 28

/-- The sector of a line in compressed form, in the low 64 bytes: the bitmap, then the nonzero halfwords (R296). -/
def packLine (d : BitVec 1024) : BitVec 1024 :=
  let map := (halves d).foldr (fun h acc => 2 * acc + if h = 0 then 0 else 1) 0
  BitVec.ofNat 1024 (map + 2 ^ 64 * ((halves d).filter (· != 0)).foldr (fun h acc => h.toNat + 2 ^ 16 * acc) 0)

/-- Bits set below bit `n` of a bitmap. -/
def bitsBelow (w : BitVec 1024) (n : Nat) : Nat := ((List.range n).filter w.getLsbD).length

/-- A sector expanded (R296). -/
def unpackLine (w : BitVec 1024) : BitVec 1024 :=
  BitVec.ofNat 1024 ((List.range 64).foldr (fun i acc =>
    (if w.getLsbD i then (w.extractLsb' (64 + 16 * bitsBelow w i) 16).toNat else 0) + 2 ^ 16 * acc) 0)

/-- A stored sector is well formed: at most 28 bits of the bitmap set, zero after the halfwords (R296). -/
def sectorOk (w : BitVec 1024) : Bool :=
  bitsBelow w 64 ≤ 28 && w.toNat % 2 ^ 512 / 2 ^ (64 + 16 * bitsBelow w 64) == 0

/-- The line's bytes as DRAM stores them. -/
def State.rawLine (s : State) (l : Nat) : BitVec 1024 := BitVec.ofNat 1024 (s.hbm.num (128 * l) 128)

/-- The line's bytes in DRAM, expanded (R297). -/
def State.dram (s : State) (l : Nat) : BitVec 1024 :=
  if compressed (s.metaWord l) then unpackLine (s.rawLine l) else s.rawLine l

/-- The line's data in its stored form, as fabric transfers of shared data carry it (R297). -/
def State.stored (s : State) (l : Nat) : BitVec 1024 :=
  if compressed (s.metaWord l) then BitVec.ofNat 1024 ((s.rawLine l).toNat % 2 ^ 512) else s.rawLine l

/-- The line's data in DRAM is uncorrectable: an error in it, or a malformed sector; a line already poisoned is read as such. -/
def State.lineBad (s : State) (l : Nat) : Bool :=
  s.dataBad.contains l || (compressed (s.metaWord l) && !psn (s.metaWord l) && !sectorOk (s.rawLine l))

/-- The state with a sector written to DRAM as a line's compressed form. Sector 1 keeps its bytes, which are not read. -/
def State.setSector (s : State) (l : Nat) (w : BitVec 1024) : State :=
  { (s.setMeta l (wordForm (s.metaWord l) true)) with
    hbm := s.hbm.put (128 * l) 64 (w.toNat % 2 ^ 512), dataBad := s.dataBad.filter (· != l) }

/-- The state with a line's bytes in DRAM written, in a stored form. -/
def State.setDram (s : State) (l : Nat) (d : BitVec 1024) (form : Bool) : State :=
  if form then s.setSector l (packLine d)
  else
    { (s.setMeta l (wordForm (s.metaWord l) false)) with
      hbm := s.hbm.put (128 * l) 128 d.toNat, dataBad := s.dataBad.filter (· != l) }

/-- A modified copy of the home slice written to DRAM: the line is poisoned where the copy is (R320). -/
def State.writeBack (s : State) (x : SliceLine) : State :=
  let l := localLine x.line
  let s := s.setDram l x.data false
  s.setMeta l (wordPoison (s.metaWord l) x.poison)

/-- Home finds uncorrectable data: the line is poisoned (R291, R320). -/
def State.settleData (s : State) (l : Nat) : State :=
  if s.lineBad l then
    { (s.setMeta l (wordPoison (s.metaWord l) true)) with dataBad := s.dataBad.filter (· != l) }
  else s

/-- Bytes placed in a line's data at an offset. -/
def pokeLine (d : BitVec 1024) (off : Nat) (bytes : List (BitVec 8)) : BitVec 1024 :=
  let m := (2 ^ (8 * bytes.length) - 1) * 2 ^ (8 * off)
  BitVec.ofNat 1024 ((d.toNat &&& (2 ^ 1024 - 1 - m)) ||| (leNat bytes * 2 ^ (8 * off)))

/-- Bytes of a line's data. -/
def peekLine (d : BitVec 1024) (off n : Nat) : List (BitVec 8) := leBytes n (d.toNat / 2 ^ (8 * off))

/-! ## The monitor's watch (R68) -/

/-- A bank's monitor told of an event on a line: TRIG, or the line noted while the watch has not started (R332). -/
def Bank.monTouch (b : Bank) (line : Nat) : Bank :=
  if !b.monaddr.getLsbD 0 then b
  else if b.monLine = some line then { b with monaddr := b.monaddr ||| 2 }
  else if b.monLine.isNone then { b with monSeen := if b.monSeen.contains line then b.monSeen else line :: b.monSeen }
  else b

/-- Both banks of a core told. -/
def Core.monTouch (c : Core) (line : Nat) : Core :=
  { c with bankA := c.bankA.monTouch line, bankB := c.bankB.monTouch line }

/-- Every monitor of the device told of a write, invalidation, recall, eviction or grant of a line (R68, R332). -/
def State.monTouch (s : State) (line : Nat) : State :=
  { s with core := s.core.monTouch line, others := s.others.map fun p => (p.1, p.2.monTouch line) }

/-! ## Messages -/

/-- The state with a message sent. -/
def State.send (s : State) (m : OutMsg) : State := { s with sent := s.sent ++ [m] }

/-- An entry of the error log written (R379). -/
def State.logError (s : State) (kind unit : BitVec 8) (index : BitVec 16) (at_ : BitVec 64) : State :=
  { s with log := ⟨s.logCnt, kind, unit, index, at_, s.ptpNs⟩ :: s.log.take 4095, logCnt := s.logCnt + 1 }

/-- The port of a range: a CXL port, or the host port that HWPORT names for the ASID (R369). -/
def State.portOf (s : State) (r : Range) (asid : BitVec 8) : Port :=
  match r with
  | .cxl false => .cxl2
  | .cxl true => .cxl3
  | _ => if s.hwport.getLsbD asid.toNat then .p1 else .p0

/-- The state with bytes written in the CXL tier or, through a host port, in host memory. -/
def State.setTier (s : State) (r : Range) (port : Port) (la : Nat) (bytes : List (BitVec 8)) : State :=
  match r with
  | .host =>
    ({ s with hostMem := s.hostMem.store (la % 2 ^ 44) bytes }).send
      (.hostWrite (if port = Port.p1 then 1 else 0) (la % 2 ^ 44) bytes)
  | _ => { s with tierMem := s.tierMem.store la bytes }

/-- The poison of a line of the CXL tier or of host memory. -/
def State.poisonTier (s : State) (l : Nat) (p : Bool) : State :=
  { s with tierPoison := (s.tierPoison.filter (· != l)) ++ if p then [l] else [] }

/-! ## What a slice holds (R287, R314) -/

/-- The data that home holds: the home slice's copy, else DRAM; with its poison. -/
def State.homeData (s : State) (line : Nat) : BitVec 1024 × Bool :=
  match s.sliceLine line with
  | some x => (x.data, x.poison)
  | none => (s.dram (localLine line), psn (s.metaWord (localLine line)))

/-- Two lines stand in the same set of the same slice. -/
def sameSet (a b : Nat) : Bool :=
  sliceOf (localOf (128 * a)) == sliceOf (localOf (128 * b)) && setOf (localOf (128 * a)) == setOf (localOf (128 * b))

/-- A request has neither an answer nor a cause. -/
def Request.open_ (r : Request) : Bool := r.answer.isNone && r.failed.isNone

/-- An open request for a copy of a line, to be placed in its slice. -/
def Request.wanting (r : Request) : Bool :=
  r.open_ && (r.kind == .shared || r.kind == .own || r.kind == .upgrade || r.kind == .full)

/-- An Upg for a line is outstanding. -/
def State.upgrading (s : State) (line : Nat) : Bool := s.requests.any fun r => r.wanting && r.kind == .upgrade && r.line == line

/-- A dirty line of the CXL tier or of the host window written through its port (R288), that of the ASID which last accessed it (R369).
DESIGN CHOICE: through a port whose link is down nothing is written; a copy that is given up there is lost, and the line bad (log entry
139). -/
def tierWriteBack (x : SliceLine) (drop : Bool) (s : State) : State :=
  let la := localOf (128 * x.line)
  let r := rangeOf la
  let l := localLine x.line
  if s.portDown.contains (s.portOf r x.asid) then
    if drop then { s with tierBad := l :: s.tierBad.filter (· != l) } else s
  else
    ((s.setTier r (s.portOf r x.asid) la (peekLine x.data 0 128)).poisonTier l x.poison).setSlice { x with st := .tierC }

/-- A line modified in this device's slice written to its home and kept clean, or dropped (R273, R314); an S copy stays while an Upg is
outstanding. -/
def cleanLine (line : Nat) (drop : Bool) (s : State) : State :=
  let home := devOf (128 * line)
  let settle (s : State) : State := if drop then (s.dropSlice line).monTouch line else s
  match s.sliceLine line with
  | none => s
  | some x =>
    match x.st with
    | .d => settle ((s.writeBack x).setSlice { x with st := .c })
    | .m | .o =>
      settle ((s.setSlice { x with st := if x.st = .m then .e else .s }).send (.wbd home line (!drop) false x.poison x.data))
    | .e => if drop then settle (s.send (.evc home line)) else s
    | .tierD => settle (tierWriteBack x drop s)
    | .s => if s.upgrading line then s else settle s
    | _ => settle s

/-- A slice gives up a line (R288, R314). -/
def evictLine (line : Nat) (s : State) : State := cleanLine line true s

/-- The lines that stand in a line's set of its slice, the line itself apart. -/
def State.setMates (s : State) (line : Nat) : List SliceLine := s.slice.filter fun y => y.line != line && sameSet y.line line

/-- A set of 16 ways that is full gives up a line, openly chosen among those that an Upg does not hold (R287, R314); fewer than 16 can
be so held (`State.mayWant`). -/
def makeRoom (line : Nat) (s : State) : State :=
  let m := s.setMates line
  if m.length < 16 then s
  else
    let free := m.filter fun y => !(y.st == .s && s.upgrading y.line)
    let (k, s) := s.choose free.length
    match free[k]?, m with
    | some y, _ => evictLine y.line s
    | none, y :: _ => s.dropSlice y.line
    | none, [] => s

/-- A line allocated in its slice (R287). -/
def State.fillSlice (s : State) (x : SliceLine) : State := (makeRoom x.line s).setSlice x

/-- Bytes written at home to a line that no other device holds: an uncached write, or a full-line compressing store (`z`). DRAM takes
them, or the home slice where it holds the line modified; a full line clears poison (R298, R317, R318, R320). -/
def State.homeStore (s : State) (line off : Nat) (bytes : List (BitVec 8)) (z : Bool) : State :=
  let l := localLine line
  let full := bytes.length == 128
  let d := pokeLine (s.homeData line).1 off bytes
  let p := (s.homeData line).2 && !full
  let drammed (s : State) : State :=
    let s := s.setDram l d (z && full && compressible d)
    s.setMeta l (wordPoison (s.metaWord l) p)
  match s.sliceLine line with
  | some x =>
    if x.st == .d && !(z && full) then (s.setSlice { x with data := d, poison := p }).monTouch line
    else ((drammed s).setSlice { x with data := d, poison := p, st := .c }).monTouch line
  | none => (drammed s).monTouch line

/-! ## Replies and requests -/

/-- What an attempt at a line answers: its data and poison, or not yet, or the cause that ends the access with DETAIL0 and
DETAIL1 where the cause has its own (Table 21.5). -/
inductive Reply where
  | ready (data : BitVec 1024) (poison : Bool)
  | wait
  | fail (cause : BitVec 8) (detail : Option (BitVec 64 × BitVec 64))
  deriving DecidableEq, Repr

/-- The request of a kind outstanding on someone's behalf for a line or address. -/
def State.request (s : State) (k : ReqKind) (who : Asker) (line : Nat) : Option Request :=
  s.requests.find? fun r => r.kind == k && r.who == who && r.line == line

/-- The state without that request. -/
def State.dropRequest (s : State) (k : ReqKind) (who : Asker) (line : Nat) : State :=
  { s with requests := s.requests.filter fun r => !(r.kind == k && r.who == who && r.line == line) }

/-- The state without any request on someone's behalf: what is answered to one that has ended is dropped. -/
def State.dropAsker (s : State) (who : Asker) : State := { s with requests := s.requests.filter fun r => r.who != who }

/-- The request writes. -/
def Request.stores (r : Request) : Bool := r.kind == .writeOnce || r.kind == .full || r.kind == .home true

/-- The state without the reads asked for on someone's behalf. -/
def State.dropReads (s : State) (who : Asker) : State :=
  { s with requests := s.requests.filter fun r => r.who != who || r.stores }

/-- A write on someone's behalf is under way. -/
def State.storing (s : State) (who : Asker) : Bool := s.requests.any fun r => r.who == who && r.stores

/-- What a request has come to: a failed one answers its cause, with DETAIL1 where it has kept one; an answered one what it brought; both
are then done. -/
def Request.reply (r : Request) (s : State) : Reply × State :=
  match r.failed, r.answer with
  | some c, some (d, _) => (.fail c (some (BitVec.ofNat 64 (128 * r.line), d.setWidth 64)), s.dropRequest r.kind r.who r.line)
  | some c, none => (.fail c none, s.dropRequest r.kind r.who r.line)
  | none, some (d, p) => (.ready d p, s.dropRequest r.kind r.who r.line)
  | none, none => (.wait, s)

/-- The state with a request outstanding from now on, under the TMO it meets (R351). -/
def State.awaits (s : State) (k : ReqKind) (who : Asker) (line : Nat) (dst : BitVec 6) (store : Option (BitVec 1024 × Bool)) : State :=
  { s with requests := s.requests ++ [Request.mk k who line dst (s.tick + s.tmo) none store none none] }

/-- A request to a device on someone's behalf: its message sent once, then waited for. -/
def ask (k : ReqKind) (who : Asker) (line : Nat) (dst : BitVec 6) (m : OutMsg) (s : State) : Reply × State :=
  match s.request k who line with
  | some r => r.reply s
  | none =>
    match s.fabricCause dst with
    | some c => (.fail c none, s)
    | none => (.wait, (s.awaits k who line dst none).send m)

/-- A copy of a line may be asked for: no other request for one is open, and fewer than 15 are in its set, so that every set keeps a
way to give up (R287, R314). -/
def State.mayWant (s : State) (line : Nat) : Bool :=
  s.requests.all (fun r => !(r.wanting && r.line == line)) &&
    (s.requests.filter fun r => r.wanting && sameSet r.line line).length < 15

/-- A copy of a line asked of its home; `store` is the data of a line to be written whole once it is owned. -/
def want (k : ReqKind) (who : Asker) (line : Nat) (m : OutMsg) (store : Option (BitVec 1024 × Bool)) (s : State) : Reply × State :=
  match s.request k who line with
  | some r => r.reply s
  | none =>
    if !s.mayWant line then (.wait, s)
    else
      match s.fabricCause (devOf (128 * line)) with
      | some c => (.fail c none, s)
      | none => (.wait, (s.awaits k who line (devOf (128 * line)) store).send m)

/-! ## An access at home in its turn (R315, R329) -/

/-- What an atomic writes (R330): old value, operand and compare value of `n` bytes. -/
def atomicNew (op n old opd cmp : Nat) : Nat :=
  let m := 2 ^ (8 * n)
  let o := opd % m
  match op with
  | 0x44 => (old + o) % m
  | 0x45 => old &&& o
  | 0x46 => old ||| o
  | 0x47 => old ^^^ o
  | 0x48 => if signedNat (8 * n) o < signedNat (8 * n) old then o else old
  | 0x49 => if signedNat (8 * n) old < signedNat (8 * n) o then o else old
  | 0x4A => o
  | _ => if old = cmp % m then o else old

/-- The line's metadata word is uncorrectable or invalid (R321). -/
def State.metaError (s : State) (l : Nat) : Bool := s.metaBad.contains l || !metaValid (s.metaWord l)

/-- The reply of a metadata error (R321, Table 21.5). -/
def metaFail (s : State) (cause : BitVec 8) (line : Nat) : Reply :=
  let l := localLine line
  .fail cause (some (BitVec.ofNat 64 (128 * line),
    if s.metaBad.contains l then 0x00000001FFFFFFFF else (s.metaWord l).setWidth 64))

/-- A metadata error marks the line poisoned in the memory-side cache and is reported to firmware, once, which rebuilds the line
(R321, R379: the log entry's INDEX is the stack). -/
def State.reportMeta (s : State) (line : Nat) : State :=
  let l := localLine line
  if s.metaTold.contains l then s
  else
    ({ (s.setMeta l (wordPoison (s.metaWord l) true)) with metaTold := l :: s.metaTold }).logError 2 0
      (BitVec.ofNat 16 (stackOf (128 * l))) (BitVec.ofNat 64 (128 * line))

/-- The operation writes the line. -/
def HomeOp.writes : HomeOp → Bool
  | .read | .word | .scan => false
  | _ => true

/-- The home slice serves the operation: any copy a read, a modified one every access but that of the metadata word. -/
def HomeOp.hits (op : HomeOp) (st : Option SliceState) : Bool :=
  match op, st with
  | .word, _ => false
  | .read, some _ => true
  | _, some .d => true
  | _, _ => false

/-- The operation needs an answer of other devices first: a read where one of them owns the line, a scan in home state E, a write where
any holds it (Table 21.4, R295). -/
def HomeOp.calls (op : HomeOp) (w : BitVec 32) : Bool :=
  match op with
  | .word => false
  | .read => 2 ≤ hst w
  | .scan => hst w == 2
  | _ => hst w != 0

/-- Home does what an access asks of a line, whose other copies allow it: its data and poison before the access. In home state M or O
a scan gets none (cause 0). -/
def homeAct (line : Nat) (op : HomeOp) (fill : Bool) (s : State) : Reply × State :=
  let l := localLine line
  let w := s.metaWord l
  let isD := (s.sliceLine line).any (·.st == .d)
  let d := (s.homeData line).1
  let p := (s.homeData line).2
  let own (s : State) : State := if fill && !isD then s.fillSlice ⟨line, .d, d, p, 0⟩ else s
  match op with
  | .word => (.ready (w.setWidth 1024) false, s)
  | .read =>
    (.ready d p,
      if (s.sliceLine line).isSome then s
      else if fill then (s.mscTouch l).fillSlice ⟨line, .c, d, p, 0⟩
      else s.mscTouch l)
  | .scan =>
    if isD then (.ready d p, s)
    else if 3 ≤ hst w then (.fail 0 none, s)
    else (.ready (s.dram l) (psn w), s)
  | .write off bytes z => (.ready d p, (own s).homeStore line off bytes z)
  | .atomic op off n opd cmp =>
    if p then (.ready d p, s)
    else (.ready d p, (own s).homeStore line off (leBytes n (atomicNew op n (leNat (peekLine d off n)) opd cmp)) false)
  | .mark off clear set =>
    let e := BitVec.ofNat 64 (leNat (peekLine d off 8))
    (.ready d p, s.homeStore line off (leBytes 8 ((e &&& ~~~clear) ||| set).toNat) false)
  | .zip =>
    if (compressed w && !isD) || !compressible d then (.ready d p, s)
    else (.ready d p, (own s).homeStore line 0 (peekLine d 0 128) true)

/-- Home serves an access: a metadata error refuses it; uncorrectable data that it reads poisons the line and ends a read, an atomic, a
scan or a CZIP with 0x82 (R291, R320, R321). -/
def homeServe (line : Nat) (op : HomeOp) (fill : Bool) (s : State) : Reply × State :=
  let l := localLine line
  let dram : Bool := match op with
    | .word => false
    | .scan => !(s.sliceLine line).any (·.st == .d) && hst (s.metaWord l) < 3
    | _ => (s.sliceLine line).isNone
  if s.metaError l then (metaFail s (if op.writes then 0x80 else 0x81) line, s.reportMeta line)
  else if dram && s.lineBad l then
    match op with
    | .write .. | .mark .. => homeAct line op fill (s.settleData l)
    | _ => (.fail 0x82 (some (BitVec.ofNat 64 (128 * line), 0)), s.settleData l)
  else homeAct line op fill s

/-- The answer of an access at home kept for the one that asked. -/
def State.answerHome (s : State) (k : ReqKind) (who : Asker) (line : Nat) (r : Reply) : State :=
  { s with requests := s.requests.map fun q =>
      if q.kind == k && q.who == who && q.line == line then
        match r with
        | .ready d p => { q with answer := some (d, p) }
        | .fail c d => { q with failed := some c, answer := d.map fun d => (d.2.setWidth 1024, false) }
        | .wait => q
      else q }

/-! ## Home transactions (R315, R317) -/

/-- The requesting device of a transaction: this one for its own accesses. -/
def HomeEvent.requester (e : HomeEvent) (here : BitVec 6) : BitVec 6 :=
  match e with
  | .rds y | .rdx y _ | .upg y | .uncachedRead y | .uncachedWrite y _ _ _ | .metaRead y => y
  | _ => here

/-- The transaction leaves the copies of sharers as they are (Table 21.4). -/
def HomeEvent.reads : HomeEvent → Bool
  | .rds _ | .localRead | .uncachedRead _ => true
  | .own _ _ op _ => !op.writes
  | _ => false

/-- The messages with which a transaction begins (Table 21.4): devices that get an Inv, and the owner's Recall with K and
FWD. "Inv all" excepts the requester alone. -/
def txMessages (s : State) (t : HomeTx) : List (BitVec 6) × Option (BitVec 6 × Bool × Option (BitVec 6)) :=
  let w := s.metaWord (localLine t.line)
  let owned := 2 ≤ hst w
  let sharedToo := hst w = 1 ∨ hst w = 4
  let invs (but : BitVec 6) := if sharedToo then s.sharers (shr w) but else []
  let call (k : Bool) (f : Option (BitVec 6)) := if owned then some (own w, k, f) else none
  let exact (y : BitVec 6) := sharedToo && s.exactShr && (shr w &&& s.shrBit y) != 0
  match t.event with
  | .rds y => ([], call true (some y))
  | .rdx y full => (invs y, call false (if full then none else some y))
  | .upg y => (invs y, call false (if exact y then none else some y))
  | .localRead | .uncachedRead _ => ([], call true none)
  | .localWrite | .uncachedWrite _ _ _ _ => (invs s.devId, call false none)
  | .own _ _ op _ => if !op.calls w then ([], none) else if op.writes then (invs s.devId, call false none) else ([], call true none)
  | .metaRead _ | .rebuild => ([], none)

/-- Dirty data that the owner returned, written to DRAM raw; it is not poisoned, since a poisoned copy comes back by WbD (log entry
140). -/
def absorb (s : State) (t : HomeTx) : State :=
  match t.dirty, t.data with
  | true, some d =>
    let s := s.setDram (localLine t.line) d false
    s.setMeta (localLine t.line) (wordPoison (s.metaWord (localLine t.line)) false)
  | _, _ => s

/-- Home reads the line's data from DRAM. -/
def State.readDram (s : State) (line : Nat) : State := if (s.sliceLine line).isNone then s.settleData (localLine line) else s

/-- A transaction that takes the line for this device: returned data stands in the home slice (`fill`), or in DRAM; no other device
holds the line. -/
def takeLine (t : HomeTx) (fill : Bool) (s : State) : State :=
  let l := localLine t.line
  let free (s : State) : State := s.setMeta l (wordState (s.metaWord l) 0 0 0)
  if !fill then free (absorb s t)
  else
    match t.dirty, t.data with
    | true, some d => (free s).fillSlice ⟨t.line, .d, d, false, 0⟩
    | _, _ => free s

/-- A transaction that downgrades the owner: returned data stands in DRAM, and the owner is a sharer. -/
def shareLine (t : HomeTx) (s : State) : State :=
  let l := localLine t.line
  let s := absorb s t
  let w := s.metaWord l
  if 2 ≤ hst w then s.setMeta l (wordState w 1 0 (shr w ||| s.shrBit (own w))) else s

/-- RdX, and an Upg that acts as it (Table 21.4); from E, M and O the owner has sent the data. -/
def grantOwn (t : HomeTx) (y : BitVec 6) (s : State) : State :=
  let l := localLine t.line
  match hst (s.metaWord l) with
  | 0 | 1 =>
    let s := s.readDram t.line
    let isD := (s.sliceLine t.line).any (·.st == .d)
    let d := s.homeData t.line
    (((s.dropSlice t.line).setMeta l (wordState (s.metaWord l) (if isD then 3 else 2) y 0)).send
      (.dat y t.line (if isD then .m else .e) d.2 false d.1)).monTouch t.line
  | h => (s.setMeta l (wordState (s.metaWord l) (if h = 4 || t.dirty then 3 else 2) y 0)).monTouch t.line

/-- RdS (Table 21.4); from E, M and O the owner has sent the data. -/
def grantShared (t : HomeTx) (y : BitVec 6) (s : State) : State :=
  let l := localLine t.line
  let stored (sh : BitVec 16) (s : State) : State :=
    let s := s.settleData l
    let s := s.setMeta l (wordState (s.metaWord l) 1 0 sh)
    s.send (.dat y t.line .s (psn (s.metaWord l)) (compressed (s.metaWord l)) (s.stored l))
  let w := s.metaWord l
  match hst w with
  | 0 =>
    match s.sliceLine t.line with
    | none => grantOwn t y s
    | some c => stored (s.shrBit y) (if c.st == .d then (s.writeBack c).setSlice { c with st := .c } else s)
  | 1 => stored (shr w ||| s.shrBit y) s
  | _ =>
    if t.dirty then s.setMeta l (wordState w 4 (own w) (shr w ||| s.shrBit y))
    else s.setMeta l (wordState w 1 0 (shr w ||| s.shrBit (own w) ||| s.shrBit y))

/-- Ends a transaction whose answers have come: the new word, data, and what the requester receives (Table 21.4). Where the owner gave
none, the line is nobody's and poisoned, and a requester receives it so (R322). -/
def finishTx (t : HomeTx) (s : State) : State :=
  let l := localLine t.line
  let s := { s with homeTx := s.homeTx.eraseP fun u => u.line == t.line }
  let s := if t.dead then s.setMeta l (wordPoison (wordState (s.metaWord l) 0 0 0) true) else s
  let w := s.metaWord l
  match t.event with
  | .rds y => grantShared t y s
  | .rdx y true =>
    (((s.dropSlice t.line).setMeta l (wordState w 3 y 0)).send
      (if t.dead then .dat y t.line .m true false (s.dram l) else .cmp y t.line .m)).monTouch t.line
  | .rdx y false => grantOwn t y s
  | .upg y =>
    if (hst w = 1 ∨ hst w = 4) ∧ s.exactShr ∧ (shr w &&& s.shrBit y) ≠ 0 then
      (((s.dropSlice t.line).setMeta l (wordState w (if hst w = 1 then 2 else 3) y 0)).send
        (.cmp y t.line (if hst w = 1 then .e else .m))).monTouch t.line
    else grantOwn t y s
  | .localRead => (homeServe t.line .read true (shareLine t s)).2
  | .localWrite =>
    let s := (takeLine t true s).readDram t.line
    (if (s.sliceLine t.line).any (·.st == .d) then s
      else s.fillSlice ⟨t.line, .d, (s.homeData t.line).1, (s.homeData t.line).2, 0⟩).monTouch t.line
  | .own k who op fill =>
    let s := if !op.calls w then s else if op.writes then takeLine t fill s else shareLine t s
    let r := homeServe t.line op fill s
    r.2.answerHome k who t.line r.1
  | .uncachedRead y =>
    let s := (shareLine t s).readDram t.line
    s.send (.uncachedData y t.line (s.homeData t.line).2 (s.homeData t.line).1)
  | .uncachedWrite y a bytes z =>
    let s := (takeLine t false s).readDram t.line
    if y = s.devId then s
    else if bytes.isEmpty && z then (homeAct t.line .zip false s).2
    else s.homeStore t.line (a % 128) bytes z
  | .metaRead y => s.send (.metaData y t.line (some w))
  | .rebuild =>
    let back : Option (BitVec 1024) := match s.sliceLine t.line, t.data with
      | some c, none => if c.st = SliceState.d then some c.data else none
      | _, e => e
    let s := { (s.dropSlice t.line) with metaBad := s.metaBad.filter (· != l), metaTold := s.metaTold.filter (· != l) }
    match back with
    | some e => ((s.setDram l e false).setMeta l 0).monTouch t.line
    | none => (s.setMeta l 0x08000000).monTouch t.line

/-- A transaction of a line replaced. -/
def State.setTx (s : State) (t t' : HomeTx) : State := { s with homeTx := s.homeTx.map fun u => if u = t then t' else u }

/-- A transaction begins: its Invs are sent and its Recall; a Recall whose answer grants the line to the requester waits until every Inv
is answered (R317, R324). A holder that cannot be reached is passed over: its copy is as dropped (R322), and where it is the owner the
sharers leave the line too (R313). None where nothing must be asked. -/
def startTx (t : HomeTx) (s : State) : Option HomeTx × State :=
  let w := s.metaWord (localLine t.line)
  let up (d : BitVec 6) : Bool := (s.fabricCause d).isNone
  let m := txMessages s t
  let dead := m.2.any fun x => !up x.1
  let all := if dead && hst w == 4 && t.event.reads then s.sharers (shr w) (t.event.requester s.devId) else m.1
  let invs := all.filter up
  let call := m.2.filter fun x => up x.1
  let later := !invs.isEmpty && call.any fun x => !x.2.1 && x.2.2.isSome
  if invs.isEmpty && call.isNone then (none, { s with homeTx := s.homeTx.map fun u => if u = t then { t with dead := dead } else u })
  else
    let t' : HomeTx := { t with
      invs := invs, call := if later then call else none, owes := if later then none else call.map (·.1), dirty := false, data := none,
      dead := dead, active := true, due := s.tick + s.tmo }
    let s := invs.foldl (fun s d => s.send (.inv d t.line)) (s.setTx t t')
    match later, call with
    | false, some (o, k, f) => (some t', s.send (.recall o t.line k f))
    | _, _ => (some t', s)

/-- Home takes the line's next transaction: it begins when none is under way, and ends at once when nothing must be asked. On a metadata
error an access of this device fails and the read of the word finds it uncorrectable; a request of another device is held until the
rebuild, which is asked for (R315, R321). -/
def pumpLine (line : Nat) : Nat → State → State
  | 0, s => s
  | k + 1, s =>
    match s.homeTx.find? fun t => t.line == line with
    | none => s
    | some t =>
      let next (s : State) : State := { s with homeTx := s.homeTx.eraseP fun u => u.line == line }
      if t.active then s
      else if s.metaError (localLine line) && t.event != .rebuild then
        match t.event with
        | .own kind who op fill =>
          let r := homeServe line op fill (next s)
          pumpLine line k (r.2.answerHome kind who line r.1)
        | .metaRead y => pumpLine line k (((next s).reportMeta line).send (.metaData y line none))
        | _ => s.reportMeta line
      else
        match startTx t s with
        | (some _, s) => s
        | (none, s) =>
          match s.homeTx.find? fun t => t.line == line with
          | some t => pumpLine line k (finishTx t s)
          | none => s

/-- Runs a line's queue. -/
def State.pump (s : State) (line : Nat) : State := pumpLine line (s.homeTx.length + 1) s

/-- A transaction joins the line's queue (R315). -/
def State.enqueueTx (s : State) (line : Nat) (e : HomeEvent) : State :=
  ({ s with homeTx := s.homeTx ++ [HomeTx.mk line e [] none none false none false false 0] }).pump line

/-- A transaction for the line is queued or under way. -/
def State.txBusy (s : State) (line : Nat) : Bool := s.homeTx.any fun t => t.line == line

/-- The transaction goes on: once every Inv is answered its Recall is sent, and once all have answered it ends, and the next begins. -/
def settleTx (t : HomeTx) (s : State) : State :=
  if !t.invs.isEmpty || t.owes.isSome then s
  else
    match t.call with
    | some (o, k, f) =>
      if (s.fabricCause o).isNone then
        (s.setTx t { t with call := none, owes := some o, due := s.tick + s.tmo }).send (.recall o t.line k f)
      else (finishTx { t with dead := true } s).pump t.line
    | none => (finishTx t s).pump t.line

/-- A holder that owes a transaction an answer gives none (R322): its copy is as dropped; where it is the owner, the line is lost, and
sharers that the transaction has left alone leave it (R313). -/
def abandon (t : HomeTx) (d : BitVec 6) (s : State) : State :=
  if t.owes = some d then
    let w := s.metaWord (localLine t.line)
    let invs := if hst w == 4 && t.event.reads then
        (s.sharers (shr w) (t.event.requester s.devId)).filter fun x => x != d && (s.fabricCause x).isNone else []
    let t' : HomeTx := { t with owes := none, dead := true, invs := invs, due := s.tick + s.tmo }
    settleTx t' (invs.foldl (fun s x => s.send (.inv x t.line)) (s.setTx t t'))
  else
    let t' : HomeTx := { t with invs := t.invs.filter (· != d) }
    settleTx t' (s.setTx t t')

/-! ## Reading and writing a line -/

/-- An access of this device to a line of its own HBM (R315, R329): served by the home slice, or at once where the line's queue is empty
and no other device's copy stands in the way; else it joins the queue, and is done in its turn. -/
def homeAccess (k : ReqKind) (who : Asker) (line : Nat) (op : HomeOp) (fill : Bool) (s : State) : Reply × State :=
  match s.request k who line with
  | some r => r.reply s
  | none =>
    if op.hits (s.sliceState line) then homeAct line op fill s
    else if !s.txBusy line && (s.metaError (localLine line) || !op.calls (s.metaWord (localLine line))) then homeServe line op fill s
    else
      let s := (s.awaits k who line s.devId none).enqueueTx line (.own k who op fill)
      match s.request k who line with
      | some r => r.reply s
      | none => (.wait, s)

/-- The cause of a failure at a range's port: 0x83 for the CXL tier, 0x84 for the host window (R369, R370). -/
def portCause : Range → BitVec 8
  | .host => 0x84
  | _ => 0x83

/-- The line's bytes in the CXL tier or in host memory. -/
def State.tierData (s : State) (r : Range) (l : Nat) : BitVec 1024 :=
  match r with
  | .host => BitVec.ofNat 1024 (s.hostMem.num (128 * l % 2 ^ 44) 128)
  | _ => BitVec.ofNat 1024 (s.tierMem.num (128 * l) 128)

/-- A transfer through a port: one request, answered at a later attempt, unless the port fails it (R369, R370). -/
def askPort (r : Range) (line : Nat) (asid : BitVec 8) (s : State) : Reply × State :=
  let p := s.portOf r asid
  match s.request .port .slice line with
  | some q =>
    let s := s.dropRequest .port .slice line
    if q.failed.isSome || s.portDown.contains p then (.fail (portCause r) none, s)
    else if s.tierBad.contains (localLine line) then (.fail (portCause r) none, s)
    else (.ready (s.tierData r (localLine line)) (s.tierPoison.contains (localLine line)), s)
  | none =>
    if s.portDown.contains p then (.fail (portCause r) none, s)
    else (.wait, { s with requests := s.requests ++ [Request.mk .port .slice line s.devId (s.tick + s.tmo) (some p) none none none] })

/-- A line of another device's HBM read (R329): the slice's copy, else RdS; uncached, one read at home. -/
def remoteRead (who : Asker) (line : Nat) (cached : Bool) (s : State) : Reply × State :=
  match s.sliceLine line with
  | some x => (.ready x.data x.poison, s)
  | none =>
    let d := devOf (128 * line)
    if cached then want .shared .slice line (.rds d line) none s
    else ask .readOnce who line d (.uncached d (128 * line) none 128 false) s

/-- A line of another device's HBM made writable: held in E or M, else Upg from S, RdX otherwise (R316, R329). -/
def remoteOwn (line : Nat) (s : State) : Reply × State :=
  let d := devOf (128 * line)
  match s.sliceState line with
  | some .e | some .m => (.ready (s.homeData line).1 (s.homeData line).2, s)
  | some .s => want .upgrade .slice line (.upg d line) none s
  | _ => want .own .slice line (.rdx d line false) none s

/-- The slice's writable copy of a line takes bytes; a full line clears poison (R314, R320). -/
def State.pokeSlice (s : State) (line off : Nat) (bytes : List (BitVec 8)) : State :=
  match s.sliceLine line with
  | some x =>
    (s.setSlice { x with
      data := pokeLine x.data off bytes, poison := x.poison && bytes.length != 128,
      st := match x.st with | .e => .m | .tierC => .tierD | st => st }).monTouch line
  | none => s

/-- A line of another device's HBM, which this one owns, written whole: in the slice, or (`z`) at once back to its home, as the sector
of a compressed line where it qualifies (R318). -/
def State.storeWhole (s : State) (line : Nat) (d : BitVec 1024) (z : Bool) : State :=
  if z then
    ((s.dropSlice line).send (.wbd (devOf (128 * line)) line false (compressible d) false (if compressible d then packLine d else d))).monTouch
      line
  else
    match s.sliceLine line with
    | some _ => s.pokeSlice line 0 (peekLine d 0 128)
    | none => (s.fillSlice ⟨line, .m, d, false, 0⟩).monTouch line

/-- A line of another device's HBM written whole (R317, R318): where it is not owned, ownership is asked for without data, and the write
performs when it comes; a copy that is held becomes owned as for any write, unless the line goes back compressed. -/
def remoteStore (who : Asker) (line : Nat) (d : BitVec 1024) (z : Bool) (s : State) : Reply × State :=
  match s.request .full who line with
  | some r => r.reply s
  | none =>
    match s.sliceState line with
    | some .e | some .m => (.ready (s.homeData line).1 (s.homeData line).2, s.storeWhole line d z)
    | some _ =>
      if z then want .full who line (.rdx (devOf (128 * line)) line true) (some (d, z)) s else remoteOwn line s
    | none => want .full who line (.rdx (devOf (128 * line)) line true) (some (d, z)) s

/-- A line of the CXL tier or the host window read: the slice is its sole cache (R288). -/
def tierRead (r : Range) (line : Nat) (cached : Bool) (asid : BitVec 8) (s : State) : Reply × State :=
  match s.sliceLine line with
  | some x => (.ready x.data x.poison, if x.asid = asid then s else s.setSlice { x with asid := asid })
  | none =>
    match askPort r line asid s with
    | (.ready d p, s) => (.ready d p, if cached then s.fillSlice ⟨line, .tierC, d, p, asid⟩ else s)
    | q => q

/-- A line that holds bytes is read at a physical address (R287, R329): the bytes of its whole line. A line of another
device's tier or host window is uncached (R288). -/
def lineRead (who : Asker) (pa : Nat) (ca : BitVec 2) (asid : BitVec 8) (s : State) : Reply × State :=
  let line := lineOf pa
  let r := rangeOf (localOf pa)
  if devOf pa = s.devId then
    match r with
    | .hbm => homeAccess (.home false) who line .read (ca == 0) s
    | _ => tierRead r line (ca == 0) asid s
  else remoteRead who line (ca == 0 && r == .hbm) s

/-- A write of part of a line of the CXL tier meets poison that an expander has returned (R370). -/
def tierFails (r : Range) (poison full : Bool) : Bool := poison && !full && (match r with | .cxl _ => true | _ => false)

/-- Bytes written at a physical address, within one line (R329): `.ready` once the write has performed. -/
def lineWrite (who : Asker) (pa : Nat) (ca : BitVec 2) (asid : BitVec 8) (bytes : List (BitVec 8)) (s : State) : Reply × State :=
  let line := lineOf pa
  let r := rangeOf (localOf pa)
  let off := pa % 128
  let full := bytes.length == 128
  if devOf pa = s.devId then
    match r with
    | .hbm => homeAccess (.home true) who line (.write off bytes false) (ca == 0) s
    | _ =>
      if ca = 0 then
        match tierRead r line true asid s with
        | (.ready d p, s) => if tierFails r p full then (.fail (portCause r) none, s) else (.ready d p, s.pokeSlice line off bytes)
        | q => q
      else
        match askPort r line asid s with
        | (.ready d p, s) =>
          let s := s.setTier r (s.portOf r asid) (localOf pa) bytes
          let s := if full then s.poisonTier (localLine line) false else s
          let s := match s.sliceLine line with
            | some x => s.setSlice { x with data := pokeLine x.data off bytes, poison := x.poison && !full }
            | none => s
          (.ready d p, s.monTouch line)
        | q => q
  else if ca = 0 ∧ r = .hbm then
    if full then remoteStore who line (BitVec.ofNat 1024 (leNat bytes)) false s
    else
      match remoteOwn line s with
      | (.ready d p, s) => (.ready d p, s.pokeSlice line off bytes)
      | q => q
  else ask .writeOnce who pa (devOf pa) (.uncached (devOf pa) pa (some bytes) bytes.length false) s

/-- One atomic read-modify-write in the slice that holds the line (R319, R330): the old data once it has performed; none is done to a
poisoned line. -/
def lineModify (who : Asker) (pa : Nat) (asid : BitVec 8) (op n opd cmp : Nat) (s : State) : Reply × State :=
  let line := lineOf pa
  let r := rangeOf (localOf pa)
  let off := pa % 128
  if devOf pa = s.devId && r == .hbm then homeAccess (.home true) who line (.atomic op off n opd cmp) true s
  else
    match (if devOf pa = s.devId then tierRead r line true asid s else remoteOwn line s) with
    | (.ready d p, s) =>
      if p then (.ready d p, s)
      else (.ready d p, s.pokeSlice line off (leBytes n (atomicNew op n (leNat (peekLine d off n)) opd cmp)))
    | q => q

/-- A request of device `y` for a line is not answered; in the domain it is told so: 0x92 where MEMB lacks it, 0x93 where ALLOW refuses it
(R352). -/
def State.turnAway (s : State) (y : BitVec 6) (line : Nat) : State :=
  if s.inDomain && y != s.devId then s.send (.denied y line (if s.member y then 0x93 else 0x92)) else s

/-- What the slices hold modified of the host window is sent on the host ports (R331, R350). -/
def flushHost (s : State) : State :=
  (s.slice.filter fun x => x.st == .tierD && rangeOf (localOf (128 * x.line)) == .host).foldl
    (fun s x => cleanLine x.line false s) s

/-- A full-line compressing store of a line of HBM (R259, R318, Table 19.5): the line compressed where it qualifies, raw
otherwise. -/
def lineCompress (who : Asker) (pa : Nat) (ca : BitVec 2) (d : BitVec 1024) (s : State) : Reply × State :=
  let line := lineOf pa
  if devOf pa = s.devId then homeAccess (.home true) who line (.write 0 (peekLine d 0 128) true) (ca == 0) s
  else if ca = 0 then remoteStore who line d true s
  else ask .writeOnce who pa (devOf pa) (.uncached (devOf pa) pa (some (peekLine d 0 128)) 128 true) s

end Sys2Proof.Machine
end

