-- ==== Sys2Proof/Machine/Translate.lean ====
section
/-! DEFINITION. Address translation: the walk, the translation cache, page requests (spec/20 R302 to R310). -/
namespace Sys2Proof.Machine

/-- What a translation answers: a physical address with its cacheability and whether its page is discarded; a fault; a
migration mark; not yet, since a table line is on its way; or a cause of Table 20.7 with DETAIL0 and DETAIL1. -/
inductive Walk where
  | leaf (pa : Nat) (ca : BitVec 2) (discarded : Bool)
  | fault | migrating | wait
  | cause (c : BitVec 8) (d0 d1 : BitVec 64)
  deriving DecidableEq, Repr

/-- The lowest address bit that a level's index covers (Table 20.1). -/
def levelShift : Nat → Nat
  | 0 => 42
  | 1 => 30
  | _ => 18

/-- TIER of a range (Table 20.2). -/
def Range.tier : Range → Nat
  | .hbm => 0
  | .cxl _ => 1
  | .host => 2
  | _ => 3

/-- A table address inside this device's HBM. -/
def State.tableOk (s : State) (pa : Nat) : Bool := devOf pa == s.devId && rangeOf (localOf pa) == .hbm

/-- A valid entry is malformed (R303). -/
def State.malformed (s : State) (level : Nat) (e : BitVec 64) : Bool :=
  let frame := (e.extractLsb' 18 34).toNat * 2 ^ 18
  let next := (e.extractLsb' 15 37).toNat * 2 ^ 15
  e.getLsbD 52 ||
    if e.getLsbD 62 then
      e.extractLsb' 60 2 == 3 || rangeOf (localOf frame) == .unassigned ||
        (rangeOf (localOf frame)).tier != (e.extractLsb' 58 2).toNat || frame % 2 ^ levelShift level != 0 ||
        e.extractLsb' 0 18 != 0
    else level == 2 || e.extractLsb' 53 9 != 0 || e.extractLsb' 0 15 != 0 || !s.tableOk next

/-- An entry grants the access asked for (R303). -/
def grants (e : BitVec 64) (rd wr : Bool) : Bool := (!rd || e.getLsbD 54) && (!wr || e.getLsbD 55)

/-- The physical address and cacheability that a leaf gives an address (R282: control and OPM are device memory). -/
def leafOf (level : Nat) (e : BitVec 64) (va : Nat) : Walk :=
  let pa := (e.extractLsb' 18 34).toNat * 2 ^ 18 + va % 2 ^ levelShift level
  .leaf pa (if (rangeOf (localOf pa)).isDevice then 2 else e.extractLsb' 60 2) (e.getLsbD 57)

/-- The walk from a level's table (R302, R303, R306, R307), with the leaf to be cached. -/
def walkFrom (who : Asker) (va : Nat) (rd wr : Bool) (level table : Nat) : Nat → State → Walk × Option (Nat × BitVec 64) × State
  | 0, s => (.fault, none, s)
  | k + 1, s =>
    let pa := table + 8 * (va / 2 ^ levelShift level % 4096)
    match homeAccess .table who (lineOf pa) .read false s with
    | (.wait, s) => (.wait, none, s)
    | (.fail .., s) => (.cause 0x72 (BitVec.ofNat 64 pa) (BitVec.ofNat 64 level), none, s)
    | (.ready _ true, s) => (.cause 0x72 (BitVec.ofNat 64 pa) (BitVec.ofNat 64 level), none, s)
    | (.ready d false, s) =>
      let e := BitVec.ofNat 64 (leNat (peekLine d (pa % 128) 8))
      if !e.getLsbD 63 then (if e.getLsbD 53 then .migrating else .fault, none, s)
      else if s.malformed level e then (.cause 0x71 e (BitVec.ofNat 64 level), none, s)
      else if e.getLsbD 62 then
        if !grants e rd wr || (e.getLsbD 57 && wr) then (.fault, none, s)
        else (leafOf level e va, if e.getLsbD 57 then none else some (level, e), s)
      else walkFrom who va rd wr (level + 1) ((e.extractLsb' 15 37).toNat * 2 ^ 15) k s

/-- A translation-cache entry serves the address with the access asked for (R306). -/
def TlbEntry.serves (t : TlbEntry) (asid : BitVec 8) (va : Nat) (rd wr : Bool) : Bool :=
  (t.asid == asid || t.pte.getLsbD 56) && t.vpn == va / 2 ^ levelShift t.level && grants t.pte rd wr

/-- Word 0x00 of an ASID entry (Table 20.3). -/
def State.asidWord (s : State) (a : BitVec 8) : BitVec 64 := (Sparse.at (0, 0) s.asids a.toNat).1

/-- LIVE of an ASID. -/
def State.asidLive (s : State) (a : BitVec 8) : Bool := (s.asidWord a).getLsbD 63

/-- Physical address of an ASID's tensor table. -/
def State.ttab (s : State) (a : BitVec 8) : Nat := ((Sparse.at (0, 0) s.asids a.toNat).2.extractLsb' 19 33).toNat * 2 ^ 19

/-- The sampled access bit of a translated page (R300): set on one of every 64 translations. -/
def State.sample (s : State) (pa : Nat) : State :=
  let (k, s) := s.choose 64
  if k ≠ 63 ∨ devOf pa ≠ s.devId then s
  else
    let t := (rangeOf (localOf pa)).tier
    let f := localOf pa / 2 ^ 18
    if 2 ≤ t ∨ (vget s.tiers t Tier.reset).access.contains f then s
    else { s with tiers := vset s.tiers t { (vget s.tiers t Tier.reset) with
      access := f :: (vget s.tiers t Tier.reset).access } }

/-- The die of the core in focus, whose translation cache serves it (R8, R306). DESIGN CHOICE: two Collie cores to a die, and the front
end's accesses through the cache of that die too (log entry 111). -/
def State.die (s : State) : BitVec 2 := BitVec.ofNat 2 (if s.coreNo < 128 then s.coreNo / 32 else (s.coreNo - 128) / 2)

/-- The first `n` entries of a die, and every entry of the other dies. -/
def keepDie (die : BitVec 2) : Nat → List TlbEntry → List TlbEntry
  | _, [] => []
  | n, t :: r =>
    if t.die ≠ die then t :: keepDie die n r
    else match n with
      | 0 => keepDie die 0 r
      | k + 1 => t :: keepDie die k r

/-- A leaf enters the translation cache of the die in use, which keeps 8,192 entries (R306). -/
def State.cacheLeaf (s : State) (t : TlbEntry) : State := { s with tlb := keepDie t.die 8192 (t :: s.tlb) }

/-- A walk under an ASID (R304): LIVE, ROOT, then the tables. -/
def walk (who : Asker) (asid : BitVec 8) (va : Nat) (rd wr : Bool) (s : State) : Walk × State :=
  let w := s.asidWord asid
  let root := (w.extractLsb' 15 37).toNat * 2 ^ 15
  if !w.getLsbD 63 then (.cause 0x73 (asid.setWidth 64) 0, s)
  else if !s.tableOk root then (.cause 0x71 w 0xFF, s)
  else
    match walkFrom who va rd wr 0 root 3 s with
    | (.leaf pa ca d, some (l, e), s) =>
      (.leaf pa ca d, (s.sample pa).cacheLeaf ⟨s.die, asid, l, va / 2 ^ levelShift l, e⟩)
    | (r, _, s) => (r, s)

/-- A virtual address translated for an access (R306, R308): by an entry of the die's translation cache or by a walk. -/
def translate (who : Asker) (asid : BitVec 8) (va : Nat) (rd wr : Bool) (s : State) : Walk × State :=
  match s.tlb.find? fun t => t.die == s.die && t.serves asid va rd wr with
  | none => walk who asid va rd wr s
  | some t =>
    let (k, s) := s.choose 2
    if k = 1 then walk who asid va rd wr s
    else
      match leafOf t.level t.pte va with
      | .leaf pa ca d => (.leaf pa ca d, s.sample pa)
      | r => (r, s)

/-- The walks of one asker at migration marks, one of them noted anew, or none where the address is translated. -/
def State.setMark (s : State) (m : Mark) (on : Bool) : State :=
  let rest := s.marks.filter fun q => !(q.who == m.who && q.va == m.va)
  { s with marks := if on then m :: rest else rest }

/-- A virtual address translated for a copy or for the front end: a walk that meets a migration mark is noted, so that the entry is read
again within 16 ticks (R306). -/
def translateMarked (who : Asker) (asid : BitVec 8) (va : Nat) (rd wr : Bool) (s : State) : Walk × State :=
  let m : Mark := ⟨who, asid, va, rd, wr, s.tick⟩
  match translate who asid va rd wr s with
  | (.migrating, s) => (.migrating, s.setMark m true)
  | (.wait, s) => (.wait, s)
  | (w, s) => (w, if s.marks.isEmpty then s else s.setMark m false)

/-! ## Page requests (R309, R310) -/

/-- The host port of an ASID (R369). -/
def State.asidPort (s : State) (a : BitVec 8) : BitVec 1 := if s.hwport.getLsbD a.toNat then 1 else 0

/-- The lowest free tag, within the host's allocation. -/
def State.freeTag (s : State) : Option Nat :=
  (List.range (min 256 s.priAlloc)).find? fun t => s.pageReqs.all fun r => r.tag != t

/-- Requests that wait for a tag are sent, in fault order, while tags are free and no port's capability shows PRI Stopped (R310: no
further request; log entry 112). -/
def pumpPages : Nat → State → State
  | 0, s => s
  | k + 1, s =>
    match s.pageWait, s.freeTag with
    | r :: rest, some t =>
      if s.priStopped ≠ 0 then s
      else
        pumpPages k (({ s with pageWait := rest, pageReqs := s.pageReqs ++ [{ r with tag := t }] }).send
          (.pageRequest (s.asidPort r.asid) t r.asid r.page r.rd r.wr))
    | _, _ => s

/-- The two page-request lists with a waiter joined to a request that already asks for every access it needs. -/
def joinPage (w : Waiter) (asid : BitVec 8) (page : Nat) (rd wr : Bool) : List PageReq → Option (List PageReq)
  | [] => none
  | r :: rs =>
    if r.asid = asid ∧ r.page = page ∧ (r.rd || !rd) ∧ (r.wr || !wr) then some ({ r with waiters := r.waiters ++ [w] } :: rs)
    else (joinPage w asid page rd wr rs).map (r :: ·)

/-- A page asked for by a request of its own (R309, R344). -/
def State.pageAnew (s : State) (w : Waiter) (asid : BitVec 8) (va : Nat) (rd wr : Bool) : State :=
  pumpPages (s.pageWait.length + 1) { s with pageWait := s.pageWait ++ [⟨0, asid, va / 2 ^ 18 * 2 ^ 18, rd, wr, [w]⟩] }

/-- A translation fault: its waiter joins an outstanding request or takes a new tag (R309, R310). -/
def State.pageFault (s : State) (w : Waiter) (asid : BitVec 8) (va : Nat) (rd wr : Bool) : State :=
  let page := va / 2 ^ 18 * 2 ^ 18
  match joinPage w asid page rd wr s.pageReqs with
  | some l => { s with pageReqs := l }
  | none =>
    match joinPage w asid page rd wr s.pageWait with
    | some l => { s with pageWait := l }
    | none => s.pageAnew w asid va rd wr

/-- The waiter waits for a response. -/
def State.waitsOnPage (s : State) (w : Waiter) : Bool := (s.pageReqs ++ s.pageWait).any fun r => r.waiters.contains w

/-- The tag of the request a waiter waits for. -/
def State.tagOf (s : State) (w : Waiter) : Nat :=
  match (s.pageReqs ++ s.pageWait).find? fun r => r.waiters.contains w with | some r => r.tag | none => 0

/-- The state in which a waiter no longer waits for a response. -/
def State.dropWaiter (s : State) (w : Waiter) : State :=
  let f := fun (r : PageReq) => { r with waiters := r.waiters.filter (· != w) }
  { s with pageReqs := s.pageReqs.map f, pageWait := s.pageWait.map f }

end Sys2Proof.Machine
end

