-- ==== Sys2Proof/Machine/Bank.lean ====
section
/-! DEFINITION. The two context banks of a core: the order of a bank's global accesses, the switch on a translation fault and
the switch back (spec/07 R99, R106 to R108; spec/04 R47, R48, R52; spec/19 R283). -/
namespace Sys2Proof.Machine

/-- A bank of a core. -/
def Core.bankOf (c : Core) (isB : Bool) : Bank := if isB then c.bankB else c.bankA

/-- What happens with another core in focus. -/
def State.onCore (s : State) (n : Nat) (f : State → State) : State := (f (s.focus n)).focus s.coreNo

/-! ## The order of a bank's global accesses -/

/-- The global accesses of a bank that have not landed. -/
def Bank.accesses (b : Bank) : List GAccess :=
  (b.tracked.filterMap fun t => match t.kind with | .access a => some a | _ => none) ++ b.posted

/-- Bytes of the two accesses overlap where addresses are compared modulo `m`. -/
def overlapMod (m x n y k : Nat) : Bool := x % m < y % m + k && y % m < x % m + n

/-- A physical address in device memory. -/
def deviceAddr (pa : Nat) : Bool := (rangeOf (localOf pa)).isDevice

/-- An access of device memory: by its range, or by its page (CA = 10; R283, R287). -/
def pagedDevice (pa : Nat) (ca : BitVec 2) : Bool := deviceAddr pa || ca == 2

/-- An earlier access that has not performed stands before a later one: they may name the same location (R52), or they are
device accesses, which perform in order (R283). -/
def GAccess.before (e a : GAccess) : Bool :=
  e.id < a.id && e.kind != .monitor && a.kind != .monitor &&
    match e.phase, a.phase with
    | .done _, _ => false
    | .ready p k, .ready q j => overlapMod (2 ^ 52) p e.n q a.n || (pagedDevice p k && pagedDevice q j)
    | _, .ready q j => overlapMod (2 ^ 18) e.va.toNat e.n a.va.toNat a.n || pagedDevice q j
    | _, _ => overlapMod (2 ^ 18) e.va.toNat e.n a.va.toNat a.n

/-- KIND. -/
def WaitCond.kind (c : WaitCond) : Nat := (c.ctl.extractLsb' 60 4).toNat
/-- IX. -/
def WaitCond.ix (c : WaitCond) : Nat := (c.ctl.extractLsb' 56 4).toNat
/-- The size of a KIND 4 word in bytes. -/
def WaitCond.size (c : WaitCond) : Nat := if c.ctl.getLsbD 56 then 8 else 4
/-- VA. -/
def WaitCond.va (c : WaitCond) : Nat := (c.ctl.extractLsb' 0 54).toNat

/-- The reads of global memory that a REL, ACQ or DRN waits for: loads and atomics, a QPOST, and a WAITV with a KIND 4 condition,
whose word is a global read (R93, R331). -/
def Tracked.isGlobal (t : Tracked) : Bool :=
  match t.kind with
  | .access _ | .qpost .. => true
  | .waitv w => w.conds.any fun c => c.kind == 4
  | _ => false

/-- A word of a WAITV as the access of the task that reads it (R93), translated where an evaluation has translated it. -/
def wordAccess (found : Sparse (Nat × BitVec 2)) (id va n : Nat) : GAccess :=
  ⟨id, .load, 0, BitVec.ofNat 64 va, n, 0, 0, 0, 0, 0, 0,
    match found.find? fun p => p.1 == va with | some p => .ready p.2.1 p.2.2 | none => .walk, 0, 0, 0⟩

/-- The words that the WAITVs of a bank read, in the bank's order of accesses (R52). -/
def Bank.waitReads (b : Bank) : List GAccess :=
  b.tracked.flatMap fun t =>
    match t.kind with
    | .waitv w => (w.conds.filter fun c => c.kind == 4).map fun c => wordAccess w.found w.id c.va c.size
    | _ => []

/-- An access may not perform yet: one of the bank's, or a WAITV's word, stands before it. -/
def Bank.blocked (b : Bank) (a : GAccess) : Bool := (b.accesses ++ b.waitReads).any fun e => e.before a

/-- An access waits on a translation fault. -/
def GAccess.faulting (a : GAccess) : Bool := a.phase == .fault

/-- An access waits on a translation fault, or is a replay that its bank has still to issue (R107). -/
def GAccess.waits (a : GAccess) : Bool := a.phase == .fault || a.phase == .replay

/-- Accesses in issue order. -/
def insertAccess (a : GAccess) : List GAccess → List GAccess
  | [] => [a]
  | c :: cs => if a.id < c.id then a :: c :: cs else c :: insertAccess a cs

/-- The accesses of a bank that wait on a translation fault, in issue order. DESIGN CHOICE: so does an access that is ordered behind
one (log entry 124). -/
def Bank.stuck (b : Bank) : List GAccess :=
  (b.accesses.foldr insertAccess []).foldl (fun acc a =>
    if a.kind != .monitor && (a.waits || (acc.any fun e => e.before a)) then acc ++ [a] else acc) []

/-- A bank whose accesses are changed, tracked and posted ones. -/
def Bank.mapAccesses (f : GAccess → GAccess) (b : Bank) : Bank :=
  { b with
    tracked := b.tracked.map fun t => match t.kind with | .access a => { t with kind := .access (f a) } | _ => t
    posted := b.posted.map f }

/-- An access that waits on a translation fault issues again (R102, R107). -/
def GAccess.replayed (a : GAccess) : GAccess := if a.faulting then { a with phase := .replay } else a

/-- Every store of the bank that was posted has performed. -/
def Bank.storesDone (b : Bank) : Bool := b.posted.all fun a => a.kind == .monitor

/-- Every global access of the bank before bundle issue `seq` has performed: posted stores, loads and atomics, WAITV words. -/
def Bank.accessesDone (b : Bank) (seq : Nat) : Bool := b.storesDone && b.tracked.all fun t => seq ≤ t.seq || !t.isGlobal

/-! ## Barrier membership (Table 5.4) -/

/-- V of DMk. -/
def Bank.dmValid (b : Bank) (k : Nat) : Bool := (vget b.dm k 0).getLsbD 63

/-- COUNT of DMk. -/
def Bank.dmCount (b : Bank) (k : Nat) : Nat := ((vget b.dm k 0).extractLsb' 16 16).toNat

/-- An arrival at level `k` traps at issue (R67). -/
def Bank.arrivalTraps (b : Bank) (k : Nat) : Bool := !b.dmValid k || 8192 < b.dmCount k || (vget b.out k none).isSome

/-! ## Switching banks (R107, R108) -/

/-- Results in the order of remaining latency, ties in the slot order S, V0, V1, M. -/
def insertByLatency (f : InFlight) : List InFlight → List InFlight
  | [] => [f]
  | g :: gs =>
    if f.rem < g.rem ∨ (f.rem = g.rem ∧ g.slot.presBit < f.slot.presBit) then f :: g :: gs else g :: insertByLatency f gs

/-- A tracked value lands in its registers (R34). -/
def landTracked (b : Bank) (t : Tracked) : Bank :=
  match t.kind with
  | .value v =>
    t.regs.zipIdx.foldl (fun b p =>
      b.writeReg p.1 (if p.1.file == .z then v.setWidth 4096 else ((v >>> (64 * p.2)).setWidth 64).setWidth 4096) 0) b
  | .zstep n => t.regs.foldl (fun b r => b.writeReg r ((Desc.stepped (vget b.z r.num 0) n).setWidth 4096) 0) b
  | _ => b

/-- A tracked operation that needs nothing but its time to land: its value is known, or follows from the register (ZSTEP). -/
def Tracked.isValue (t : Tracked) : Bool := match t.kind with | .value _ | .zstep _ => true | _ => false

/-- The active bank's results in flight all land (R107 step 3). -/
def State.landNow (s : State) : State :=
  let b := s.bank
  let s := s.setBank { b with inflight := [] }
  let s := (b.inflight.foldr insertByLatency []).foldl (fun s f => s.modCore fun c => c.landResult f) s
  s.modBank fun b => (b.tracked.filter Tracked.isValue).foldl landTracked { b with tracked := b.tracked.filter fun t => !t.isValue }

/-- The other bank holds a task that does not wait on a translation fault. -/
def Core.canSwitch (c : Core) : Bool := c.arm && !(c.bankOf !c.cur).xfault && !(c.bankOf !c.cur).ended

/-- A bank's task has drained (R111 steps 1 to 3): dispatch has stopped, its queues are empty, its results have landed. -/
def Bank.drained (b : Bank) : Bool :=
  b.draining && (!b.loop.act || b.hold == .stopped) && b.queues.toList.all List.isEmpty && b.resultsLanded

/-- The core changes to its other bank, whose queues restart within 96 cycles (R107). -/
def State.toOtherBank (s : State) : State :=
  let s := s.landNow
  let (k, s) := s.choose 96
  (s.modCore fun c =>
    { c with
      cur := !c.cur, point := false, stalls := List.replicate 6 k,
      run := if !c.run.issues then c.run else if (c.bankOf !c.cur).draining then .draining else .running }).modBank fun b =>
        { b with gap := b.gap + k }

/-- A global access of a bank waits on a translation fault (R107); a frozen core stays as it is (R96). -/
def State.bankWaits (s : State) (isB : Bool) : State :=
  let s := s.modBankOf isB fun b => { b with xfault := true }
  if isB ≠ s.core.cur ∨ !s.core.run.issues then s
  else
    let s := s.landNow
    if s.core.canSwitch then s.toOtherBank else s

/-- The accesses of a bank that wait on no page any more issue again, and FA or FB clears with the last (R102, R107). -/
def State.replayBank (s : State) (isB : Bool) : State :=
  s.modBankOf isB fun b =>
    let b := b.mapAccesses fun a => if s.waitsOnPage (.access s.coreNo isB a.id) then a else a.replayed
    { b with xfault := b.accesses.any GAccess.faulting }

/-- A bank whose accesses wait on no translation fault any more: the core goes on in it if it stalled (R107, R108), or if the
other bank's task has ended. -/
def State.bankWakes (s : State) (isB : Bool) : State :=
  if (s.bankOf isB).accesses.any GAccess.faulting then s
  else
    let s := s.modBankOf isB fun b => { b with xfault := false }
    if isB ≠ s.core.cur ∧ s.core.run.issues ∧ !(s.bankOf isB).ended ∧ (s.bank.xfault ∨ s.bank.ended) then s.toOtherBank else s

/-- The core switches back from bank B to bank A: FA has cleared, and bank B is at a pre-emption point, waits on a fault or has
ended (R108); a bank A that has drained for a park needs no switch. -/
def switchBackDue (c : Core) : Bool :=
  c.cur && !c.bankA.xfault && !c.bankA.ended && !c.bankA.drained && (c.point || c.bankB.xfault || c.bankB.ended)

/-- BANK_SWITCH_BACK (R108). -/
def execBankSwitchBack (s : State) : Out := .next (if switchBackDue s.core then s.toOtherBank else s)

end Sys2Proof.Machine
end

