-- ==== Sys2Proof/Machine/Static.lean ====
section
/-! DEFINITION. What the operation of an entry shows at dispatch: registers read and written, ports, scratchpad accesses,
control flow, whether it is remembered (spec/03 R27, R29, R34, R36, R37; spec/04 R47). -/
namespace Sys2Proof.Machine

/-- The x register of a name under a rotation base. -/
def xr (rotb : BitVec 5) (n : BitVec 6) : RegRef := ⟨.x, physReg rotb n⟩
/-- The v register of a name under a rotation base. -/
def vr (rotb : BitVec 5) (n : BitVec 6) : RegRef := ⟨.v, physReg rotb n⟩

/-- x0, p0 and m0: a write of one is discarded and does not count (R58). -/
def RegRef.discarded (r : RegRef) : Bool := r.num == 0 && (r.file == .x || r.file == .p || r.file == .m)

/-- An operand code as a register read: a v register, or the stream register of a use. -/
def operandRef (rotb : BitVec 5) (c : BitVec 7) : RegRef :=
  if c.toNat < 64 then vr rotb (c.setWidth 6) else ⟨.z, c.toNat - 64⟩

end Sys2Proof.Machine

namespace Sys2Proof
open Machine

/-- The registers an S operation reads, besides predicates. -/
def sReads (rotb : BitVec 5) (op : Nat) (b : SBody) : List RegRef :=
  let x := xr rotb
  match b with
  | .rr f => [x f.a] ++ (if op = 0x13 ∨ op = 0x14 then [] else [x f.b]) ++ (if op = 0x17 then [x f.d] else [])
  | .ri f => [x f.a]
  | .li f => if op = 0x20 then [x f.d] else []
  | .lp f => if op = 0x33 then [x (f.cnt.extractLsb' 2 6)] else []
  | .sr f => if op = 0x38 then [x (f.val.extractLsb' 4 6)] else []
  | .wv f => (List.range 8).map (fun i => x (f.a + BitVec.ofNat 6 i)) ++ [x f.b]
  | .k f => if op = 0x30 ∨ op = 0x32 ∨ op = 0x57 then [x f.a] else []
  | .gm f =>
    [x f.a] ++ (if (0x3F ≤ op ∧ op ≤ 0x43) ∨ op = 0x5C then [x f.d] else []) ++ (if op = 0x43 then [x (f.d + 1)] else [])
  | .ga f => [x f.a, x f.b] ++ (if op = 0x4B then [x f.d] else [])
  | .fw f => if op = 0x5F then [] else [x f.a] ++ (if op = 0x5A then [x f.b] else [])
  | _ => []

/-- The registers an S operation writes (R73). -/
def sWrites (rotb : BitVec 5) (op : Nat) (b : SBody) : List RegRef :=
  let x := xr rotb
  match b with
  | .rr f => if 0x21 ≤ op ∧ op ≤ 0x26 then [⟨.p, f.d.toNat⟩] else [x f.d]
  | .ri f => if 0x27 ≤ op ∧ op ≤ 0x2A then [⟨.p, f.d.toNat⟩] else [x f.d]
  | .li f => [x f.d]
  | .pl f => [⟨.p, f.d.toNat⟩]
  | .bo _ => if op = 0x31 then [x 31] else []
  | .lp _ => [⟨.sr, 0x020⟩, ⟨.sr, 0x021⟩, ⟨.sr, 0x023⟩] ++ (List.range 8).map fun i => ⟨.p, 8 + i⟩
  | .sg f => [x f.d]
  | .sr f => [⟨.sr, f.num.toNat⟩]
  | .wv f => [x f.d]
  | .k f => if op = 0x57 ∨ op = 0x58 then [x f.d] else []
  | .gm f =>
    if op = 0x3E then [x f.d, x (f.d + 1)]
    else if (0x3A ≤ op ∧ op ≤ 0x3D) ∨ op = 0x5B then [x f.d]
    else if op = 0x51 then [⟨.sr, 0x0CC⟩] else []
  | .ga f => [x f.d]
  | .fw f => [x f.d]
  | _ => []

/-- The registers a V source field of a kind reads. -/
def vSrcReads (rotb : BitVec 5) (k : VKind) (c : BitVec 7) : List RegRef :=
  match k with
  | .s | .z => [operandRef rotb c]
  | .x => [xr rotb (c.setWidth 6)]
  | .m => [⟨.m, c.toNat⟩]
  | .zr => [⟨.z, c.toNat - 64⟩]
  | _ => []

/-- A kind of source that may be a stream use. -/
def VKind.mayStream (k : VKind) : Bool := k == .s || k == .z

/-- The source fields of a V operation that name streams. -/
def vStreamSrcs (op : Nat) (f : VOp) : List (BitVec 7) :=
  ([((vRow op).a, f.a), ((vRow op).b, f.b), ((vRow op).c, f.c)].filter fun p => p.1.mayStream && 64 ≤ p.2.toNat).map (·.2)

/-- The registers a V operation reads. -/
def vReads (rotb : BitVec 5) (op : Nat) (f : VOp) : List RegRef :=
  let r := vRow op
  vSrcReads rotb r.a f.a ++ vSrcReads rotb r.b f.b ++ vSrcReads rotb r.c f.c ++
    (if f.ds then [⟨.z, f.d.toNat⟩] else if op = 0x56 then [⟨.z, f.d.toNat⟩] else [])

/-- The registers a V operation writes; a use of a destination stream is no register write (R37). -/
def vWrites (rotb : BitVec 5) (op : Nat) (f : VOp) : List RegRef :=
  (match (vRow op).d with
   | .d | .dv => if f.ds then [] else [vr rotb f.d]
   | .x => [xr rotb f.d]
   | .p => [⟨.p, f.d.toNat⟩]
   | .m => [⟨.m, f.d.toNat⟩]
   | .zw => [⟨.z, f.d.toNat⟩]
   | _ => []) ++ (if op = 0x59 then [⟨.sr, 0x042⟩] else [])

/-- The registers an M operation reads. -/
def mReads (rotb : BitVec 5) (op : Nat) (b : MBody) : List RegRef :=
  match b with
  | .mp f => if op ≤ 5 then [operandRef rotb f.inp] ++ (if f.ofmt ≠ 1 ∧ 64 ≤ f.out.toNat then [operandRef rotb f.out] else [])
      else []
  | .gr f =>
    [operandRef rotb f.inp, operandRef rotb f.gin] ++
      (if f.ofmt ≠ 1 ∧ 64 ≤ f.out.toNat then [operandRef rotb f.out] else []) ++
      (if 64 ≤ f.gout.toNat then [operandRef rotb f.gout] else [])
  | _ => []

/-- The registers an M operation writes (R205). -/
def mWrites (rotb : BitVec 5) (op : Nat) (b : MBody) : List RegRef :=
  match b with
  | .mp f => if op ≤ 5 ∧ f.ofmt ≠ 1 ∧ f.out.toNat < 64 then [operandRef rotb f.out] else []
  | .gr f =>
    (if f.ofmt ≠ 1 ∧ f.out.toNat < 64 then [operandRef rotb f.out] else []) ++
      (if f.gout.toNat < 64 then [operandRef rotb f.gout] else [])
  | .nt _ => [⟨.sr, 0x061⟩]
  | .fl f => if op = 0x14 then [xr rotb f.d] ++ (if f.fl.getLsbD 0 then [⟨.sr, 0x060⟩] else []) else []
  | _ => []

/-- The x registers a C operation reads (Table 17.2 to 17.7). -/
def cReads (rotb : BitVec 5) (op : Nat) (b : CBody) : List RegRef :=
  let x := xr rotb
  match b with
  | .t f => [x f.xb, x f.xa] ++ (if op = 0x1E then [⟨.m, f.msk.toNat⟩] else [])
  | .l f => [x f.xl]
  | .r f => [x f.xd, x f.xl]
  | .w f => [x f.xa]
  | .gq f => [x f.xa]
  | .kw f => [x f.xl]
  | .kg f => [x f.xa, x f.xv]
  | .kc f => [x f.xt]
  | _ => []

/-- The registers an operation reads. -/
def View.reads (rotb : BitVec 5) : View → List RegRef
  | .s op b => sReads rotb op b
  | .v op f => vReads rotb op f
  | .m op b => mReads rotb op b
  | .c op b => cReads rotb op b
  | .event => []

/-- The registers an operation writes that count for R37 and R34. -/
def View.writes (rotb : BitVec 5) (v : View) : List RegRef :=
  (match v with
   | .s op b => sWrites rotb op b
   | .v op f => vWrites rotb op f
   | .m op b => mWrites rotb op b
   | _ => []).filter fun r => !r.discarded

/-- Read and write ports of an operation (Table 3.14). -/
def View.ports : View → Nat × Nat
  | .v op f =>
    let rd := (vStreamSrcs op f).length
    let wr := if f.ds then 1 else 0
    match op with
    | 0x4F | 0x51 => (rd + 1, wr)
    | 0x50 | 0x54 => (rd, wr + 1)
    | 0x52 => (rd + 2, wr)
    | 0x53 => (rd, wr + 2)
    | 0x55 | 0x57 => (rd + 1, wr)
    | _ => (rd, wr)
  | .m op (.mp f) =>
    if op ≤ 5 then (if 64 ≤ f.inp.toNat then 1 else 0, if f.ofmt ≠ 1 ∧ 64 ≤ f.out.toNat then 1 else 0) else (0, 0)
  | .m _ (.gr f) =>
    ((if 64 ≤ f.inp.toNat then 1 else 0) + (if 64 ≤ f.gin.toNat then 1 else 0),
     (if f.ofmt ≠ 1 ∧ 64 ≤ f.out.toNat then 1 else 0) + (if 64 ≤ f.gout.toNat then 1 else 0))
  | _ => (0, 0)

/-- A C operation reads the scratchpad at issue: a copy block, table, bind block or schedule (R251). -/
def cReadsSpad (op : Nat) (b : CBody) : Bool :=
  match b with
  | .t f => op = 0x07 || f.xb != 0
  | .w _ => op = 0x0B
  | .ks _ => op = 0x0E
  | _ => false

/-- The registers that a tracked operation makes pending (R34). -/
def View.pends (rotb : BitVec 5) (v : View) : List RegRef :=
  (match v with
   | .s op b => if (0x3A ≤ op ∧ op ≤ 0x3E) ∨ (0x44 ≤ op ∧ op ≤ 0x4B) ∨ op = 0x53 ∨ op = 0x57 ∨ op = 0x58 ∨ 0x59 ≤ op then sWrites rotb op b
       else []
   | .v op f => if op = 0x55 ∨ op = 0x56 ∨ op = 0x57 then vWrites rotb op f else []
   | .m op b => if op = 0x14 then mWrites rotb op b else []
   | _ => []).filter fun r => !r.discarded

/-- The operation makes memory events, or forks or joins an engine operation (R41, Table 4.5). -/
def View.makesEvents : View → Bool
  | .s op _ => (0x3A ≤ op && op ≤ 0x53) || op == 0x57 || 0x59 ≤ op
  | .v op f => (View.v op f).ports != (0, 0)
  | .m .. => true
  | .c .. => true
  | .event => false

/-- The operation reads the core's own scratchpad at issue (R47). -/
def View.spadReads (v : View) : Bool :=
  match v with
  | .c op b => cReadsSpad op b
  | v => v.ports.1 != 0 && (match v with | .s .. => false | _ => true)

/-- The operation writes the core's own scratchpad at issue (R47): V writes, and the status write of CSTS (R278). -/
def View.spadWrites (v : View) : Bool :=
  match v with
  | .v .. => v.ports.2 != 0
  | .c op _ => op == 0x1B
  | _ => false

/-- A control-flow operation (R27). -/
def View.isControl : View → Bool
  | .s op _ => (0x2F ≤ op && op ≤ 0x35) || (0x54 ≤ op && op ≤ 0x56)
  | _ => false

/-- A control transfer or loop start, which no loop body holds (R65). -/
def View.noBody : View → Bool
  | .s op _ => 0x2F ≤ op && op ≤ 0x34
  | _ => false

/-- SYNC or MWAIT, which hold dispatch until they complete (R27). -/
def View.isWait : View → Bool
  | .s op _ => op == 0x4F || op == 0x52
  | _ => false

/-- A SETS or SETSI to IRC, DRC or ROTB (R61). -/
def View.setsLoop : View → Bool
  | .s _ (.sr f) => f.num == 0x020 || f.num == 0x021 || f.num == 0x022
  | _ => false

/-- A slot remembers an operation of the opcode (Table 3.6). -/
def remembersOp (slot : Slot) (op : Nat) : Bool :=
  match slot with
  | .s => !((0x2F ≤ op && op ≤ 0x36) || (0x4C ≤ op && op ≤ 0x5F))
  | .v0 | .v1 => !(op == 0x55 || op == 0x57 || op == 0x59)
  | .m => op ≤ 6 || 0x18 ≤ op
  | .c0 | .c1 => op == 0x08 || op == 0x0F || 0x20 ≤ op

/-- The opcode of a slot's payload; an S payload stands in bits [31:0]. -/
def payloadOp (slot : Slot) (w : BitVec 64) : Nat :=
  match slot with
  | .s => (w.extractLsb' 25 7).toNat
  | .v0 | .v1 => (w.extractLsb' 57 7).toNat
  | _ => (w.extractLsb' 58 6).toNat

/-- The slot remembers the operation (Table 3.6). -/
def View.remembered : View → Bool
  | .s op _ => remembersOp .s op
  | .v op _ => remembersOp .v0 op
  | .m op _ => remembersOp .m op
  | .c op _ => remembersOp .c0 op
  | .event => false

end Sys2Proof
end

