-- ==== Sys2Proof/Machine/Hold.lean ====
section
/-! DEFINITION. What holds an entry at the head of its queue (spec/03 R25, R26, R34, R36; spec/04 R46, R47; spec/10 R149;
spec/13 R208; spec/16 R230, R238; spec/17 R251; spec/22): the sequencer's checks before an entry issues. -/
namespace Sys2Proof.Machine

/-- The queue of a slot. -/
def Bank.queue (b : Bank) (slot : Slot) : List Entry := vget b.queues (5 - slot.presBit) []

/-- The bank with a slot's queue replaced. -/
def Bank.setQueue (b : Bank) (slot : Slot) (q : List Entry) : Bank := { b with queues := vset b.queues (5 - slot.presBit) q }

/-- The state with the seat of the operation that issues. -/
def State.seat (s : State) (slot : Slot) (e : Entry) : State := { s with ctx := ⟨slot, e⟩ }

/-- A tracked operation's destination that the operation reads or writes is pending (R34). -/
def pendingHeld (b : Bank) (e : Entry) (v : View) : Bool :=
  !b.tracked.isEmpty &&
    (let rs := v.reads e.rotb ++ v.writes e.rotb
     b.tracked.any fun t => t.regs.any fun r => !r.discarded && rs.contains r)

/-- Slip (R25): some slot has not issued its entry of bundle issue n − 16. -/
def slipHeld (b : Bank) (e : Entry) : Bool := b.queues.toList.any fun q => q.any fun o => o.seq + 16 ≤ e.seq

/-- A V entry of bundle issue m waits for an SFMT of bundle issue m − 2 or earlier in the other V slot (R119). -/
def fmtHeld (b : Bank) (slot : Slot) (e : Entry) (v : View) : Bool :=
  match v with
  | .v .. => [Slot.v0, Slot.v1].any fun t => t != slot && (b.queue t).any fun o =>
      o.seq + 2 ≤ e.seq && (match o.op with | some (.v 0x59 _) => true | _ => false)
  | _ => false

/-- V operations that read their sources whole (R166, R167). -/
def readsWhole (op : Nat) : Bool := (0x3C ≤ op && op ≤ 0x43) || op == 0x46

/-- The source fields of a V operation. -/
def vSources (op : Nat) (f : VOp) : List (BitVec 7) :=
  ([((vRow op).a, f.a), ((vRow op).b, f.b), ((vRow op).c, f.c)].filter fun p => p.1.mayStream).map (·.2)

/-- The bytes a V operation may access beside its streams, in the state in which it would issue; an index register with writes in
flight may read any of its values (R33). -/
def vDirectSpans (s : State) (z : Nat → Desc) (op : Nat) (f : VOp) : List (Nat × Nat) :=
  let x := (s.readX (f.a.setWidth 6)).toNat
  let base := (s.readX (f.a.setWidth 6) + 4 * f.imm.signExtend 64).toNat
  let mask := s.readM f.mask.toNat
  let on := (List.range 128).filter fun i => mask.getLsbD i
  let idx (c : BitVec 7) : List (Nat × Nat) :=
    if isStream c then
      match planUses z s.core.spadSize (vUseReqs f [c]) with
      | .ok (u :: _) =>
        s.fmtValsV.flatMap fun fmt =>
          let l := u.lanes s.core.spad fmt s.ftz f.ty (rmOf f.rm) (useOn false mask u)
          on.map fun i => (x + 4 * (l.lane i).toNat, 4)
      | _ => []
    else
      let n := physReg s.ctx.entry.rotb (c.setWidth 6)
      let fl := s.bank.inflight.filter fun f => f.reg = ⟨.v, n⟩ ∧ !f.restored
      on.flatMap fun i =>
        (lane (vget s.bank.v n 0) i :: (fl.filter fun f => f.lanes.getLsbD i).map fun f => lane f.value i).map fun w =>
          (x + 4 * w.toNat, 4)
  match op with
  | 0x4F | 0x50 => on.map fun i => (base + 4 * i, 4)
  | 0x51 => if on.isEmpty then [] else [(base, 4)]
  | 0x54 => (List.range on.length).map fun i => (base + 4 * i, 4)
  | 0x52 | 0x53 => idx f.b
  | 0x55 | 0x57 => [(descAddr f s, 64)]
  | _ => []

/-- The stream uses of an M operation, in order (R206, R207). -/
def mUseReqs (op : Nat) (b : MBody) : List UseReq :=
  match b with
  | .mp f => if op ≤ 5 then operandUse f.inp false ++ (if f.ofmt = 1 then [] else operandUse f.out true) else []
  | .gr f => operandUse f.inp false ++ operandUse f.gin false ++ (if f.ofmt = 1 then [] else operandUse f.out true) ++ operandUse f.gout true
  | _ => []

/-- The entries of a copy schedule from an address, up to the last one, an entry that does not pass, or the scratchpad's end
(R245, R251). -/
def scheduleSpans (c : Core) : Nat → Nat → List (Nat × Nat)
  | 0, _ => []
  | k + 1, a =>
    if c.spadSize < a + 16 then []
    else if (byteRange a 16).all (fun b => c.byteCheck b == .passes) && !(c.spad.read (a + 12)).getLsbD 0 then
      (a, 16) :: scheduleSpans c k (a + 16)
    else [(a, 16)]

/-- The bytes a C operation reads or writes at issue (R251, R278): copy block, permutation table, bind block, schedule, status. -/
def cSpans (s : State) (op : Nat) (b : CBody) : List (Nat × Nat) :=
  match b with
  | .t f =>
    (if f.xb = 0 then [] else [((s.readX f.xb).toNat, 64)]) ++ (if op = 0x07 then [((s.readX f.xa).toNat, 128)] else [])
  | .w f => if op = 0x0B then [((s.readX f.xa).toNat, 64)] else []
  | .ks f => if op = 0x1B then [(f.spa.toNat, 64)] else scheduleSpans s.core (s.core.spadSize / 16) f.spa.toNat
  | _ => []

/-- Spans inside the scratchpad; an access outside it traps and waits for nothing. -/
def inSpad (s : State) (l : List (Nat × Nat)) : List (Nat × Nat) := l.filter fun p => p.1 + p.2 ≤ s.core.spadSize

/-- The index of VGTH or VSCT is unsettled: a v register with writes in flight, or a stream read while FMT is unsettled. -/
def indexOpen (s : State) (op : Nat) (f : VOp) : Bool :=
  (op == 0x52 || op == 0x53) && if isStream f.b then s.fmtValsV.length != 1 else
    s.bank.inflight.any fun g => g.reg == ⟨.v, physReg s.ctx.entry.rotb (f.b.setWidth 6)⟩ && !g.restored

/-- The stream uses of an operation, in order (R141). -/
def usesOf : View → List UseReq
  | .v op f => vUseReqs f (vSources op f)
  | .m op b => mUseReqs op b
  | _ => []

/-- Watermarks hold the access of an operation whose streams stand at `z` (R13, R142, R149, R238); an operation whose descriptors
fail their checks issues and traps. While the index register of VGTH or VSCT is unsettled, no byte that it may name may be held. -/
def watermarkHeld (s : State) (z : Nat → Desc) (v : View) : Bool :=
  !s.core.noRanges &&
    (match v with
     | .v op f =>
       match planUses z s.core.spadSize (usesOf v) with
       | .error _ => false
       | .ok us =>
         let mask := s.readM f.mask.toNat
         let full := op = 0x3B ∨ op = 0x43
         let direct := spanBytes (inSpad s (vDirectSpans s z op f))
         !s.core.mayIssue (spanBytes (vReadSpans (readsWhole op) full mask us ++ vWriteSpans full mask us) ++
           direct) || (indexOpen s op f && direct.any fun a => s.core.byteCheck a == .held)
     | .m .. =>
       match planUses z s.core.spadSize (usesOf v) with
       | .error _ => false
       | .ok us => !s.core.mayIssue (spanBytes (us.flatMap fun u => u.readSpans fun _ => true))
     | .c op b => !s.core.mayIssue (spanBytes (inSpad s (cSpans s op b)))
     | _ => false)

/-- The streams after an operation has made its uses, where it may make them (R141). -/
def zAfter (s : State) (z : Nat → Desc) (v : View) : Nat → Desc :=
  match planUses z s.core.spadSize (usesOf v) with
  | .error _ => z
  | .ok us => fun k => us.foldl (fun d u => if u.z = k then u.next else d) (z k)

/-- An ordered mesh operation that holds later pushes (Table 13.12). -/
def PlaneKind.holdsPushes : PlaneKind → Bool
  | .mlda .. | .mldp .. | .mpatch .. | .mdix .. | .mbits .. | .mnrm _ => false
  | .mclr a _ g c => a || g || c
  | _ => true

/-- A push is held until the ordered operation before it completes (R208), while a push of the other direction passes the stages, at
most 64 cycles (R188; log entry 107), and while the pipeline's 72 slots leave no room (R197); MDRN until the mesh is done
(R220). -/
def meshHeld (m : Mesh) (v : View) : Bool :=
  match v with
  | .m op b =>
    let rev := op == 6 || match b with | .mp f => f.rev | _ => false
    if op ≤ 6 then
      (m.unit.any fun o => o.kind.holdsPushes) || (m.pipe.any fun p => p.reverse != rev && p.age < 64) ||
        72 < m.pipe.length + (if op = 6 then 2 else 1)
    else if op = 0x16 then !(m.pipe.isEmpty && m.unit.isEmpty) else false
  | _ => false

/-- A stream has block scales: by its descriptor, or by one that is to land. -/
def Bank.scaled (b : Bank) (z : Nat) : Bool :=
  Desc.block (vget b.z z 0) != 0 || b.tracked.any fun t =>
    t.regs.contains ⟨.z, z⟩ && (match t.kind with | .value x => Desc.block x != 0 | _ => false)

/-- An operation writes a stream with block scales, which it reads (R178). -/
def readsScales (b : Bank) (v : View) : Bool := (usesOf v).any fun r => r.write && b.scaled r.z

/-- An operation reads the scratchpad at its issue, block scales among what it reads (R47, R178). -/
def readsSpad (b : Bank) (v : View) : Bool := v.spadReads || readsScales b v

/-- Own-scratchpad order (R47): an earlier bundle issue's entry in another slot makes a conflicting access and has not
issued. -/
def orderHeld (b : Bank) (slot : Slot) (e : Entry) (v : View) : Bool :=
  (v.spadWrites || readsSpad b v) &&
    allSlots.any fun t => t != slot && (b.queue t).any fun o =>
      o.seq < e.seq && (match o.op with
        | some w => w.spadWrites || (v.spadWrites && readsSpad b w)
        | none => false)

/-- The channel that a C operation is queued on (Table 17.8), none where it acts at issue. -/
def queuedOn (op : Nat) (b : CBody) : Option Nat :=
  match op with
  | 0x08 | 0x0B | 0x0C | 0x0D | 0x0E | 0x0F | 0x10 | 0x11 | 0x1B | 0x1C => none
  | _ => some b.ch.toNat

/-- A channel's issued copies that have not completed. -/
def Channel.count (c : Channel) : Nat := c.queue.length + if c.cur.isSome then 1 else 0

/-- A channel of a core holds 16 copies (R230). -/
def Core.fullChan (c : Core) (n : Nat) : Bool := 16 ≤ (vget c.chans n Channel.reset).count

/-- A C entry whose channel holds 16 copies waits (R230), and so does one that would fetch rows on such a channel: a WBND whose bind
block names FLOW 1, a WADV of a FLOW 1 window (R268, R269). WADV of at most N rows waits until W ≥ B + k, WREL until every fetchable
row has landed or the flow has frozen (R242). -/
def copyHeld (s : State) (v : View) : Bool :=
  let c := s.core
  match v with
  | .c op b =>
    (match queuedOn op b with
     | some n => c.fullChan n
     | none => false) ||
      (match op, b with
       | 0x0B, .w f =>
         let a := (s.readX f.xa).toNat
         let w0 := c.spad.num a 8
         a + 64 ≤ c.spadSize && w0 / 2 ^ 48 % 8 == 1 && c.fullChan f.ch.toNat
       | 0x0C, .w f =>
         let w := vget c.wins f.w.toNat Window.reset
         w.wm.act && f.k.toNat ≤ w.slots &&
           (w.landed < w.b.toNat + f.k.toNat || (f.k != 0 && w.flow == 1 && c.fullChan w.chan))
       | 0x0D, .w f =>
         let w := vget c.wins f.w.toNat Window.reset
         w.wm.act && !w.wm.frz && w.landed < w.fetchable
       | _, _ => false)
  | _ => false

/-- An S operation that accesses global memory (LDG, STG, atomics, LNCH's posting counts separately). -/
def isGlobal : View → Bool
  | .s op _ => 0x3A ≤ op && op ≤ 0x4B
  | _ => false

/-- The global accesses of a bank that wait on translation (R99). -/
def Bank.untranslated (b : Bank) : Nat :=
  (b.tracked.filter fun t => match t.kind with | .access a => a.untranslated | _ => false).length +
    (b.posted.filter GAccess.untranslated).length

/-- A ninth global access does not issue while eight of the core wait on translation (R99). -/
def globalHeld (c : Core) (v : View) : Bool := isGlobal v && 8 ≤ c.bankA.untranslated + c.bankB.untranslated

/-- A WAITV observes a watermark, the completion of copies or a barrier (KIND 1, 3, 5). -/
def WaitV.observes (w : WaitV) : Bool :=
  w.conds.any fun c => [1, 3, 5].contains (c.ctl.extractLsb' 60 4).toNat

/-- An operation that makes events waits for a WAITV io-before it that has still to observe (R44, R45, R53). -/
def observeHeld (b : Bank) (e : Entry) (v : View) : Bool :=
  v.makesEvents && b.tracked.any fun t => t.seq < e.after && (match t.kind with | .waitv w => w.observes | _ => false)

/-- ARRV waits for the global accesses before it, unless it traps (R91, Table 4.5). -/
def arrivalHeld (b : Bank) (e : Entry) (v : View) : Bool :=
  match v with
  | .s 0x50 (.k f) => !b.arrivalTraps f.k.toNat && !b.accessesDone e.seq
  | _ => false

/-- Everything but slip, alignment and ports that holds the entry at the head of a slot's queue, in the state `s` that has
it in its seat; an operation whose predicate is false makes no access and reads no register (R20). -/
def entryHeld (s : State) (slot : Slot) (e : Entry) : Bool :=
  match e.op with
  | none => false
  | some v =>
    s.holds v.guard &&
      (pendingHeld s.bank e v || fmtHeld s.bank slot e v || meshHeld s.core.mesh v || copyHeld s v ||
        globalHeld s.core v || observeHeld s.bank e v || arrivalHeld s.bank e v || orderHeld s.bank slot e v || watermarkHeld s s.zreg v)

/-- The S queue waits behind a REL, ACQ or DRN whose waits have not ended (R331); a bank that waits on a translation fault issues
nothing (R107). -/
def fenceHeld (b : Bank) (slot : Slot) : Bool := b.xfault || (slot == .s && (b.fenceR || b.fenceW || b.fenceHost))

/-- The slot's queue has an entry at its head that nothing holds but other slots' issue in this cycle. -/
def slotReady (s : State) (slot : Slot) : Bool :=
  match s.bank.queue slot with
  | [] => false
  | e :: _ => !fenceHeld s.bank slot && s.core.stalls.getD (5 - slot.presBit) 0 == 0 && !slipHeld s.bank e && !entryHeld (s.seat slot e) slot e

/-- The head entry of a slot. -/
def headOf (b : Bank) (slot : Slot) : Option Entry := (b.queue slot).head?

/-- Alignment (R26): every other member of the bundle issue's SYNC set has issued its entry or issues it now. -/
def alignOk (b : Bank) (c : List Slot) (slot : Slot) (e : Entry) : Bool :=
  !e.sync.getLsbD slot.presBit || allSlots.all fun t =>
    !e.sync.getLsbD t.presBit || c.contains t && (headOf b t).any (·.seq == e.seq) ||
      (b.queue t).all (·.seq != e.seq)

/-- Reads before writes (R46): no other slot's entry of the same bundle issue that reads the scratchpad is left behind by
one that writes it. -/
def readsFirst (b : Bank) (c : List Slot) (slot : Slot) (e : Entry) : Bool :=
  !(e.op.any (·.spadWrites)) || allSlots.all fun t =>
    t == slot || c.contains t && (headOf b t).any (·.seq == e.seq) ||
      (b.queue t).all fun o => o.seq != e.seq || !(o.op.any fun v => readsSpad b v)

/-- The slots of a candidate set that may issue together. -/
def keepSlots (b : Bank) (c : List Slot) : List Slot :=
  c.filter fun t => match headOf b t with
    | none => false
    | some e => alignOk b c t e && readsFirst b c t e

/-- The operation that a slot would issue: none where its queue is empty, its entry idle or its predicate false. -/
def issuesNow (s : State) (slot : Slot) : Option (Entry × View) :=
  match headOf s.bank slot with
  | none => none
  | some e => e.op.bind fun v => if (s.seat slot e).holds v.guard then some (e, v) else none

/-- Slot `u` would issue a tracked operation whose destination the operation of slot `t` reads or writes (R34). -/
def pendsFor (s : State) (u t : Slot) : Bool :=
  match issuesNow s u, issuesNow s t with
  | some (e, v), some (f, w) =>
    let rs := w.reads f.rotb ++ w.writes f.rotb
    (v.pends e.rotb).any fun r => rs.contains r
  | _, _ => false

/-- Two slots issue entries that one SYNC field aligns: neither holds the other (R26). -/
def aligned (b : Bank) (u t : Slot) : Bool :=
  match headOf b u, headOf b t with
  | some e, some f => e.seq == f.seq && e.sync.getLsbD u.presBit && e.sync.getLsbD t.presBit
  | _, _ => false

/-- A destination is pending from the cycle in which its tracked operation issues: another slot's operation that reads or writes it
does not issue in that cycle (R34); of two tracked operations with one destination the first in slot order issues. -/
def pendFit (s : State) (c : List Slot) : List Slot :=
  c.filter fun t => !(c.any fun u =>
    u != t && pendsFor s u t && !aligned s.bank u t && (!pendsFor s t u || t.presBit < u.presBit))

/-- The slots whose stream uses pass the watermarks where they stand in this cycle: uses that issue in one cycle take positions in
slot order (R13, R141). -/
def streamFit (s : State) : (Nat → Desc) → List Slot → List Slot
  | _, [] => []
  | z, t :: ts =>
    match issuesNow s t with
    | none => t :: streamFit s z ts
    | some (e, v) =>
      if (usesOf v).isEmpty then t :: streamFit s z ts
      else if watermarkHeld (s.seat t e) z v then streamFit s z ts
      else t :: streamFit s (zAfter s z v) ts

/-- The candidate set thinned until nothing more leaves it. -/
def settleSlots (s : State) : Nat → List Slot → List Slot
  | 0, c => c
  | k + 1, c => settleSlots s k (streamFit s s.zreg (pendFit s (keepSlots s.bank c)))

/-- Ports in use by slots of other bundle issues leave none for a slot: it waits (R36). -/
def portFit (b : Bank) : List Slot → Nat × Nat → List Slot
  | [], _ => []
  | t :: ts, used =>
    let p := match (headOf b t).bind (·.op) with | some v => v.ports | none => (0, 0)
    if 6 < used.1 + p.1 ∨ 3 < used.2 + p.2 then portFit b ts used
    else t :: portFit b ts (used.1 + p.1, used.2 + p.2)

/-- Of two slots that enter a copy on one channel with room for one, C0's takes the place, unless one SYNC field aligns them, when
neither holds the other (R26, R230). -/
def roomFit (s : State) (c : List Slot) : List Slot :=
  c.filter fun t => t != .c1 || !c.contains .c0 || aligned s.bank .c0 .c1 ||
    match issuesNow s .c0, issuesNow s .c1 with
    | some (_, .c o0 b0), some (_, .c o1 b1) =>
      (queuedOn o0 b0).isNone || queuedOn o0 b0 != queuedOn o1 b1 || (vget s.core.chans b1.ch.toNat Channel.reset).count != 15
    | _, _ => true

/-- The slots that issue in this cycle, of those outside a list that are ready. -/
def issueSetBut (s : State) (held : List Slot) : List Slot :=
  let c := settleSlots s 6 (roomFit s (allSlots.filter fun t => !held.contains t && slotReady s t))
  settleSlots s 6 (portFit s.bank c (0, 0))

/-- The slots that issue in this cycle. -/
def issueSet (s : State) : List Slot := issueSetBut s []

end Sys2Proof.Machine
end

