-- ==== Sys2Proof/Machine/Fetch.lean ====
section
/-! DEFINITION. Fetching a bundle from IMEM, the checks at dispatch, and dispatch into the slot queues (spec/03 R17 to R30,
R36 to R40; spec/05 R61 to R65). -/
namespace Sys2Proof.Machine

/-- Dispatch stands in the body of a running loop, which the loop buffer holds (R62). -/
def Bank.inBody (b : Bank) : Bool := b.loop.act && b.loop.start.toNat ≤ b.pc && b.pc < b.loop.start.toNat + b.loop.bytes

/-- What a bank's dispatch fetches from: the loop buffer in a loop body, else IMEM (R62). -/
def Core.code (c : Core) (b : Bank) : Memory := if b.inBody then b.loop.buf else c.imem

/-- The bytes of what dispatch fetches from that hold an uncorrectable error. -/
def Core.codeBad (c : Core) (b : Bank) : List Nat := if b.inBody then b.loop.bad else c.imemBad

/-- The header of the bundle that dispatch takes next. -/
def Core.header (c : Core) (b : Bank) : Header := readHeader (BitVec.ofNat 32 ((c.code b).num b.pc 4))

/-- The payload word of a slot of that bundle. -/
def Core.payload (c : Core) (b : Bank) (h : Header) (slot : Slot) : BitVec 64 :=
  BitVec.ofNat 64 ((c.code b).num (b.pc + h.offset slot) slot.bytes)

/-- A slot without an engine on the core: V0, V1 and M of a Collie core (R40, R348). -/
def Core.noEngine (c : Core) (slot : Slot) : Bool := c.collie && (slot == .v0 || slot == .v1 || slot == .m)

/-- What a slot receives from a bundle: its present payload, a sticky re-issue, or an idle entry (R18, R23). On a Collie core
V0, V1 and M have no engine (R40). -/
inductive Given where
  | present (w : BitVec 64)
  | sticky (w : Option (BitVec 64))
  | idle
  deriving DecidableEq, Repr

/-- What a slot receives from the next bundle. -/
def Core.given (c : Core) (b : Bank) (h : Header) (slot : Slot) : Given :=
  if h.has slot then .present (c.payload b h slot)
  else if h.idle.getLsbD slot.presBit || c.noEngine slot then .idle
  else .sticky (vget b.rem (5 - slot.presBit) none)

/-- The payload word whose operation a slot will execute. -/
def Given.word : Given → Option (BitVec 64)
  | .present w => some w
  | .sticky w => w
  | .idle => none

/-- The operation of what a slot receives. -/
def Given.op (slot : Slot) (g : Given) : Option View :=
  match g.word with
  | none => none
  | some w => match decodeSlot slot w with | .ok v => some v | .error _ => none

/-- The opcode of a payload word. -/
def opcodeOf (slot : Slot) (w : BitVec 64) : Nat :=
  match slot with
  | .s => w.toNat / 2 ^ 25 % 128
  | .v0 | .v1 => w.toNat / 2 ^ 57 % 128
  | .m => w.toNat / 2 ^ 58 % 64
  | .c0 | .c1 => w.toNat / 2 ^ 58 % 64

/-- The decoding cause of the payload that a slot receives, the lowest of those it meets (R37, R38, R40): an unassigned opcode
0x04; an operation that the core does not execute 0x05, whatever its payload; a forbidden payload 0x06. -/
def decodeCause (c : Core) (slot : Slot) (g : Given) : Option (BitVec 8) :=
  match g.word with
  | none => none
  | some w =>
    match decodeSlot slot w with
    | .error .unassigned => some 0x04
    | .error .profile => some 0x05
    | .error .forbidden =>
      if c.noEngine slot || (slot == .s && !c.collie && firmwareOp (opcodeOf slot w)) then some 0x05 else some 0x06
    | .ok v => if c.noEngine slot || (firmwareOnly v && !c.collie) then some 0x05 else none
where
  /-- An S opcode that only Collie cores execute (R40). -/
  firmwareOp (op : Nat) : Bool := 0x59 ≤ op && op ≤ 0x5F

/-- The slots whose operations write a register that another operation of the bundle issue writes (0x07). -/
def doubleWriters (rotb : BitVec 5) (ops : List (Slot × View)) : BitVec 6 :=
  ops.foldl (fun m p =>
    if ops.any fun q => q.1 != p.1 && (q.2.writes rotb).any fun r => (p.2.writes rotb).contains r
    then m ||| slotMask p.1 else m) 0

/-- The slots that use ports, when together they exceed the budget (0x08, R36). -/
def portUsers (ops : List (Slot × View)) : BitVec 6 :=
  if 6 < (ops.map fun p => p.2.ports.1).sum ∨ 3 < (ops.map fun p => p.2.ports.2).sum then
    ops.foldl (fun m p => if p.2.ports.1 + p.2.ports.2 = 0 then m else m ||| slotMask p.1) 0
  else 0

/-- The first slot that has the cause, as a mask. -/
def slotWith (l : List (Slot × Option (BitVec 8))) (cause : BitVec 8) : Option (BitVec 8 × BitVec 6) :=
  (l.find? fun p => p.2 == some cause).map fun p => (cause, slotMask p.1)

/-- An S opcode that transfers control, which RPT ≠ 0 makes illegal (R73). -/
def controlOp (op : Nat) : Bool := (0x2F ≤ op && op ≤ 0x35) || (0x54 ≤ op && op ≤ 0x56)

/-- IDLE bits that count for 0x02: all, on a Collie core those of the slots with an engine (R40). -/
def Core.idleBits (c : Core) (h : Header) : BitVec 6 :=
  if c.collie then h.idle &&& ~~~(slotMask .v0 ||| slotMask .v1 ||| slotMask .m) else h.idle

/-- The cause of an illegal bundle at the address of the next dispatch, with TSLOTS, in the order of R38; none for a legal
one. -/
def illegalCause (c : Core) (b : Bank) : Option (BitVec 8 × BitVec 6) :=
  let size := c.imemSize
  let h := c.header b
  let len := if size < b.pc + 4 then 4 else h.len
  if (c.codeBad b).any fun a => b.pc ≤ a && a < b.pc + len then some (0x0A, 0)
  else if size < b.pc + len then some (0x09, 0)
  else
    let given := allSlots.map fun t => (t, c.given b h t)
    let causes := given.map fun p => (p.1, decodeCause c p.1 p.2)
    let ops := given.filterMap fun p => (p.2.op p.1).map fun v => (p.1, v)
    if h.chk ≠ 0b1010 then some (0x00, 0)
    else if h.zero ≠ 0 then some (0x01, 0)
    else if h.pres &&& c.idleBits h ≠ 0 then some (0x02, 0)
    else if h.has .s && h.rpt != 0 && controlOp (opcodeOf .s (c.payload b h .s)) then some (0x03, 0)
    else
      match slotWith causes 0x04 with
      | some r => some r
      | none =>
        match slotWith causes 0x05 with
        | some r => some r
        | none =>
          match slotWith causes 0x06 with
          | some r => some r
          | none =>
            if doubleWriters b.rotb ops ≠ 0 then some (0x07, doubleWriters b.rotb ops)
            else if portUsers ops ≠ 0 then some (0x08, portUsers ops)
            else none

/-- The S operation of the bundle that dispatch takes next, where it is present. -/
def Core.sOp (c : Core) (b : Bank) : Option View :=
  let h := c.header b
  if h.has .s then (match decodeSlot .s (c.payload b h .s) with | .ok v => some v | .error _ => none) else none

/-- A body bundle that holds a control transfer or a loop start (cause 0x13 at dispatch, R65). -/
def bodyBroken (c : Core) (b : Bank) : Bool := b.loop.act && (c.sOp b).any (·.noBody)

/-- The slot's remembered operation after the bundle issue (R29): the last present operation its queue received. -/
def rememberAfter (old : Option (BitVec 64)) (slot : Slot) (g : Given) : Option (BitVec 64) :=
  match g with
  | .present w => if (g.op slot).any (·.remembered) then some w else none
  | _ => old

/-- The entry a slot's queue receives (R23). -/
def makeEntry (b : Bank) (h : Header) (slot : Slot) (g : Given) : Entry :=
  { op := g.op slot,
    sticky := match g with | .sticky _ => true | _ => false,
    seq := b.seqNext, pc := b.pc, len := h.len, rep := b.rep,
    stage := b.p.extractLsb' 8 8, rotb := b.rotb, sync := h.sync,
    after := if slot = .s then b.seqNext else vget b.ioS (5 - slot.presBit) 0 }

/-- The bundle issue before which every S entry is io-before an entry of a slot, after a bundle issue with a SYNC field: the
members share the latest of theirs, and their own, where S is a member (R44). -/
def ioAfter (seq : Nat) (sync : BitVec 6) (io : Vector Nat 6) : Vector Nat 6 :=
  let members := (List.range 6).filter fun k => sync.getLsbD (5 - k)
  let m := (members.map fun k => vget io k 0).foldl max (if sync.getLsbD 5 then seq else 0)
  members.foldl (fun io k => vset io k m) io

/-- Dispatches one bundle issue: an entry into each queue, the remembered operations, the next address (R17, R23, R28,
R29), and what dispatch then waits for (R27). DESIGN CHOICE: a SYNC or an MWAIT reads its predicate when it issues (R20), so one
whose predicate proves false holds dispatch until then (log entry 93). -/
def dispatchOne (s : State) : State :=
  let c := s.core
  let b := s.bank
  let h := c.header b
  let b := { b with ioS := ioAfter b.seqNext h.sync b.ioS }
  let g := fun t => c.given b h t
  let b1 := allSlots.foldl (fun b' t =>
    { (b'.setQueue t (b'.queue t ++ [makeEntry b h t (g t)])) with
      rem := vset b'.rem (5 - t.presBit) (rememberAfter (vget b'.rem (5 - t.presBit) none) t (g t)) }) b
  let last := b.rep == h.rpt.toNat
  let hold : DHold :=
    match c.sOp b with
    | some v => if v.isControl then .control b.seqNext else if v.isWait then .wait b.seqNext else .free
    | none => .free
  s.setBank { b1 with
    seqNext := b.seqNext + 1, hold := hold,
    pc := if last then b.pc + h.len else b.pc, rep := if last then 0 else b.rep + 1 }

/-- A SETS to IRC, DRC or ROTB is queued or in flight (R61). -/
def loopWritePending (b : Bank) : Bool :=
  (b.queue .s).any (fun e => e.op.any (·.setsLoop)) ||
    b.inflight.any fun f => f.reg.file == .sr && (f.reg.num == 0x020 || f.reg.num == 0x021 || f.reg.num == 0x022)

/-- Dispatch may take a bundle now: the core runs, or drains inside a loop whose items are still finishing (R110); nothing
holds it (R27, R61); no queue holds 16 entries (R25); a single-stepped bundle has not been dispatched whole (R74). -/
def mayDispatch (s : State) : Bool :=
  let b := s.bank
  (s.core.run == .running || (s.core.run == .draining && b.loop.act)) && b.hold == .free && b.gap == 0 &&
    b.illegal.isNone && !b.ended && !b.xfault && !loopWritePending b && (!b.singleStep || b.rep != 0 || b.seqNext == b.stepSeq) &&
    b.queues.toList.all fun q => q.length < 16

/-- Dispatch in a cycle: the end of a pass where it is due (R63), then one bundle issue, or the stop at an illegal one
(R37). -/
def dispatch (s : State) : State :=
  if s.bank.gap ≠ 0 then s.modBank fun b => { b with gap := b.gap - 1 }
  else if !mayDispatch s then s
  else
    let s := passEndIfDue s
    if !mayDispatch s then s
    else
      let b := s.bank
      match illegalCause s.core b with
      | some (cause, slots) => s.modBank fun b => { b with illegal := some ⟨cause, slots, b.pc, b.rep⟩ }
      | none =>
        if bodyBroken s.core b then s.modBank fun b => { b with illegal := some ⟨0x13, slotMask .s, b.pc, b.rep⟩ }
        else dispatchOne s

/-- An illegal bundle traps once every entry of earlier bundle issues has issued (R37): KIND 3, and KIND 0 for 0x13. -/
def trapIllegal (s : State) : State :=
  match s.bank.illegal with
  | none => s
  | some i =>
    if s.bank.queues.toList.all List.isEmpty && (s.core.run == .running || s.core.run == .draining) then
      (s.modBank fun b => { b with illegal := none }).takeTrap
        ⟨i.cause, if i.cause = 0x13 then .atIssue else .illegal, i.slots, i.pc, i.rep,
          Config.unstated i.cause 0, Config.unstated i.cause 1, Config.unstated i.cause 2⟩
    else s

/-- An S word whose opcode only Collie cores execute (R40). -/
def firmwareWord (w : Nat) : Bool := 0x59 ≤ w / 2 ^ 25 % 128 && w / 2 ^ 25 % 128 ≤ 0x5F

/-- The state with a bundle at the program counter of a core that then runs it: queues and loop engine empty, nothing held,
nothing on the agenda. It stands for the load of a program by a launch (log entry 4). -/
def State.loadBundle (s : State) (bytes : List (BitVec 8)) (firmware : Bool) : State :=
  let s := if firmware != s.core.collie then s.focus (if firmware then 128 else 0) else s
  let b := s.bank
  let s := s.setBank { b with
    queues := Vector.replicate 6 [], hold := .free, gap := 0, illegal := none, rep := 0, loop := Loop.reset,
    inflight := [], tracked := [], syncWait := none, mwait := false, ending := false, ended := false, xfault := false,
    fenceR := false, fenceW := false, fenceHost := false, draining := false, singleStep := false }
  let s := s.modCore fun c => { c with run := .running, trap := none, stalls := [], imem := c.imem.store b.pc bytes, imemBad := [] }
  { s with agenda := [], inputs := [] }

end Sys2Proof.Machine
end

