-- ==== Sys2Proof/Machine/Channel.lean ====
section
/-! DEFINITION. Copy channels as queues: a copy taken in, shown by its watermark, landed, frozen, aborted, completed
(spec/16 R230 to R237, R247, R248; spec/17 R252, R271). -/
namespace Sys2Proof.Machine

/-- The scratchpad address of landing index `i` of a box (R233); HI at the end. -/
def Copy.addrAt (c : Copy) (i : Nat) : Nat :=
  if c.e0 = 0 then c.dbase
  else if c.total ≤ i then c.hi
  else
    let row := i / c.e0
    c.dbase + row / c.n1 * c.s2 + row % c.n1 * c.s1 + i % c.e0

/-- A fetch of rows of a FLOW 1 window (R268). -/
def Copy.isFetch (c : Copy) : Bool := c.code == 0x0B || c.code == 0x0C

/-- The watermark with which a copy becomes current (R236). -/
def Copy.startWm (c : Copy) : Wm := ⟨c.tid, c.tracks, false, false, false, BitVec.ofNat 22 (if c.tracks then c.dbase else 0)⟩

/-- What stands for a copy where software has written other words of the copy state than an operation's: a range and no copy behind
it (R236). -/
def Copy.ghost (c : Copy) : Bool := c.fresh && c.payload == 0 && c.total == 0

/-- The channel with a copy become current. -/
def Channel.begin (ch : Channel) (c : Copy) : Channel :=
  { ch with cur := some c, wm := c.startWm, state := 1, fcause := 0 }

/-- The channel with its oldest queued copy become current, or idle (R230). -/
def Channel.advance (ch : Channel) : Channel :=
  match ch.queue with
  | c :: q => { ch with queue := q }.begin c
  | [] => { ch with cur := none, wm := { ch.wm with act := false, frz := false, abt := false }, state := 0, fcause := 0 }

/-- A queued operation takes its transfer ID and enters the channel (R231, R252); one that a schedule entry's cause has frozen with
no copy begins none (R245). -/
def Channel.take (ch : Channel) (c : Copy) : Channel :=
  let c := { c with tid := ch.tid + 1 }
  let ch := { ch with tid := ch.tid + 1 }
  if ch.cur.all Copy.ghost && !ch.wm.frz then ch.begin c else { ch with queue := ch.queue ++ [c] }

/-- The current copy ends: TCPn takes its ID, its watermark becomes inactive, the next begins (R232, R248). -/
def Channel.finish (ch : Channel) : Channel := { ch with tcp := ch.wm.tid }.advance

/-- The current copy freezes (R247); `src` is the failing unit's source address. -/
def Channel.freeze (ch : Channel) (fc : BitVec 4) (src : BitVec 64) : Channel :=
  { ch with
    cur := ch.cur.map fun c => { c with failSrc := src },
    wm := { ch.wm with frz := true }, state := 3, fcause := fc }

/-- The current copy is aborted at the drain bound: its watermark stays active (R111). -/
def Channel.abortAtDrain (ch : Channel) : Channel :=
  if ch.cur.isNone || ch.wm.frz then ch else { ch with wm := { ch.wm with abt := true }, state := 4 }

/-- The current copy's landing may go on: its operands are captured, and it is neither frozen nor aborted. -/
def Channel.runs (ch : Channel) : Bool := ch.cur.any (!·.fresh) && !ch.wm.frz && !ch.wm.abt

/-- The fetched bytes that a copy still needs once its landing index is `l`: CPYT needs those of its group, a store to global
memory those of lines that it has not covered. -/
def Copy.keptFrom (c : Copy) (l : Nat) : Nat :=
  if c.code = 0x07 then l / 512 * 512 else if [0x01, 0x02, 0x1D].contains c.code then 0 else l

/-- The current copy restarts at LIDX: frozen and aborted marks cleared, what was fetched discarded, but for the entries that a
CSCAN has found (R248). A channel frozen with no copy goes on with its queue (R245). -/
def Channel.restart (ch : Channel) (f : Copy → Copy) : Channel :=
  match ch.cur with
  | none => ch.advance
  | some c =>
    { ch with
      cur := some (f { c with buf := if c.code = 0x12 then c.buf else [], lines := [], failed := [], failSrc := 0, waited := 0 }),
      wm := { ch.wm with frz := false, abt := false }, state := 1, fcause := 0 }

/-- The window that a fetch fills takes the state of its flow. -/
def Core.syncFetch (c : Core) (n : Nat) (frz : Bool) : Core :=
  match (vget c.chans n Channel.reset).cur with
  | some k => if k.isFetch || k.code == 0x12 then c.modWin k.args.win.toNat fun w => { w with wm := { w.wm with frz := frz } } else c
  | none => c

/-- A channel of a core freezes, and with it the window of a fetch (R239, R247). -/
def Core.freezeChan (c : Core) (n : Nat) (fc : BitVec 4) (src : BitVec 64) : Core :=
  (c.syncFetch n true).modChan n fun ch => ch.freeze fc src

/-- The row that an ended CSCAN has filled in part does not land: the window's next row starts anew. -/
def Core.dropRow (c : Core) (n : Nat) : Core :=
  match (vget c.chans n Channel.reset).cur with
  | some k => if k.code == 0x12 then c.modWin k.args.win.toNat fun w => { w with part := 0 } else c
  | none => c

/-- CABT on a channel of a core (R271). -/
def Core.abortChan (c : Core) (n : Nat) : Core :=
  let ch := vget c.chans n Channel.reset
  if ch.cur.all Copy.ghost then c else ((c.syncFetch n false).dropRow n).modChan n Channel.finish

/-- Credits held for a window grow by bytes. -/
def Channel.credit (ch : Channel) (t : WindowName) (n : Nat) : Channel :=
  { ch with credits :=
      if ch.credits.any fun p => p.1 == t then ch.credits.map fun p => if p.1 = t then (t, p.2 + n) else p
      else ch.credits ++ [(t, n)] }

/-- A channel with the credit of another added to its own. -/
def Channel.joinCredits (ch other : Channel) : Channel := other.credits.foldl (fun h p => h.credit p.1 p.2) ch

/-- The channels of a core as the end of its task leaves them: without credit for a window that the task has sent to. What is granted
later, or for another window, counts for the core's next release (R364, R365, log entry 121). -/
def Core.dropCredits (c : Core) : Core :=
  { c with chans := c.chans.map fun ch =>
      { ch with credits := ch.credits.filter fun p => !ch.sentTo.contains p.1, sentTo := [] } }

/-- Every copy of a core aborted (R344). -/
def Core.abortAll (c : Core) : Core :=
  { c with
    chans := c.chans.map fun ch =>
      { ch with
        cur := none, queue := [], wm := { ch.wm with act := false, frz := false, abt := false }, state := 0, fcause := 0,
        tcp := ch.tid, schedCause := none } }

/-- Windows and channels as a release finds them (R87, R231): every one idle, IDs 0, no schedule, empty gather queue. Credit granted
since the core's last task stays (R364, log entry 121). -/
def Core.clearChannels (c : Core) : Core :=
  { c with
    chans := c.chans.map fun ch => { Channel.reset with credits := ch.credits }, wins := Vector.replicate 8 Window.reset, gq := [], gqImg := [], sched := [],
    cstage := 0 }

end Sys2Proof.Machine
end

