-- ==== Sys2Proof/Machine/Tensor.lean ====
section
/-! DEFINITION. Tensors as a copy names them, and the addresses of a copy's source and destination bytes (spec/16 R233, R236, R246;
spec/17 R256, R261, R267; spec/20 R305). -/
namespace Sys2Proof.Machine

/-! ## Tensors (R246, R305, Table 20.4) -/

/-- A tensor descriptor. -/
abbrev TDesc := BitVec 1024

/-- BASE. -/
def TDesc.base (d : TDesc) : Nat := (BitVec.extractLsb' 0 54 d).toNat
/-- EFMT. -/
def TDesc.efmt (d : TDesc) : Nat := (BitVec.extractLsb' 64 4 d).toNat
/-- NDIM. -/
def TDesc.ndim (d : TDesc) : Nat := (BitVec.extractLsb' 68 3 d).toNat
/-- LAYOUT. -/
def TDesc.layout (d : TDesc) : Nat := (BitVec.extractLsb' 72 2 d).toNat
/-- EXTd; 1 for a dimension that the tensor does not have. -/
def TDesc.extent (d : TDesc) (k : Nat) : Nat :=
  if k < TDesc.ndim d then (BitVec.extractLsb' (128 + 128 * k) 32 d).toNat else 1
/-- STRIDEd. -/
def TDesc.stride (d : TDesc) (k : Nat) : Int := (BitVec.extractLsb' (192 + 128 * k) 64 d).toInt
/-- Bytes of an element. -/
def TDesc.esz (d : TDesc) : Nat := efmtBytes (TDesc.efmt d)
/-- The extents. -/
def TDesc.extents (d : TDesc) : List Nat := (List.range (TDesc.ndim d)).map (TDesc.extent d)
/-- Bytes of a dimension-0 row. -/
def TDesc.rowBytes (d : TDesc) : Nat := TDesc.extent d 0 * TDesc.esz d

/-- The descriptor breaks no rule of R302 and R305 (log entry 23: bit 7 of word 0x08 is taken as reserved). -/
def TDesc.ok (d : TDesc) : Bool :=
  BitVec.extractLsb' 54 10 d == 0 && (TDesc.efmt d ≤ 8 || TDesc.efmt d == 10) && 1 ≤ TDesc.ndim d && TDesc.ndim d ≤ 6 &&
    TDesc.layout d ≤ 1 && !BitVec.getLsbD d 71 && BitVec.extractLsb' 74 54 d == 0 &&
    ((List.range 6).all fun k => BitVec.extractLsb' (160 + 128 * k) 32 d == 0 && (TDesc.ndim d ≤ k || TDesc.extent d k != 0)) &&
    BitVec.extractLsb' 896 128 d == 0 && (TDesc.layout d == 0 || 2 ≤ TDesc.ndim d)

/-- The offset from BASE of the element at coordinates (R246). -/
def TDesc.offset (d : TDesc) (coord : List Nat) : Int :=
  let x (k : Nat) : Int := (coord.getD k 0 : Nat) * TDesc.stride d k
  let outer := (((List.range (TDesc.ndim d)).drop 2).map x).sum
  if TDesc.layout d = 0 then x 0 + (if 2 ≤ TDesc.ndim d then x 1 else 0) + outer
  else
    let e := TDesc.esz d
    let c := coord.getD 0 0
    let r := coord.getD 1 0
    let tile := r / 128 * ((TDesc.extent d 0 + 127) / 128) + c / 128
    let b := c % 128 * e
    outer + (tile * 16384 * e + r % 128 * 128 * e + (b / 16 ^^^ r % 8) * 16 + b % 16 : Nat)

/-- The coordinates of an element of a region by its number, dimension 0 fastest (R256). -/
def odometer : List Nat → List Nat → Nat → List Nat
  | c :: cs, e :: es, n => (c + n % e) :: odometer cs es (n / e)
  | _, _, _ => []

/-- The virtual address of byte `i` of a region. -/
def regionVa (d : TDesc) (coord ext : List Nat) (i : Nat) : Nat :=
  let e := TDesc.esz d
  ((TDesc.base d : Int) + TDesc.offset d (odometer coord ext (i / e)) + (i % e : Nat)).toNat

/-- Bytes of a region. -/
def regionBytes (d : TDesc) (ext : List Nat) : Nat := ext.foldl (· * ·) 1 * TDesc.esz d

/-- The least and the greatest offset that a region's elements have; with layout 1, of the tiles that it touches. -/
def regionSpan (d : TDesc) (coord ext : List Nat) : Int × Int :=
  let ends (k : Nat) : Int × Int :=
    let a : Int := (coord.getD k 0 : Nat) * TDesc.stride d k
    let b : Int := (coord.getD k 0 + ext.getD k 1 - 1 : Nat) * TDesc.stride d k
    (min a b, max a b)
  let dims := if TDesc.layout d = 0 then List.range (TDesc.ndim d) else (List.range (TDesc.ndim d)).drop 2
  let outer := dims.foldl (fun (p : Int × Int) k => (p.1 + (ends k).1, p.2 + (ends k).2)) (0, 0)
  if TDesc.layout d = 0 then (outer.1, outer.2 + (TDesc.esz d : Nat))
  else
    let t (c r : Nat) : Nat := r / 128 * ((TDesc.extent d 0 + 127) / 128) + c / 128
    let c := coord.getD 0 0
    let r := coord.getD 1 0
    let size := 16384 * TDesc.esz d
    (outer.1 + (t c r * size : Nat), outer.2 + ((t (c + ext.getD 0 1 - 1) (r + ext.getD 1 1 - 1) + 1) * size : Nat))

/-- The region lies within the 54-bit addresses (R302, R247; log entry 24). -/
def regionInRange (d : TDesc) (coord ext : List Nat) : Bool :=
  let p := regionSpan d coord ext
  0 ≤ (TDesc.base d : Int) + p.1 && (TDesc.base d : Int) + p.2 ≤ 2 ^ 54

/-- A number put into a rising list. -/
def insertNat (n : Nat) : List Nat → List Nat
  | [] => [n]
  | m :: r => if n < m then n :: m :: r else if n = m then m :: r else m :: insertNat n r

/-- The lines that a region touches, as virtual addresses divided by 128, rising (R273, R274). -/
def regionLines (d : TDesc) (coord ext : List Nat) : List Nat :=
  (List.range (regionBytes d ext)).foldl (fun l i =>
    let n := regionVa d coord ext i / 128
    if l.contains n then l else insertNat n l) []

/-- The coordinates that a gather index names (R267). -/
def rowCoord (d : TDesc) (r : Nat) : List Nat :=
  0 :: (((List.range (TDesc.ndim d)).drop 1).foldl (fun (p : List Nat × Nat) k =>
    (p.1 ++ [p.2 % TDesc.extent d k], p.2 / TDesc.extent d k)) ([], r)).1

/-- Rows that a tensor has: the product of the extents of dimensions 1 and up. -/
def TDesc.rows (d : TDesc) : Nat := ((TDesc.extents d).drop 1).foldl (· * ·) 1

/-- A region's extents as one row. -/
def rowExt (d : TDesc) : List Nat := TDesc.extent d 0 :: (List.replicate (TDesc.ndim d - 1) 1)

/-! ## Addresses of a copy -/

/-- The source lies in the own scratchpad. -/
def Copy.fromSpad (c : Copy) : Bool := [0x01, 0x02, 0x03, 0x04, 0x05, 0x0A, 0x1D, 0x1E].contains c.code

/-- The source of the copy is a tensor (R271). -/
def Copy.fromTensor (c : Copy) : Bool := [0x00, 0x07, 0x09, 0x0B, 0x0C, 0x12, 0x1F].contains c.code

/-- The destination is a tensor in global memory. -/
def Copy.toTensor (c : Copy) : Bool := [0x01, 0x02, 0x0A, 0x1D, 0x1E].contains c.code

/-- The operation acts on lines (R273). -/
def Copy.onLines (c : Copy) : Bool := 0x13 ≤ c.code && c.code ≤ 0x16

/-- The virtual address of the tensor byte at landing index `i`, by the operands (R246, R261, R267). -/
def Copy.regionByte (c : Copy) (i : Nat) : Nat :=
  let a := c.args
  match c.code with
  | 0x09 | 0x0A =>
    let n := TDesc.rowBytes a.desc
    regionVa a.desc (rowCoord a.desc (a.rows.getD (i / n) 0).toNat) (rowExt a.desc) (i % n)
  | 0x1D => if i < c.total / 2 then regionVa a.desc a.coord a.ext i else regionVa a.desc2 a.coord a.ext (i - c.total / 2)
  | _ => regionVa a.desc a.coord a.ext i

/-- The scratchpad address of the source byte of a copy with a scratchpad source, by the operands. -/
def Copy.boxByte (c : Copy) (i : Nat) : Nat :=
  match c.op with
  | .c 0x03 (.l f) => f.src.toNat + i
  | .c 0x1D _ => c.addrAt (i % (c.total / 2))
  | _ => c.addrAt i

/-- The address of the source unit that comes next, by the operands (Table 16.3). -/
def Copy.unitNext (c : Copy) : Nat :=
  let a := c.args
  if c.fromSpad then c.boxByte c.lidx / 128 * 128
  else if c.code = 0x12 then regionVa a.desc a.coord a.ext (a.row0 * TDesc.esz a.desc) / 128 * 128
  else if c.fromTensor then c.regionByte c.lidx / 128 * 128
  else if c.code = 0x1A then (regionLines a.desc a.coord a.ext).getD (c.lidx / 4) 0 * 128
  else if c.onLines then (regionLines a.desc a.coord a.ext).getD (c.lidx / 128) 0 * 128
  else 0

/-- How far the next source unit that software has written lies from that of the operands: landing goes on from there (R236). -/
def Copy.shift (c : Copy) : Int := match c.next with | none => 0 | some v => (v.toNat : Int) - c.unitNext

/-- The virtual address of the tensor byte at landing index `i`. -/
def Copy.tensorVa (c : Copy) (i : Nat) : Nat := if c.fromTensor then ((c.regionByte i : Int) + c.shift).toNat else c.regionByte i

/-- The virtual address of the replica's byte (R261). -/
def Copy.replicaVa (c : Copy) (i : Nat) : Nat := regionVa c.args.desc2 c.args.coord c.args.ext i

/-- The scratchpad address of the source byte at landing index `i`. -/
def Copy.spadSrc (c : Copy) (i : Nat) : Nat := ((c.boxByte i : Int) + c.shift).toNat

/-- The address of the source byte at landing index `i`. -/
def Copy.sourceAt (c : Copy) (i : Nat) : Nat := if c.fromSpad then c.spadSrc i else if c.fromTensor then c.tensorVa i else 0

/-- The address of the source unit of landing index `i` (R247). -/
def Copy.unitAt (c : Copy) (i : Nat) : Nat := c.sourceAt i / 128 * 128

/-- The copy at a later landing index; a written next unit follows. -/
def Copy.goTo (c : Copy) (l : Nat) : Copy :=
  let d : Copy := { c with lidx := l }
  { d with next := c.next.map fun _ => BitVec.ofInt 64 ((d.unitNext : Int) + c.shift) }

/-- The current copy has landed `n` more bytes: LIDX and ADDR advance (R234, R236). -/
def Channel.landed (ch : Channel) (n : Nat) : Channel :=
  match ch.cur with
  | none => ch
  | some c =>
    let l := c.lidx + n
    let c := { (c.goTo l) with buf := c.buf.filter fun p => c.keptFrom l ≤ p.1 }
    { ch with
      cur := some c,
      wm := if c.tracks then { ch.wm with addr := BitVec.ofNat 22 (c.addrAt c.lidx) } else ch.wm }

end Sys2Proof.Machine
end

