-- ==== Sys2Proof/Machine/Opm.lean ====
section
/-! DEFINITION. The OPM window of a core: what each offset reads as, and what a write does when (spec/12 R183, R201; spec/16
R236, R237; spec/19 R284, R285, R395; spec/07 R100). -/
namespace Sys2Proof.Machine

/-- A core stopped so that writes to its IMEM, copy state and mesh take effect (R285): frozen, parked or halted. -/
def Core.stopped (c : Core) : Bool := c.run == .frozen || c.run == .parked || c.run == .halted

/-- A special-register number that each bank has of its own (chapter 7). -/
def bankedSpecial (n : Nat) : Bool :=
  n ≤ 0x05F || (0x0C0 ≤ n && n ≤ 0x0C7) || n == 0x0CC || (0x0E0 ≤ n && n ≤ 0x0E3)

/-- The words of a copy in the copy state (Table 16.3). -/
def Copy.word (c : Copy) (k : Nat) : BitVec 64 :=
  match k with
  | 0 => c.tid ++ (0 : BitVec 10) ++ BitVec.ofNat 22 c.dbase
  | 1 => (0 : BitVec 10) ++ BitVec.ofNat 22 c.s1 ++ (0 : BitVec 10) ++ BitVec.ofNat 22 c.e0
  | 2 => BitVec.ofNat 16 c.n2 ++ (0 : BitVec 10) ++ BitVec.ofNat 22 c.s2 ++ BitVec.ofNat 16 c.n1
  | 3 => c.next.getD (BitVec.ofNat 64 c.unitNext)
  | 4 => BitVec.ofNat 32 c.total ++ BitVec.ofNat 32 c.lidx
  | 5 => c.failSrc
  | 6 => c.payload
  | _ => 0

/-- A copy with no captured operands, for a restore. -/
def Copy.blank : Copy where
  op := .c 0 (.kz ⟨⟨0, false⟩, 0⟩)
  payload := 0
  num := 0
  tid := 0
  dbase := 0
  e0 := 0
  s1 := 0
  n1 := 0
  s2 := 0
  n2 := 0
  total := 0
  lidx := 0
  next := none
  failSrc := 0
  args := ⟨0, 0, [], [], 0, 0, 0, 0, [], 0, 0, 0⟩
  buf := []
  failed := []
  waited := 0
  counted := 0
  closed := false
  lines := []
  fresh := true
  ending := false
  heldOn := none
  held := 0

/-- A copy with one of its words written: a payload other than its own leaves its operands to be captured (R237; log entry 61). -/
def Copy.setWord (c : Copy) (k : Nat) (v : BitVec 64) : Copy :=
  match k with
  | 0 => { c with tid := v.extractLsb' 32 32, dbase := (v.extractLsb' 0 22).toNat }
  | 1 => { c with s1 := (v.extractLsb' 32 22).toNat, e0 := (v.extractLsb' 0 22).toNat }
  | 2 => { c with n2 := (v.extractLsb' 48 16).toNat, s2 := (v.extractLsb' 16 22).toNat, n1 := (v.extractLsb' 0 16).toNat }
  | 3 => if v = c.word 3 then c else { c with next := some v, buf := [], failed := [] }
  | 4 => { c with total := (v.extractLsb' 32 32).toNat, lidx := (v.extractLsb' 0 32).toNat, buf := [] }
  | 5 => { c with failSrc := v }
  | 6 =>
    if v = c.payload then c
    else { c with payload := v, fresh := true, op := match decodeSlot .c0 v with | .ok w => w | .error _ => Copy.blank.op }
  | _ => c

/-- Word `k` of a channel's copy state: the current copy, then the queued ones. -/
def Channel.stateWord (ch : Channel) (k : Nat) : BitVec 64 :=
  match (if k < 8 then ch.cur else ch.queue[k / 8 - 1]?) with
  | some c => c.word (k % 8)
  | none => 0

/-- A channel with a word of its copy state written: queued copies in any order. -/
def Channel.setStateWord (ch : Channel) (k : Nat) (v : BitVec 64) : Channel :=
  if k < 8 then
    if ch.cur.isNone && v == 0 then ch else { ch with cur := some ((ch.cur.getD Copy.blank).setWord k v) }
  else if 15 < k / 8 ∨ (ch.queue.length < k / 8 ∧ v = 0) then ch
  else
    { ch with queue := (ch.queue ++ List.replicate (k / 8 - ch.queue.length) Copy.blank).mapIdx fun i c =>
        if i + 1 = k / 8 then c.setWord (k % 8) v else c }

/-! ## The gather queue's entries (R244) -/

/-- A GATH or SCAT. -/
def Copy.isRows (c : Copy) : Bool := c.code == 0x09 || c.code == 0x0A

/-- The rows of a GATH or SCAT that have been read whole: the leading ones. -/
def Copy.rowsRead (c : Copy) : Nat :=
  ((List.range c.args.rows.length).takeWhile fun i =>
    (List.range c.e0).all fun k => i * c.e0 + k < c.lidx || c.buf.any fun p => p.1 == i * c.e0 + k).length

/-- The GATHs and SCATs of a core, with their operands captured, in claim order. -/
def Core.claimers (c : Core) : List Copy :=
  let all := (c.chans.toList.flatMap fun h => h.cur.toList ++ h.queue).filter fun k => k.isRows && !k.fresh
  let rec put (k : Copy) : List Copy → List Copy
    | [] => [k]
    | j :: r => if k.num < j.num then k :: j :: r else j :: put k r
  all.foldr put []

/-- The entries of the gather queue, oldest first: claimed ones whose rows are still to be read, then the unclaimed ones (R244); or as
software has written them. -/
def Core.gqShow (c : Core) : List (BitVec 32) :=
  if c.gqImg.isEmpty then (c.claimers.flatMap fun k => k.args.rows.drop k.rowsRead) ++ c.gq else c.gqImg

/-- The core with an entry of the gather queue written. -/
def Core.setGq (c : Core) (i : Nat) (v : BitVec 32) : Core :=
  { c with gqImg := (List.range 64).map fun k => if k = i then v else c.gqShow.getD k 0 }

/-- GQCNT written: so many unclaimed entries stand behind the claimed ones. -/
def Core.setGqcnt (c : Core) (n : Nat) : Core :=
  { c with gqImg := (List.range 64).map fun k => c.gqShow.getD k 0, gq := (List.range (min 64 n)).map fun k => c.gq.getD k 0 }

/-- A copy takes what it claims of the written entries: one whose operands are still to be captured, its rows (log entry 61). -/
def Copy.claim (c : Copy) (img : List (BitVec 32)) : Copy × List (BitVec 32) :=
  if !c.isRows then (c, img)
  else if !c.fresh then (c, img.drop (c.args.rows.length - c.rowsRead))
  else
    let done := if c.e0 = 0 then 0 else c.lidx / c.e0
    let n := (c.payload.extractLsb' 31 7).toNat
    ({ c with args := { c.args with rows := List.replicate done 0 ++ img.take (n - done) } }, img.drop (n - done))

/-- The written gather queue as a restarted core takes it: the copies' claims first, then GQCNT entries. -/
def Core.settleQueue (c : Core) : Core :=
  if c.gqImg.isEmpty then c
  else
    let r := (List.range 8).foldl (fun (p : Core × List (BitVec 32)) n =>
      let h := vget p.1.chans n Channel.reset
      let cur := match h.cur with | some k => (some (k.claim p.2).1, (k.claim p.2).2) | none => (none, p.2)
      let q := h.queue.foldl (fun (q : List Copy × List (BitVec 32)) k => (q.1 ++ [(k.claim q.2).1], (k.claim q.2).2)) ([], cur.2)
      (p.1.modChan n fun h => { h with cur := cur.1, queue := q.1 }, q.2)) (c, c.gqImg)
    { r.1 with gq := r.2.take c.gq.length, gqImg := [] }

/-- A watermark with every field written (R236). -/
def wmOf (v : BitVec 64) : Wm := ⟨v.extractLsb' 32 32, v.getLsbD 31, v.getLsbD 30, v.getLsbD 29, v.getLsbD 28, v.setWidth 22⟩

/-- Word `k` of a window's state (Table 16.4). -/
def Window.word (w : Window) (k : Nat) : BitVec 64 :=
  match k with
  | 0 => w.w0
  | 1 => w.b.setWidth 64
  | k => w.ident.extractLsb' (64 * (k - 2)) 64

/-- A 64-bit word replaced at word `k` of a wider value. -/
def putWord (x : BitVec n) (k : Nat) (v : BitVec 64) : BitVec n :=
  (x &&& ~~~((BitVec.allOnes 64).setWidth n <<< (64 * k))) ||| (v.setWidth n <<< (64 * k))

/-- A window with a word of its state written; the rows below B + N are fetchable (R242). -/
def Window.setWord (w : Window) (k : Nat) (v : BitVec 64) : Window :=
  let w := match k with
    | 0 => { w with w0 := v }
    | 1 => { w with b := v.setWidth 22 }
    | k => { w with ident := putWord w.ident (k - 2) v }
  if k < 2 then { w with fetchable := w.b.toNat + w.slots } else w

/-- A channel whose watermark software has written (R236): the copy shown is frozen, aborted, or running as it says; one that no longer
is frozen reads its source again from LIDX. -/
def Channel.setWm (ch : Channel) (w : Wm) : Channel :=
  { ch with
    cur := if ch.wm.frz && !w.frz then ch.cur.map fun c => { c with buf := [], failed := [] } else ch.cur,
    wm := w, state := if w.frz then 3 else if w.abt then 4 else if ch.cur.isSome then 1 else 0 }

/-! ## The register-file window of a bank -/

/-- Eight predicates as bytes, from p`k`. -/
def predWord (p : BitVec 16) (k : Nat) : BitVec 64 :=
  BitVec.ofNat 64 (((List.range 8).map fun i => if p.getLsbD (k + i) then 2 ^ (8 * i) else 0).sum)

/-- Word `k` of the loop state record: lpend, DRC operand, LBODY, ROTB. -/
def Bank.loopWord (b : Bank) (k : Nat) : BitVec 64 :=
  match k with
  | 0 => b.loop.lpend.setWidth 64
  | 1 => b.loop.drcOp.setWidth 64
  | 2 => b.loop.word
  | _ => b.rotb.setWidth 64

/-- Word at an 8-byte-aligned offset of a bank's register-file window (Table 19.2, offsets from +0x050_0000). -/
def regWord (s : State) (no : Nat) (c : Core) (isB : Bool) (o : Nat) : BitVec 64 :=
  let b := if isB then c.bankB else c.bankA
  if o < 0x200 then vget b.x (o / 8) 0
  else if o < 0x210 then predWord b.p (o - 0x200)
  else if 0x400 ≤ o ∧ o < 0x480 then (vget b.m ((o - 0x400) / 16) 0).extractLsb' (64 * (o / 8 % 2)) 64
  else if 0x800 ≤ o ∧ o < 0xC00 then (vget b.z ((o - 0x800) / 64) 0).extractLsb' (64 * (o / 8 % 8)) 64
  else if 0x1000 ≤ o ∧ o < 0x3000 then
    let n := (o - 0x1000) / 8
    if isB && !bankedSpecial n then 0
    else if n = 0 then BitVec.ofNat 64 no
    else (specialOf s c b n).getD 0
  else if 0x4000 ≤ o ∧ o < 0x4060 then
    match vget b.rem ((o - 0x4000) / 16) none with
    | none => 0
    | some w => if o % 16 = 0 then w else 1
  else if 0x4100 ≤ o ∧ o < 0x4120 then b.loopWord ((o - 0x4100) / 8)
  else if 0x8000 ≤ o ∧ o < 0xA000 ∧ !isB then (vget c.chans ((o - 0x8000) / 0x400) Channel.reset).stateWord (o / 8 % 128)
  else if 0xA000 ≤ o ∧ o < 0xA200 ∧ !isB then (vget c.wins ((o - 0xA000) / 0x40) Window.reset).word (o / 8 % 8)
  else if 0xA800 ≤ o ∧ o < 0xA900 ∧ !isB then
    let k := (o - 0xA800) / 4
    c.gqShow.getD (k + 1) 0 ++ c.gqShow.getD k 0
  else if o = 0xA900 ∧ !isB then BitVec.ofNat 32 c.gq.length |>.setWidth 64
  else if 0x10000 ≤ o ∧ o < 0x18000 then
    (vget b.v ((o - 0x10000) / 512) 0).extractLsb' (64 * (o / 8 % 64)) 64
  else 0

/-- A remembered operation's entry holds a payload that the slot does not remember: it is stored as the no-op (R395). -/
def neverKept (k : Nat) (v : BitVec 64) : Bool :=
  let slot := allSlots.getD k .s
  !remembersOp slot (payloadOp slot v)

/-- PAYLOAD of a remembered-operation entry written (R395): with VALID 0 it shows once VALID is written 1. -/
def Bank.setPayload (b : Bank) (k : Nat) (v : BitVec 64) : Bank :=
  if neverKept k v then { b with rem := vset b.rem k none, remWritten := vset b.remWritten k 0 }
  else if (vget b.rem k none).isSome then { b with rem := vset b.rem k (some v) }
  else { b with remWritten := vset b.remWritten k v }

/-- VALID of a remembered-operation entry written (R395). -/
def Bank.setValid (b : Bank) (k : Nat) (valid : Bool) : Bank :=
  let w := vget b.remWritten k 0
  let b := { b with remWritten := vset b.remWritten k 0 }
  if !valid then { b with rem := vset b.rem k none }
  else if (vget b.rem k none).isSome then b
  else { b with rem := vset b.rem k (if neverKept k w then none else some w) }

/-- A bank with a word of its register-file window written (R285, R395); `stop`: the core is stopped. -/
def Bank.setRegWord (b : Bank) (stop : Bool) (o : Nat) (v : BitVec 64) : Bank :=
  if o < 0x200 then b.writeReg ⟨.x, o / 8⟩ (v.setWidth 4096) 0
  else if o < 0x210 then
    (List.range 8).foldl (fun b i =>
      b.writeReg ⟨.p, o - 0x200 + i⟩ (if v.getLsbD (8 * i) then 1 else 0) 0) b
  else if 0x400 ≤ o ∧ o < 0x480 then
    let n := (o - 0x400) / 16
    b.writeReg ⟨.m, n⟩ ((putWord (vget b.m n 0) (o / 8 % 2) v).setWidth 4096) 0
  else if 0x800 ≤ o ∧ o < 0xC00 then
    let n := (o - 0x800) / 64
    { b with z := vset b.z n (putWord (vget b.z n 0) (o / 8 % 8) v) }
  else if 0x10000 ≤ o ∧ o < 0x18000 then
    let n := (o - 0x10000) / 512
    { b with v := vset b.v n (putWord (vget b.v n 0) (o / 8 % 64) v) }
  else if 0x1000 ≤ o ∧ o < 0x3000 then
    let n := (o - 0x1000) / 8
    if specialWritable n then b.setSpecial n v else b
  else if 0x4000 ≤ o ∧ o < 0x4060 ∧ stop then
    let k := (o - 0x4000) / 16
    if o % 16 = 0 then b.setPayload k (if k = 0 then v.setWidth 32 |>.setWidth 64 else v) else b.setValid k (v.getLsbD 0)
  else if 0x4100 ≤ o ∧ o < 0x4120 ∧ stop then
    match (o - 0x4100) / 8 with
    | 0 => { b with loop := { b.loop with lpend := v.setWidth 32 } }
    | 1 => { b with loop := { b.loop with drcOp := v.setWidth 6 } }
    | 2 => { b with loop := { b.loop with act := v.getLsbD 63, len := v.extractLsb' 18 6, start := v.setWidth 18 } }
    | _ => { b with rotb := v.setWidth 5 }
  else b

/-- A core with a word of bank A's register-file window written, the core's own state among it. -/
def Core.setOwnWord (c : Core) (o : Nat) (v : BitVec 64) : Core :=
  let stop := c.stopped
  if 0x1000 ≤ o ∧ o < 0x3000 then
    let n := (o - 0x1000) / 8
    if 0x080 ≤ n ∧ n ≤ 0x087 then
      if stop then c.modChan (n - 0x080) fun ch => ch.setWm (wmOf v) else c
    else if 0x088 ≤ n ∧ n ≤ 0x08F then (if stop then c.modWin (n - 0x088) fun w => { w with wm := wmOf v } else c)
    else if n = 0x060 ∨ n = 0x061 ∨ n = 0x0E8 then c.setSpecial n v
    else { c with bankA := c.bankA.setRegWord stop o v }
  else if 0x8000 ≤ o ∧ o < 0xA000 then
    if stop then c.modChan ((o - 0x8000) / 0x400) fun ch => ch.setStateWord (o / 8 % 128) v else c
  else if 0xA000 ≤ o ∧ o < 0xA200 then
    if stop then c.modWin ((o - 0xA000) / 0x40) fun w => w.setWord (o / 8 % 8) v else c
  else if 0xA800 ≤ o ∧ o < 0xA900 then
    if stop then (c.setGq ((o - 0xA800) / 4) (v.setWidth 32)).setGq ((o - 0xA800) / 4 + 1) (v.extractLsb' 32 32) else c
  else if o = 0xA900 then
    if stop then c.setGqcnt (v.setWidth 32).toNat else c
  else { c with bankA := c.bankA.setRegWord stop o v }

/-! ## The mesh region (Table 12.2, Table 12.8) -/

/-- The pushes that the pipeline's slots show: those that have issued (R201). DESIGN CHOICE: slot `i` shows the `i`-th oldest of them
(log entry 134). -/
def Mesh.slots (m : Mesh) : List Push := m.pipe.filter fun p => p.wait == 0

/-- Word 0x00 of a slot descriptor (Table 12.8); REV is the push's direction, 1 for a GRD push too (R181). -/
def slotWord (p : Push) : BitVec 64 :=
  let next := if p.age < 4 then (if p.reverse then 63 else 0) else if p.age < 67 then (if p.reverse then 66 - p.age else p.age - 3)
    else 64
  (1 : BitVec 1) ++ BitVec.ofNat 7 next ++ BitVec.ofNat 8 (72 - p.age) ++ BitVec.ofNat 3 p.op ++ bit p.half ++ bit p.reverse ++
    bit p.tag ++ p.pnum ++ (0 : BitVec 10)

/-- The bits of a stream descriptor that are not reserved (Table 9.1), as places: (first bit, width). -/
def descFields : List (Nat × Nat) :=
  [(0, 33), (63, 1), (64, 46)] ++ (List.range 6).map fun d => (128 + 64 * d, 56)

/-- A stream descriptor without its reserved bits, 416 bits. -/
def packDesc (d : BitVec 512) : Nat := descFields.foldr (fun p acc => (d.extractLsb' p.1 p.2).toNat + acc * 2 ^ p.2) 0

/-- The stream descriptor of such bits. -/
def unpackDesc (v : Nat) : BitVec 512 :=
  BitVec.ofNat 512 (descFields.foldl (fun (acc : Nat × Nat) p => (acc.1 + acc.2 % 2 ^ p.2 * 2 ^ p.1, acc.2 / 2 ^ p.2)) (0, v)).1

/-- TARGET of a slot descriptor (Table 12.8), in a layout of the model's (log entry 79): kind in [1:0], then NOC, a canonical-NaN
landing, the bank, FMT, the v register, the bundle's address / 4, and from bit 32 the stream descriptor. -/
def Push.target (p : Push) : BitVec 448 :=
  let kind : Nat × Nat × Nat := match p.out with | .none => (0, 0, 0) | .reg n => (1, n, 0) | .stream d => (2, 0, packDesc d)
  BitVec.ofNat 416 kind.2.2 ++ (0 : BitVec 1) ++ BitVec.ofNat 16 (p.pc / 4) ++ BitVec.ofNat 6 kind.2.1 ++ p.fmt ++ bit p.bankB ++
    bit p.bad ++ bit p.noc ++ BitVec.ofNat 2 kind.1

/-- Word of the pipeline region that a push in a slot shows: `k` the word of its lanes (below 64) or, from 64, of its descriptor. -/
def Push.slotImage (m : Mesh) (p : Push) (k : Nat) : BitVec 64 :=
  if k < 64 then
    BitVec.ofNat 32 (m.image (lane p.lanes (2 * k + 1)).toNat) ++ BitVec.ofNat 32 (m.image (lane p.lanes (2 * k)).toNat)
  else if k = 64 then slotWord p else p.target.extractLsb' (64 * (k - 65)) 64

/-- The offset of word `k` of slot `i` in the mesh region: lanes, then the descriptor. -/
def slotOffset (i k : Nat) : Nat := if k < 64 then 0x18000 + 0x200 * i + 8 * k else 0x22000 + 0x40 * i + 8 * (k - 64)

/-- Word `k` of pipeline slot `i`: as a restore has written it, else as its push shows it; a slot without one reads as zero. -/
def Mesh.slotAt (m : Mesh) (i k : Nat) : BitVec 64 :=
  match m.written.find? fun p => p.1 == slotOffset i k with
  | some p => p.2
  | none => (m.slots[i]?.map fun p => p.slotImage m k).getD 0

/-- A slot descriptor in range (R201). -/
def slotOk (w : BitVec 64) : Bool :=
  let rem := (w.extractLsb' 48 8).toNat
  (w.extractLsb' 56 7).toNat ≤ 64 && 1 ≤ rem && rem ≤ 72 && (w.extractLsb' 45 3).toNat ≤ 6

/-- A valid pipeline slot holds a descriptor out of range. -/
def Mesh.badSlot (m : Mesh) : Bool :=
  !m.written.isEmpty && (List.range 72).any fun i => (m.slotAt i 64).getLsbD 63 && !slotOk (m.slotAt i 64)

/-- Cycles since its issue for a push that goes on from NEXT, with REM cycles left to landing. -/
def slotAge (rev : Bool) (next rem : Nat) : Nat :=
  let pos := if rev then 63 - next else next
  if 64 ≤ next then max 67 (72 - rem) else if pos = 0 then min 3 (72 - rem) else pos + 3

/-- The output that a restored slot's words name. -/
def slotTarget (t : BitVec 448) : PushOut :=
  match (t.extractLsb' 0 2).toNat with
  | 1 => .reg (t.extractLsb' 9 6).toNat
  | 2 => .stream (unpackDesc (t.extractLsb' 32 416).toNat)
  | _ => .none

/-- The push that a restored slot holds. What the region does not show (the captured NTOL, n_in, the repetition index, the block scales
of its output) is NTOL as it stands, an open value, 0, and what the scratchpad holds now (log entry 79). -/
def Mesh.slotPush (m : Mesh) (sp : Memory) (i : Nat) (nIn : BitVec 32) : Push :=
  let w := m.slotAt i 64
  let t : BitVec 448 := BitVec.ofNat 448 ((List.range 7).foldr (fun k acc => acc * 2 ^ 64 + (m.slotAt i (65 + k)).toNat) 0)
  let rev := w.getLsbD 43
  let op := (w.extractLsb' 45 3).toNat
  let n (x : BitVec 32) : BitVec 32 := BitVec.ofNat 32 (if m.mode then x.toNat else x.toNat / 256)
  { op := op, rev := rev, half := w.getLsbD 44, wait := 0, src := none, tag := w.getLsbD 42, pnum := w.extractLsb' 10 32,
    age := slotAge (rev || op == 6) (w.extractLsb' 56 7).toNat (w.extractLsb' 48 8).toNat,
    lanes := ofLanes ((List.range 64).flatMap fun k => [n ((m.slotAt i k).setWidth 32), n ((m.slotAt i k).extractLsb' 32 32)]),
    out := slotTarget t, scales := (slotTarget t).scales sp,
    noc := t.getLsbD 2, ntol := m.ntol, fmt := t.extractLsb' 5 4, nIn := nIn, ovf := false, bad := t.getLsbD 3, bankB := t.getLsbD 4,
    pc := 4 * (t.extractLsb' 15 16).toNat, rep := 0, seq := 0, cyc := 0 }

/-- The mesh restarts: the pipeline is what its region shows where a restore has written it (R201); a release, which makes no check of
it, takes no slot whose descriptor is out of range. -/
def State.restartMesh (s : State) : State :=
  let m := s.core.mesh
  if m.written.isEmpty then s.modMesh fun m => { m with frz := false }
  else
    let (ps, s) := (List.range 72).foldl (fun (acc : List Push × State) i =>
      match m.slots[i]? with
      | some p =>
        if (List.range 72).all fun k => m.slotAt i k == p.slotImage m k then (p :: acc.1, acc.2)
        else if (m.slotAt i 64).getLsbD 63 && slotOk (m.slotAt i 64) then ({ (m.slotPush acc.2.core.spad i p.nIn) with ntol := p.ntol, rep := p.rep, seq := p.seq } :: acc.1, acc.2)
        else acc
      | none =>
        if (m.slotAt i 64).getLsbD 63 && slotOk (m.slotAt i 64) then
          let (v, s) := acc.2.openValue 32
          (m.slotPush s.core.spad i v :: acc.1, s)
        else acc) ([], s)
    s.modMesh fun m => { m with frz := false, written := [], pipe := ps.reverse ++ m.pipe.filter fun p => p.wait != 0 }

/-- Word at an aligned offset of the mesh region, from +0x060_0000. -/
def meshWord (m : Mesh) (o : Nat) : BitVec 64 :=
  let col (c : Column) (k : Nat) : BitVec 64 :=
    if k < 0x80 then c.ps8.extractLsb' (8 * k) 64 else if k = 0x80 then c.e8.setWidth 64 else 0
  if o < 0x8000 then vget (m.plane m.active) (o / 8) 0
  else if o < 0x10000 then vget (m.plane !m.active) ((o - 0x8000) / 8) 0
  else if o < 0x14000 then vget m.grad ((o - 0x10000) / 4 + 1) 0 ++ vget m.grad ((o - 0x10000) / 4) 0
  else if o < 0x14100 then col m.inCol (o - 0x14000)
  else if o < 0x14200 then col m.outCol (o - 0x14100)
  else if o = 0x14200 then (if m.active then m.hdrB else m.hdrA).setWidth 64
  else if o = 0x14208 then (if m.active then m.hdrA else m.hdrB).setWidth 64
  else if o = 0x14210 then (bit m.cxm ++ bit m.gp ++ bit m.mode).setWidth 64
  else if 0x18000 ≤ o ∧ o < 0x21000 then
    m.slotAt ((o - 0x18000) / 0x200) (o % 0x200 / 8)
  else if 0x22000 ≤ o ∧ o < 0x23200 then m.slotAt ((o - 0x22000) / 0x40) (64 + o % 0x40 / 8)
  else 0

/-- The mesh with a word of its region written, the core being stopped. -/
def setMeshWord (m : Mesh) (o : Nat) (v : BitVec 64) : Mesh :=
  let col (c : Column) (k : Nat) : Column :=
    if k < 0x80 then { c with ps8 := putWord c.ps8 (k / 8) v } else if k = 0x80 then { c with e8 := v.setWidth 32 } else c
  if o < 0x8000 then writeCells m.active (o / 8) [v] m
  else if o < 0x10000 then writeCells (!m.active) ((o - 0x8000) / 8) [v] m
  else if o < 0x14000 then
    if m.gp then
      { m with grad := vset (vset m.grad ((o - 0x10000) / 4) (v.setWidth 32)) ((o - 0x10000) / 4 + 1) (v.extractLsb' 32 32) }
    else m
  else if o < 0x14100 then { m with inCol := col m.inCol (o - 0x14000) }
  else if o < 0x14200 then { m with outCol := col m.outCol (o - 0x14100) }
  else if o = 0x14200 then m.setHeader m.active (v.setWidth 6)
  else if o = 0x14208 then m.setHeader (!m.active) (v.setWidth 6)
  else if o = 0x14210 then
    { m with mode := v.getLsbD 0, gp := v.getLsbD 1, cxm := v.getLsbD 2,
             grad := if v.getLsbD 1 then m.grad else Vector.replicate 4096 0 }
  else if (0x18000 ≤ o ∧ o < 0x21000) ∨ (0x22000 ≤ o ∧ o < 0x23200) then { m with written := Sparse.put m.written o v }
  else m

/-! ## The slot queues (R112) -/

/-- An idle entry that stands where software has written only a later one. -/
def Entry.idle : Entry := ⟨none, false, 0, 0, 4, 0, 0, 0, 0, 0⟩

/-- Word `k` of a queued entry: its payload; what dispatch fixed (VALID, an operation, sticky, length in words, SYNC, rotation base,
stage predicates, repetition, address); its bundle issue; the one before which every S entry is io-before it. -/
def Entry.word (e : Entry) (k : Nat) : BitVec 64 :=
  match k with
  | 0 => (e.op.map View.encode).getD 0
  | 1 =>
    (1 : BitVec 1) ++ bit e.op.isSome ++ bit e.sticky ++ BitVec.ofNat 8 (e.len / 4) ++ e.sync ++ e.rotb ++ e.stage ++ BitVec.ofNat 6 e.rep ++
      (0 : BitVec 10) ++ BitVec.ofNat 18 e.pc
  | 2 => BitVec.ofNat 64 e.seq
  | _ => BitVec.ofNat 64 e.after

/-- A queued entry with a word written. -/
def Entry.setWord (slot : Slot) (e : Entry) (k : Nat) (v : BitVec 64) : Entry :=
  match k with
  | 0 => { e with op := match decodeSlot slot v with | .ok w => some w | .error _ => none }
  | 1 =>
    { e with
      op := if v.getLsbD 62 then e.op else none, sticky := v.getLsbD 61, len := 4 * (v.extractLsb' 53 8).toNat, sync := v.extractLsb' 47 6,
      rotb := v.extractLsb' 42 5, stage := v.extractLsb' 34 8, rep := (v.extractLsb' 28 6).toNat, pc := (v.extractLsb' 0 18).toNat }
  | 2 => { e with seq := v.toNat }
  | _ => { e with after := v.toNat }

/-- Word `k` of entry `i` of a slot's queue of a bank. -/
def Bank.queueWord (b : Bank) (t i k : Nat) : BitVec 64 := (((vget b.queues t [])[i]?).map fun e => e.word k).getD 0

/-- A bank with a word of a slot's queue written: a word without VALID ends the queue there. -/
def Bank.setQueueWord (b : Bank) (t i k : Nat) (v : BitVec 64) : Bank :=
  let q := vget b.queues t []
  let slot := allSlots.getD t .s
  if k = 1 ∧ !v.getLsbD 63 then { b with queues := vset b.queues t (q.take i) }
  else if q.length ≤ i ∧ v = 0 then b
  else
    { b with queues := vset b.queues t ((q ++ List.replicate (i + 1 - q.length) Entry.idle).mapIdx fun j e =>
        if j = i then e.setWord slot k v else e) }

/-- An offset among the slot queues: bank, slot, entry, word. DESIGN CHOICE of the place and the layout, in the snapshot buffer's region:
R112 says that software reads and writes the queues, and Table 19.2 names no offset of their own (log entry 127). -/
def queuePlace (o : Nat) : Option (Bool × Nat × Nat × Nat) :=
  if 0x710000 ≤ o ∧ o < 0x711800 then
    let q := o - 0x710000
    some (0xC00 ≤ q, q % 0xC00 / 0x200, q % 0x200 / 0x20, q % 0x20 / 8)
  else none

/-! ## The window -/

/-- Word at an 8-byte-aligned offset of a core's OPM window that is neither scratchpad nor IMEM. -/
def opmWord (s : State) (no : Nat) (c : Core) (o : Nat) : BitVec 64 :=
  if 0x500000 ≤ o ∧ o < 0x520000 then regWord s no c false (o - 0x500000)
  else if 0x780000 ≤ o ∧ o < 0x7A0000 then regWord s no c true (o - 0x780000)
  else if 0x600000 ≤ o ∧ o < 0x624000 then meshWord c.mesh (o - 0x600000)
  else if 0x700000 ≤ o ∧ o < 0x700180 then (vget c.psb ((o - 0x700000) / 8) ⟨0, 0⟩).header
  else if 0x701000 ≤ o ∧ o < 0x70D000 then
    (vget c.psb ((o - 0x701000) / 0x400) ⟨0, 0⟩).payload.extractLsb' (64 * (o / 8 % 128)) 64
  else
    match queuePlace o with
    | some (isB, t, i, k) => (if isB then c.bankB else c.bankA).queueWord t i k
    | none => 0

/-- The valid entries of the buffer, which PSBCNT counts (R99). -/
def validEntries (psb : Vector Snapshot 48) : Nat := (psb.toList.filter fun e => e.header.getLsbD 63).length

/-- A core with such a word written, where a write takes effect. -/
def Core.setOpmWord (c : Core) (o : Nat) (v : BitVec 64) : Core :=
  let snap := c.run == .frozen || c.run == .parked
  if 0x500000 ≤ o ∧ o < 0x520000 then c.setOwnWord (o - 0x500000) v
  else if 0x780000 ≤ o ∧ o < 0x7A0000 then
    let q := o - 0x780000
    if 0x1000 ≤ q ∧ q < 0x3000 ∧ !bankedSpecial ((q - 0x1000) / 8) then c
    else { c with bankB := c.bankB.setRegWord c.stopped q v }
  else if 0x600000 ≤ o ∧ o < 0x624000 then (if c.stopped then { c with mesh := setMeshWord c.mesh (o - 0x600000) v } else c)
  else if 0x700000 ≤ o ∧ o < 0x700180 ∧ snap then
    let k := (o - 0x700000) / 8
    let psb := vset c.psb k { (vget c.psb k ⟨0, 0⟩) with header := v }
    { c with psb := psb, psbCnt := validEntries psb }
  else if 0x701000 ≤ o ∧ o < 0x70D000 ∧ snap then
    let k := (o - 0x701000) / 0x400
    let e := vget c.psb k ⟨0, 0⟩
    { c with psb := vset c.psb k { e with payload := putWord e.payload (o / 8 % 128) v } }
  else
    match queuePlace o with
    | some (isB, t, i, k) =>
      if !c.stopped then c
      else if isB then { c with bankB := c.bankB.setQueueWord t i k v } else { c with bankA := c.bankA.setQueueWord t i k v }
    | none => c

/-- A byte of a core's OPM window (Table 19.2). -/
def opmByte (s : State) (no : Nat) (c : Core) (o : Nat) : BitVec 8 :=
  if o < 0x300000 then c.spad.read o
  else if 0x400000 ≤ o ∧ o < 0x440000 then c.imem.read (o - 0x400000)
  else (opmWord s no c (o / 8 * 8)).extractLsb' (8 * (o % 8)) 8

/-- Bytes of a core's OPM window. -/
def State.opmRead (s : State) (no o n : Nat) : List (BitVec 8) :=
  (List.range n).map fun i => opmByte s no (s.coreAt no) (o + i)

/-- The bytes of a write that one store takes: a byte of scratchpad or IMEM, elsewhere those in one 8-byte word. -/
def opmChunk (o n : Nat) : Nat := if o < 0x300000 ∨ (0x400000 ≤ o ∧ o < 0x440000) then 1 else min n (8 - o % 8)

/-- An offset of a remembered operation's PAYLOAD: bank and slot. -/
def payloadPlace (o : Nat) : Option (Bool × Nat) :=
  if 0x504000 ≤ o ∧ o < 0x504060 ∧ o % 16 < 8 then some (false, (o - 0x504000) / 16)
  else if 0x784000 ≤ o ∧ o < 0x784060 ∧ o % 16 < 8 then some (true, (o - 0x784000) / 16)
  else none

/-- The word whose bytes a write replaces: what the window shows, for a PAYLOAD that VALID does not show yet what has been written. -/
def opmBase (s : State) (no : Nat) (c : Core) (o : Nat) : BitVec 64 :=
  match payloadPlace o with
  | some (isB, k) =>
    let b := if isB then c.bankB else c.bankA
    (vget b.rem k none).getD (vget b.remWritten k 0)
  | none => opmWord s no c o

/-- The word that bytes written at an offset make. -/
def opmMerge (s : State) (no : Nat) (c : Core) (o : Nat) (bytes : List (BitVec 8)) : BitVec 64 :=
  let m : Nat := (2 ^ (8 * bytes.length) - 1) * 2 ^ (8 * (o % 8))
  (opmBase s no c (o / 8 * 8) &&& ~~~(BitVec.ofNat 64 m)) ||| BitVec.ofNat 64 (leNat bytes * 2 ^ (8 * (o % 8)))

/-- Bytes of one store written to a core's OPM window (R285): elsewhere than scratchpad and IMEM a word with those bytes replaced. -/
def opmPut (s : State) (no : Nat) (c : Core) (o : Nat) (bytes : List (BitVec 8)) : Core :=
  let b := bytes.headD 0
  if o < 0x300000 then { c with spad := c.spad.write o b, spadBad := c.spadBad.filter (· != o) }
  else if 0x400000 ≤ o ∧ o < 0x440000 then
    if c.stopped then { c with imem := c.imem.write (o - 0x400000) b, imemBad := c.imemBad.filter (· != o - 0x400000) } else c
  else c.setOpmWord (o / 8 * 8) (opmMerge s no c o bytes)

/-- Bytes written make a PAYLOAD that is stored as the no-op: VALID in the same write is stored 0 (R395). -/
def storesNoOp (s : State) (no : Nat) (c : Core) (o : Nat) (bytes : List (BitVec 8)) : Bool :=
  match payloadPlace o with
  | some (_, k) => neverKept k (opmMerge s no c o bytes)
  | none => false

/-- Bytes written to a core's OPM window from an offset, lowest first, `k` bounding the stores. -/
def opmPutAll (s : State) (no : Nat) : Nat → Core → Nat → List (BitVec 8) → Core
  | 0, c, _, _ => c
  | _ + 1, c, _, [] => c
  | k + 1, c, o, b :: bs =>
    let n := opmChunk o (bs.length + 1)
    let now := (b :: bs).take n
    let rest := (b :: bs).drop n
    opmPutAll s no k (opmPut s no c o now) (o + n) (if storesNoOp s no c o now then List.replicate (min 8 rest.length) 0 ++ rest.drop 8 else rest)

/-- Bytes written to a core's OPM window, lowest first. -/
def State.opmWrite (s : State) (no o : Nat) (bytes : List (BitVec 8)) : State :=
  s.setCoreAt no (opmPutAll s no bytes.length (s.coreAt no) o bytes)

/-- The core and offset of an OPM local address (Table 19.1). -/
def opmTarget (la : Nat) : Nat × Nat := ((la - 0x3F0000000000) / 0x4000000, la % 0x4000000)

end Sys2Proof.Machine
end

