-- ==== Sys2Proof/Machine/Slh.lean ====
section
/-! DEFINITION. SLH-DSA-SHA2-128s (FIPS 205), which R372 to R377 use: n = 16, h = 63, d = 7, h' = 9, a = 12, k = 14, w = 16, m = 30.
A signature is a list of 491 blocks of 16 bytes. -/
namespace Sys2Proof.Machine

/-! ## Bytes and hashes (FIPS 205 sections 4.4 and 11.2.1) -/

/-- The first `n` bytes of a list, with zeros after its end. -/
def firstBytes (n : Nat) (l : List (BitVec 8)) : List (BitVec 8) := (List.range n).map fun i => l.getD i 0

/-- A number in `n` bytes, most significant first. -/
def beBytes (n v : Nat) : List (BitVec 8) := (List.range n).map fun i => BitVec.ofNat 8 (v / 2 ^ (8 * (n - 1 - i)))

/-- The number of bytes, most significant first. -/
def beNat (l : List (BitVec 8)) : Nat := l.foldl (fun v b => v * 256 + b.toNat) 0

/-- The first `n` digits of `w` bits of bytes, most significant first. -/
def slhDigits (w n : Nat) (l : List (BitVec 8)) : List Nat :=
  (List.range n).map fun i => beNat l / 2 ^ (8 * l.length - w * (i + 1)) % 2 ^ w

/-- A compressed address: layer, tree, type and the three words of the type. -/
def slhAdrs (layer tree kind a b c : Nat) : List (BitVec 8) :=
  beBytes 1 layer ++ beBytes 8 tree ++ beBytes 1 kind ++ beBytes 4 a ++ beBytes 4 b ++ beBytes 4 c

/-- F, H, T and PRF: the public seed padded to a block, the address, the input. -/
def slhHash (seed adrs m : List (BitVec 8)) : List (BitVec 8) :=
  firstBytes 16 (sha256 (seed ++ List.replicate 48 0 ++ adrs ++ m))

/-- HMAC-SHA-256 under a key of at most 64 bytes. -/
def hmac256 (key m : List (BitVec 8)) : List (BitVec 8) :=
  sha256 ((firstBytes 64 key).map (· ^^^ 0x5C) ++ sha256 ((firstBytes 64 key).map (· ^^^ 0x36) ++ m))

/-- H_msg: the 30 bytes that choose what signs a message. -/
def slhDigest (r seed root m : List (BitVec 8)) : List (BitVec 8) :=
  firstBytes 30 (sha256 (r ++ seed ++ sha256 (r ++ seed ++ root ++ m) ++ beBytes 4 0))

/-! ## Hash trees (sections 6 and 8) -/

/-- The node of a height and index of a tree of leaves. -/
def treeNode (leaf : Nat → List (BitVec 8)) (join : Nat → Nat → List (BitVec 8) → List (BitVec 8) → List (BitVec 8)) :
    Nat → Nat → List (BitVec 8)
  | 0, i => leaf i
  | z + 1, i => join (z + 1) i (treeNode leaf join z (2 * i)) (treeNode leaf join z (2 * i + 1))

/-- The index beside an index. -/
def sibling (k : Nat) : Nat := if k % 2 = 0 then k + 1 else k - 1

/-- The authentication path of a leaf up to a height. -/
def treePath (leaf : Nat → List (BitVec 8)) (join : Nat → Nat → List (BitVec 8) → List (BitVec 8) → List (BitVec 8)) (h i : Nat) :
    List (List (BitVec 8)) :=
  (List.range h).map fun z => treeNode leaf join z (sibling (i / 2 ^ z))

/-- The node of a height above a leaf of an index, from the leaf and its path. -/
def treeRoot (join : Nat → Nat → List (BitVec 8) → List (BitVec 8) → List (BitVec 8)) (i : Nat) (path : List (List (BitVec 8)))
    (x : List (BitVec 8)) : Nat → List (BitVec 8)
  | 0 => x
  | z + 1 =>
    let y := treeRoot join i path x z
    let a := path.getD z []
    if i / 2 ^ z % 2 = 0 then join (z + 1) (i / 2 ^ z / 2) y a else join (z + 1) (i / 2 ^ z / 2) a y

/-! ## WOTS+ (section 5) -/

/-- `n` steps of a chain from step `i` on. -/
def slhChain (step : Nat → List (BitVec 8) → List (BitVec 8)) (i : Nat) (x : List (BitVec 8)) : Nat → List (BitVec 8)
  | 0 => x
  | n + 1 => step (i + n) (slhChain step i x n)

/-- The 35 digits of a 16-byte message and its checksum. -/
def wotsDigits (m : List (BitVec 8)) : List Nat :=
  let d := slhDigits 4 32 m
  d ++ slhDigits 4 3 (beBytes 2 (16 * (d.map fun x => 15 - x).sum))

/-- The secret that chain `i` of a key pair begins with. -/
def wotsSecret (sk seed : List (BitVec 8)) (layer tree kp i : Nat) : List (BitVec 8) := slhHash seed (slhAdrs layer tree 5 kp i 0) sk

/-- A step of chain `i` of a key pair. -/
def wotsStep (seed : List (BitVec 8)) (layer tree kp i j : Nat) (x : List (BitVec 8)) : List (BitVec 8) :=
  slhHash seed (slhAdrs layer tree 0 kp i j) x

/-- A public key from the ends of its chains. -/
def wotsKey (seed : List (BitVec 8)) (layer tree kp : Nat) (ends : List (List (BitVec 8))) : List (BitVec 8) :=
  slhHash seed (slhAdrs layer tree 1 kp 0 0) ends.flatten

/-- The public key of a key pair. -/
def wotsPublic (sk seed : List (BitVec 8)) (layer tree kp : Nat) : List (BitVec 8) :=
  wotsKey seed layer tree kp ((List.range 35).map fun i => slhChain (wotsStep seed layer tree kp i) 0 (wotsSecret sk seed layer tree kp i) 15)

/-- A key pair's signature of a 16-byte message. -/
def wotsSign (sk seed : List (BitVec 8)) (layer tree kp : Nat) (m : List (BitVec 8)) : List (List (BitVec 8)) :=
  (List.range 35).map fun i =>
    slhChain (wotsStep seed layer tree kp i) 0 (wotsSecret sk seed layer tree kp i) ((wotsDigits m).getD i 0)

/-- The public key that a signature of a message implies. -/
def wotsFromSig (seed : List (BitVec 8)) (layer tree kp : Nat) (m : List (BitVec 8)) (sig : List (List (BitVec 8))) : List (BitVec 8) :=
  wotsKey seed layer tree kp ((List.range 35).map fun i =>
    slhChain (wotsStep seed layer tree kp i) ((wotsDigits m).getD i 0) (sig.getD i []) (15 - (wotsDigits m).getD i 0))

/-! ## XMSS and the hypertree (sections 6 and 7) -/

/-- Two nodes of a tree of the hypertree joined. -/
def xmssJoin (seed : List (BitVec 8)) (layer tree z i : Nat) (l r : List (BitVec 8)) : List (BitVec 8) :=
  slhHash seed (slhAdrs layer tree 2 0 z i) (l ++ r)

/-- The root of a tree of the hypertree. -/
def xmssRoot (sk seed : List (BitVec 8)) (layer tree : Nat) : List (BitVec 8) :=
  treeNode (wotsPublic sk seed layer tree) (xmssJoin seed layer tree) 9 0

/-- A leaf's signature of a message: 44 blocks. -/
def xmssSign (sk seed : List (BitVec 8)) (layer tree leaf : Nat) (m : List (BitVec 8)) : List (List (BitVec 8)) :=
  wotsSign sk seed layer tree leaf m ++ treePath (wotsPublic sk seed layer tree) (xmssJoin seed layer tree) 9 leaf

/-- The root that a signature of a message implies. -/
def xmssFromSig (seed : List (BitVec 8)) (layer tree leaf : Nat) (m : List (BitVec 8)) (sig : List (List (BitVec 8))) : List (BitVec 8) :=
  treeRoot (xmssJoin seed layer tree) leaf (sig.drop 35) (wotsFromSig seed layer tree leaf m sig) 9

/-- The signature of a message by `n` layers from `layer` on. -/
def hyperSign (sk seed : List (BitVec 8)) : Nat → Nat → Nat → Nat → List (BitVec 8) → List (List (BitVec 8))
  | 0, _, _, _, _ => []
  | n + 1, layer, tree, leaf, m =>
    let s := xmssSign sk seed layer tree leaf m
    s ++ hyperSign sk seed n (layer + 1) (tree / 512) (tree % 512) (xmssFromSig seed layer tree leaf m s)

/-- The root that a signature of a message by `n` layers implies. -/
def hyperFromSig (seed : List (BitVec 8)) : Nat → Nat → Nat → Nat → List (BitVec 8) → List (List (BitVec 8)) → List (BitVec 8)
  | 0, _, _, _, m, _ => m
  | n + 1, layer, tree, leaf, m, sig =>
    hyperFromSig seed n (layer + 1) (tree / 512) (tree % 512) (xmssFromSig seed layer tree leaf m sig) (sig.drop 44)

/-! ## FORS (section 8) -/

/-- The secret of a leaf. -/
def forsSecret (sk seed : List (BitVec 8)) (tree kp i : Nat) : List (BitVec 8) := slhHash seed (slhAdrs 0 tree 6 kp 0 i) sk

/-- The leaf of a secret. -/
def forsLeaf (seed : List (BitVec 8)) (tree kp i : Nat) (x : List (BitVec 8)) : List (BitVec 8) := slhHash seed (slhAdrs 0 tree 3 kp 0 i) x

/-- Two nodes joined. -/
def forsJoin (seed : List (BitVec 8)) (tree kp z i : Nat) (l r : List (BitVec 8)) : List (BitVec 8) :=
  slhHash seed (slhAdrs 0 tree 3 kp z i) (l ++ r)

/-- The leaf of tree `t` that a digest selects, among the leaves of all trees. -/
def forsIndex (md : List (BitVec 8)) (t : Nat) : Nat := 4096 * t + (slhDigits 12 14 md).getD t 0

/-- The signature of a digest: 13 blocks a tree. -/
def forsSign (sk seed : List (BitVec 8)) (tree kp : Nat) (md : List (BitVec 8)) : List (List (BitVec 8)) :=
  (List.range 14).flatMap fun t =>
    forsSecret sk seed tree kp (forsIndex md t) ::
      treePath (fun i => forsLeaf seed tree kp i (forsSecret sk seed tree kp i)) (forsJoin seed tree kp) 12 (forsIndex md t)

/-- The public key that a signature of a digest implies. -/
def forsFromSig (seed : List (BitVec 8)) (tree kp : Nat) (md : List (BitVec 8)) (sig : List (List (BitVec 8))) : List (BitVec 8) :=
  slhHash seed (slhAdrs 0 tree 4 kp 0 0) ((List.range 14).map fun t =>
    treeRoot (forsJoin seed tree kp) (forsIndex md t) (sig.drop (13 * t + 1))
      (forsLeaf seed tree kp (forsIndex md t) (sig.getD (13 * t) [])) 12).flatten

/-! ## Keys, signatures (sections 9 and 10) -/

/-- The secret seed, the secret of the randomizer and the public seed in a 48-byte secret. -/
def slhSeeds (secret : List (BitVec 8)) : List (BitVec 8) × List (BitVec 8) × List (BitVec 8) :=
  (firstBytes 16 secret, firstBytes 16 (secret.drop 16), firstBytes 16 (secret.drop 32))

/-- The 32-byte public key of a 48-byte secret. -/
def slhPublic (secret : List (BitVec 8)) : List (BitVec 8) :=
  let (sk, _, seed) := slhSeeds secret
  seed ++ xmssRoot sk seed 6 0

/-- A message as it is signed: pure, with an empty context (log entry 20). -/
def slhMessage (m : List (BitVec 8)) : List (BitVec 8) := [0, 0] ++ m

/-- The tree of the hypertree that a digest selects. -/
def slhTree (digest : List (BitVec 8)) : Nat := beNat ((digest.drop 21).take 7) % 2 ^ 54

/-- The leaf of the tree that a digest selects. -/
def slhLeaf (digest : List (BitVec 8)) : Nat := beNat ((digest.drop 28).take 2) % 512

/-- The 7,856-byte signature of a message with the key pair of a secret; `rand` is the 16 bytes that randomize it. -/
def slhSign (secret rand m : List (BitVec 8)) : List (BitVec 8) :=
  let (sk, prf, seed) := slhSeeds secret
  let r := firstBytes 16 (hmac256 prf (rand ++ slhMessage m))
  let d := slhDigest r seed (xmssRoot sk seed 6 0) (slhMessage m)
  let f := forsSign sk seed (slhTree d) (slhLeaf d) (d.take 21)
  r ++ (f ++ hyperSign sk seed 7 0 (slhTree d) (slhLeaf d) (forsFromSig seed (slhTree d) (slhLeaf d) (d.take 21) f)).flatten

/-- A signature of a message verifies under a public key. -/
def slhVerify (key m sig : List (BitVec 8)) : Bool :=
  let seed := firstBytes 16 key
  let r := firstBytes 16 sig
  let d := slhDigest r seed (firstBytes 16 (key.drop 16)) (slhMessage m)
  let blocks := (List.range 490).map fun i => firstBytes 16 (sig.drop (16 + 16 * i))
  let k := forsFromSig seed (slhTree d) (slhLeaf d) (d.take 21) blocks
  sig.length == 7856 && key.length == 32 &&
    hyperFromSig seed 7 0 (slhTree d) (slhLeaf d) k (blocks.drop 182) == firstBytes 16 (key.drop 16)

end Sys2Proof.Machine
end

