-- ==== Sys2Proof/Machine/Registers.lean ====
section
/-! DEFINITION. The device's control blocks as they read (spec/19 R283, R293; spec/20 R304, R308; spec/24; spec/25 R351,
R362; spec/27), and reading device memory. -/
namespace Sys2Proof.Machine

/-! ## Queue descriptors, budgets and policies (R337, R344, R345) -/

/-- A queue's descriptor at reset: ASID is q for a host queue, 0 for a device queue. -/
def QueueDesc.reset (q : Nat) : QueueDesc :=
  ⟨⟨#[BitVec.ofNat 64 (if q < 256 then q * 2 ^ 48 else 0), 0, 0, 0, 0, 0, 0, 0], rfl⟩, 0⟩

/-- The descriptor of queue `q` (256 to 271: device queues). -/
def State.queueAt (s : State) (q : Nat) : QueueDesc := Sparse.at (QueueDesc.reset q) s.queues q

/-- The state with a queue's descriptor changed. -/
def State.modQueue (s : State) (q : Nat) (f : QueueDesc → QueueDesc) : State :=
  { s with queues := Sparse.put s.queues q (f (s.queueAt q)) }

/-- Word `k` of a descriptor. -/
def QueueDesc.word (d : QueueDesc) (k : Nat) : BitVec 64 := vget d.w k 0

/-- The descriptor with a word replaced. -/
def QueueDesc.setWord (d : QueueDesc) (k : Nat) (v : BitVec 64) : QueueDesc := { d with w := vset d.w k v }

/-- EN. -/
def QueueDesc.en (d : QueueDesc) : Bool := (d.word 0).getLsbD 63
/-- CLASS. -/
def QueueDesc.cls (d : QueueDesc) : BitVec 2 := (d.word 0).extractLsb' 61 2
/-- ASID. -/
def QueueDesc.asid (d : QueueDesc) : BitVec 8 := (d.word 0).extractLsb' 48 8
/-- LOG2. -/
def QueueDesc.log2 (d : QueueDesc) : Nat := ((d.word 0).extractLsb' 0 5).toNat
/-- TAIL. -/
def QueueDesc.tail (d : QueueDesc) : BitVec 32 := (d.word 2).extractLsb' 0 32
/-- HEAD. -/
def QueueDesc.head (d : QueueDesc) : BitVec 32 := (d.word 3).extractLsb' 0 32
/-- A LOG2 field that names a ring: 1 to 16. -/
def ringLog (k : Nat) : Bool := 1 ≤ k && k ≤ 16

/-- The policy byte of a cause; every byte resets to 1. -/
def State.policyOf (s : State) (cause : BitVec 8) : BitVec 8 := Sparse.at 1 s.policy cause.toNat

/-- A budget register (Table 24.5). -/
def State.budget (s : State) (r k : Nat) : BitVec 64 := Sparse.at 0 s.budgets (8 * r + k)

/-! ## The identity of the device (R376) -/

/-- The 48-byte secret expanded from the fused seed by SHA-256 in counter mode (log entry 20). -/
def identitySecret (seed : BitVec 256) : List (BitVec 8) :=
  ((List.range 2).flatMap fun k => sha256 (leBytes 32 seed.toNat ++ Config.seedCounter k)).take 48

/-- The security block as it reads: public key, then Akmund's certificate; everything else zero. -/
def securityByte (s : State) (o : Nat) : BitVec 8 :=
  (slhPublic (identitySecret s.fw.seed) ++ Config.certificate).getD o 0

/-! ## Words of the control blocks -/

/-- STATE of CCTL (Table 24.10). -/
def Run.code : Run → BitVec 2
  | .halted => 0
  | .running | .freezing | .draining => 1
  | .frozen => 2
  | .parked => 3

/-- CCTL of a core. -/
def Core.cctl (c : Core) : BitVec 64 := (0 : BitVec 61) ++ bit (c.hold && c.run == .frozen) ++ c.run.code

/-- The 32 bytes of an error log entry (Table 27.5). -/
def LogEntry.bytes (e : LogEntry) : List (BitVec 8) :=
  leBytes 4 e.seq.toNat ++ [e.kind, e.unit] ++ leBytes 2 e.index.toNat ++ leBytes 8 e.at_.toNat ++
    leBytes 8 (ptpSplit e.ptpNs).1.toNat ++ leBytes 4 (ptpSplit e.ptpNs).2.toNat ++ leBytes 4 0

/-- Word `k` of a wire port's block (Table 25.6). -/
def WirePort.word (p : WirePort) (k : Nat) : BitVec 64 :=
  match k with
  | 1 => p.rej ++ BitVec.ofNat 16 (64 - p.txq.length) ++ p.sent
  | 2 => p.txs ++ p.txn
  | 4 => p.dfull ++ p.dnone
  | 5 => p.dfcs ++ p.dlong
  | _ => 0

/-- A channel's PHY block, at its reset values where nothing was written (Table 24.8). -/
def State.phy (s : State) (ch : Nat) : Phy := Sparse.at ⟨64, 64, 0, false, 0xFF, 0⟩ s.phys ch

/-- FWUPD (Table 27.8). -/
def Firmware.word (f : Firmware) : BitVec 64 :=
  bit f.busy ++ (0 : BitVec 47) ++ f.status ++ (0 : BitVec 3) ++ bit f.runSlot ++ (0 : BitVec 3) ++ bit f.nextSlot ++
    (0 : BitVec 4)

/-- A register at an 8-byte-aligned offset of the control blocks, from 0x3E00_0000_0000; none where the spec names no
register. RCLAIM and a PTEST whose test runs are read by `devRead`. -/
def controlWord (s : State) (o : Nat) : Option (BitVec 64) :=
  if s.fw.recovery ∧ o ≠ 0 ∧ o ≠ 0x10 ∧ o ≠ 0xDF0000 ∧ ¬ (0xE00000 ≤ o ∧ o < 0xF00000) then none
  else if o = 0 then some (s.hsem.setWidth 64)
  else if o = 0x8 then some (s.hsemx.setWidth 64)
  else if o = 0x10 then some 0
  else if o = 0x18 then some ((bit s.devrdy).setWidth 64)
  else if o = 0x20 then some (s.ptpSrc.setWidth 64)
  else if o = 0x10000 ∨ o = 0x10008 then some (vget s.hap (o % 16 / 8) 0)
  else if 0x10200 ≤ o ∧ o < 0x10220 then some (s.hwport.extractLsb' (64 * ((o - 0x10200) / 8)) 64)
  else if 0x100000 ≤ o ∧ o < 0x100200 ∧ o % 0x40 = 0 then
    let r := vget s.repairs ((o - 0x100000) / 0x40) ⟨0, 0, 0, [], []⟩
    some ((0 : BitVec 24) ++ r.bound ++ (0 : BitVec 8) ++ r.layer ++ (0 : BitVec 6) ++ r.state)
  else if 0x200000 ≤ o ∧ o < 0x201000 then
    let e := Sparse.at (0, 0) s.asids ((o - 0x200000) / 16)
    some (if o % 16 = 0 then e.1 else e.2)
  else if o = 0x210000 then some s.xinva
  else if o = 0x210008 then some ((0 : BitVec 1) ++ bit s.xbusy ++ s.xinvc.extractLsb' 0 62)
  else if 0x400000 ≤ o ∧ o < 0x404000 then some ((s.queueAt ((o - 0x400000) / 64)).word (o / 8 % 8))
  else if 0x500000 ≤ o ∧ o < 0x500400 then some ((s.queueAt (256 + (o - 0x500000) / 64)).word (o / 8 % 8))
  else if 0x600000 ≤ o ∧ o < 0x600100 then some (s.budget ((o - 0x600000) / 0x40) (o / 8 % 8))
  else if o = 0x610000 then some s.ecls
  else if 0x620000 ≤ o ∧ o < 0x620100 then
    some (BitVec.ofNat 64 (leNat ((List.range 8).map fun i => s.policyOf (BitVec.ofNat 8 (o - 0x620000 + i)))))
  else if o = 0x630000 then some (s.frame.setWidth 64)
  else if 0x640000 ≤ o ∧ o < 0x640400 then some (s.coreAt ((o - 0x640000) / 8)).cctl
  else if o = 0x650000 then some 0
  else if o = 0x67FFF8 then some (s.logCnt.setWidth 64)
  else if 0x680000 ≤ o ∧ o < 0x6A0000 then
    match s.log.find? fun e => e.seq.toNat % 4096 = (o - 0x680000) / 32 with
    | some e => some (BitVec.ofNat 64 (leNat ((e.bytes.drop (o % 32)).take 8)))
    | none => some 0
  else if 0x6C0000 ≤ o ∧ o < 0x6C0020 then some (s.attest.nonce.extractLsb' (64 * (o / 8 % 4)) 64)
  else if o = 0x6C0020 then some (s.attest.dest.setWidth 64)
  else if o = 0x6C0028 then some ((0 : BitVec 1) ++ bit s.attest.busy ++ (0 : BitVec 60) ++ s.attest.status)
  else if 0x700000 ≤ o ∧ o < 0x700028 then some (vget s.fab ((o - 0x700000) / 8) 0)
  else if 0x800000 ≤ o ∧ o < 0x802000 ∧ o % 0x1000 < 0x30 then
    some ((vget s.wires ((o - 0x800000) / 0x1000) ⟨[], 0, 0, 0, 0, 0, 0, 0, 0, []⟩).word (o % 0x1000 / 8))
  else if o = 0xDF0000 then some s.fw.word
  else if 0xE00000 ≤ o ∧ o < 0xF00000 then some (if s.fw.busy then 0 else BitVec.ofNat 64 (s.fw.staged.num (o - 0xE00000) 8))
  else if 0xF00000 ≤ o ∧ o < 0x1000000 then
    some (BitVec.ofNat 64 (leNat ((List.range 8).map fun i => securityByte s (o - 0xF00000 + i))))
  else if 0x10000000 ≤ o ∧ o < 0x10100000 then
    let p := s.phy ((o - 0x10000000) / 0x1000)
    match o % 0x1000 with
    | 0x00 => some (p.rdly.setWidth 64)
    | 0x08 => some (p.wdly.setWidth 64)
    | 0x10 => some (p.errors.setWidth 64)
    | 0x18 => some (p.lrep.setWidth 64)
    | _ => none
  else none

/-! ## Range launches (R343) -/

/-- The die, other than `d`, with the largest range; the lowest number among equals. -/
def largestRange (r : Vector (Nat × Nat) 4) (d : Nat) : Nat × Nat :=
  (List.range 4).foldl (fun best e =>
    let p := vget r e (0, 0)
    if e ≠ d ∧ best.2 < p.2 - p.1 then (e, p.2 - p.1) else best) (0, 0)

/-- A claim of die `d` (RCLAIM): the index, all ones where nothing is left to take. -/
def claim (d : Nat) (s : State) : BitVec 64 × State :=
  let p := vget s.ranges d (0, 0)
  if p.1 < p.2 then (BitVec.ofNat 64 p.1, { s with ranges := vset s.ranges d (p.1 + 1, p.2) })
  else
    let (e, m) := largestRange s.ranges d
    if m < 2 then (BitVec.allOnes 64, s)
    else
      let q := vget s.ranges e (0, 0)
      let lo := q.2 - m / 2
      (BitVec.ofNat 64 lo, { s with ranges := vset (vset s.ranges e (q.1, lo)) d (lo + 1, q.2) })

/-! ## Reading device memory (R283) -/

/-- A register read at an offset of the control blocks; none while it waits (PTEST). What no rule names reads an open
value. -/
def controlRead (o : Nat) (s : State) : Option (BitVec 64) × State :=
  if 0x300000 ≤ o ∧ o < 0x300100 ∧ o % 0x40 = 0 ∧ ¬ s.fw.recovery then
    let (v, s) := claim ((o - 0x300000) / 0x40) s
    (some v, s)
  else if 0x10000000 ≤ o ∧ o < 0x10100000 ∧ o % 0x1000 = 0x10 ∧ (s.phy ((o - 0x10000000) / 0x1000)).running then (none, s)
  else
    match controlWord s o with
    | some w => (some w, s)
    | none => let (v, s) := s.openValue 64; (some v, s)

/-- Device memory of this device read at a local address: `n` bytes, naturally aligned; none while the read waits. -/
def devRead (la n : Nat) (s : State) : Option (List (BitVec 8)) × State :=
  if rangeOf la = .opm then (some (s.opmRead (opmTarget la).1 (opmTarget la).2 n), s)
  else
    let o := la - 0x3E0000000000
    match controlRead (o / 8 * 8) s with
    | (some w, s) => (some (leBytes n (w.toNat / 2 ^ (8 * (o % 8)))), s)
    | (none, s) => (none, s)

/-- A size that device memory accepts (R283). -/
def devSizeOk (la n : Nat) : Bool := rangeOf la == .opm || ((n == 4 || n == 8) && la % n == 0)

/-- The security block (R376). -/
def securityBlock (la : Nat) : Bool := 0x3E0000F00000 ≤ la && la < 0x3E0001000000

end Sys2Proof.Machine
end

