-- ==== Sys2Proof/Machine/Wait.lean ====
section
/-! DEFINITION. WAITV and MWAIT: their conditions, their returns, and the pre-emption points that the returns are (spec/05 R68,
R69; spec/06 R92, R93; spec/07 R101, R109; spec/22 R333). -/
namespace Sys2Proof.Machine

/-! ## The word of a KIND 4 condition -/

/-- What reading a word in global memory answers: its value, or not yet, or a cause with DETAIL0 and DETAIL1. -/
inductive WordRead where
  | got (v : Nat)
  | notYet
  | fails (cause : BitVec 8) (d0 d1 : BitVec 64)
  deriving DecidableEq, Repr

/-- The cause of reading a poisoned line: 0x83 for the CXL tier, else 0x64 (R320, R370). -/
def poisonCause (pa : Nat) : BitVec 8 :=
  match rangeOf (localOf pa) with
  | .cxl _ => 0x83
  | _ => 0x64

/-- DETAIL0 and DETAIL1 of a cause met at a physical address by an S operation (Table 22.7; log entry 5 for 0x83 and 0x84). -/
def accessDetail (cause : BitVec 8) (op pa : Nat) : BitVec 64 × BitVec 64 :=
  if cause = 0x83 ∨ cause = 0x84 ∨ cause = 0xB4 then (Config.unstated cause 1, Config.unstated cause 2)
  else (BitVec.ofNat 64 op, BitVec.ofNat 64 pa)

/-- A request for the page of an address waits for an answer on behalf of a waiter. -/
def State.pageAsked (s : State) (w : Waiter) (va : Nat) : Bool :=
  (s.pageReqs ++ s.pageWait).any fun r => r.page == va / 2 ^ 18 * 2 ^ 18 && r.waiters.contains w

/-- A tick counted once among those that an operation has waited on translation (R311). -/
def countTick (tick : Nat) (p : Nat × Nat) : Nat × Nat := if p.2 = tick + 1 then p else (p.1 + 1, tick + 1)

/-- A WAITV of a bank by its number, changed. -/
def Bank.modWaitv (b : Bank) (id : Nat) (f : WaitV → WaitV) : Bank :=
  { b with tracked := b.tracked.map fun t => match t.kind with
      | .waitv w => if w.id = id then { t with kind := .waitv (f w) } else t
      | _ => t }

/-- A tick in which a WAITV waits on translation is counted. -/
def WaitV.count (tick : Nat) (w : WaitV) : WaitV :=
  { w with waited := (countTick tick (w.waited, w.counted)).1, counted := (countTick tick (w.waited, w.counted)).2 }

/-- The word of a WAITV condition read as a global read of the task (R93), in the order of R52. -/
def readWord (isB : Bool) (id va n : Nat) (s : State) : WordRead × State :=
  let asid := (s.bankOf isB).asid
  match translate (.access s.coreNo isB id) asid va true false s with
  | (.leaf pa ca disc, s) =>
    let s := s.modBankOf isB fun b => b.modWaitv id fun w => { w with found := Sparse.put w.found va (pa, ca) }
    if (s.bankOf isB).blocked (wordAccess [(va, pa, ca)] id va n) then (.notYet, s)
    else
    let at_ (c : BitVec 8) : WordRead := .fails c (accessDetail c 0x53 pa).1 (accessDetail c 0x53 pa).2
    if disc then (.got 0, s)
    else if deviceAddr pa && !devSizeOk (localOf pa) n then (at_ 0x61, s)
    else if securityBlock (localOf pa) then (at_ 0xB4, s)
    else if deviceAddr pa ∧ devOf pa = s.devId then
        match devRead (localOf pa) n s with
        | (some bs, s) => (.got (leNat bs), s)
        | (none, s) => (.notYet, s)
    else
      match lineRead (.access s.coreNo isB id) pa ca asid s with
      | (.ready d p, s) => if p then (at_ (poisonCause pa), s) else (.got (leNat (peekLine d (pa % 128) n)), s)
      | (.wait, s) => (.notYet, s)
      | (.fail c (some d), s) => (.fails c d.1 d.2, s)
      | (.fail c none, s) => (at_ c, s)
  | (.fault, s) =>
    let w := Waiter.waitv s.coreNo isB id
    (.notYet, if s.pageAsked w va then s
      else (s.pageFault w asid va true false).modBankOf isB fun b => b.modWaitv id (WaitV.count s.tick))
  | (.cause c d0 d1, s) => (.fails c d0 d1, s)
  | (_, s) => (.notYet, s)

/-! ## Conditions (R92, Tables 6.15 and 6.16) -/

/-- The cause an illegal control word raises: 0xA4, or 0xA5 for a misaligned word. -/
def WaitCond.cause (c : WaitCond) : Option (BitVec 8) :=
  if 6 ≤ c.kind ∨ c.ctl.extractLsb' 54 2 ≠ 0 then some 0xA4
  else if c.kind = 4 then
    if 6 ≤ c.ix / 2 then some 0xA4 else if c.va % c.size ≠ 0 then some 0xA5 else none
  else if c.va ≠ 0 ∨ (c.kind = 3 ∧ 8 ≤ c.ix) ∨ (c.kind = 5 ∧ 4 ≤ c.ix) then some 0xA4
  else none

/-- The watermark of a number. -/
def Core.wmAt (c : Core) (n : Nat) : Wm :=
  if n < 8 then (vget c.chans n Channel.reset).wm else (vget c.wins (n - 8) Window.reset).wm

/-- word REL operand, both of `n` bytes. -/
def relHolds (rel n w opd : Nat) : Bool :=
  let b := opd % 2 ^ (8 * n)
  match rel with
  | 0 => w == b
  | 1 => w != b
  | 2 => signedNat (8 * n) w < signedNat (8 * n) b
  | 3 => signedNat (8 * n) b ≤ signedNat (8 * n) w
  | 4 => w < b
  | _ => b ≤ w

/-- Whether a condition of a bank's WAITV holds now, the cause its word read raised, and the state after the evaluation; a
barrier condition that holds is the observation of its phase. -/
def evalCond (isB : Bool) (id : Nat) (c : WaitCond) (s : State) : Bool × Option (Nat × BitVec 8 × BitVec 64 × BitVec 64) × State :=
  match c.kind with
  | 1 => ((c.opd.setWidth 22 : BitVec 22) ≤ (s.core.wmAt c.ix).addr, none, s)
  | 2 => ((s.core.wmAt c.ix).frz, none, s)
  | 3 => (serialGe (vget s.core.chans c.ix Channel.reset).tcp (c.opd.setWidth 32), none, s)
  | 4 =>
    match readWord isB id c.va c.size s with
    | (.got w, s) => (relHolds (c.ix / 2) c.size w c.opd.toNat, none, s)
    | (.notYet, s) => (false, none, s)
    | (.fails k d0 d1, s) => (false, some (c.va, k, d0, d1), s)
  | 5 =>
    match vget (s.bankOf isB).out c.ix none with
    | none => (true, none, s)
    | some o =>
      if o.completed then (true, none, s.modBankOf isB fun b => { b with out := vset b.out c.ix none }) else (false, none, s)
  | _ => (false, none, s)

/-- All conditions of a WAITV evaluated: HELD, and the first cause. -/
def evalWaitv (isB : Bool) (w : WaitV) (s : State) : List Bool × Option (Nat × BitVec 8 × BitVec 64 × BitVec 64) × State :=
  w.conds.foldl (fun acc c =>
    let (h, k, s) := evalCond isB w.id c acc.2.2
    (acc.1 ++ [h], acc.2.1 <|> k, s)) ([], none, s)

/-- The conditions that held end the wait (R93): any used one, every used one, or none is used. -/
def WaitV.ends (w : WaitV) (held : List Bool) : Bool :=
  let used := (w.conds.zip held).filter fun p => p.1.kind != 0
  if w.all || used.isEmpty then used.all (·.2) else used.any (·.2)

/-- The value WAITV writes (Table 6.17). -/
def waitvValue (pre late : Bool) (held : List Bool) : BitVec 64 :=
  BitVec.ofNat 64 ((held.zipIdx.map fun p => if p.1 then 2 ^ p.2 else 0).sum + (if late then 16 else 0) + if pre then 32 else 0)

/-- The timeout of a WAITV has expired: so many ticks of 12.5 cycles have passed since its issue. -/
def WaitV.expired (w : WaitV) (s : State) : Bool :=
  w.timeout != BitVec.allOnes 64 && 2 * w.start + 25 * w.timeout.toNat ≤ 2 * s.cycle

/-! ## Returns -/

/-- A WAITV or MWAIT returned with a request pending: outside a loop it is a pre-emption point (R109). -/
def State.returnPoint (s : State) (isB : Bool) : State :=
  if s.core.preReq.isSome && isB == s.core.cur && !s.bank.loop.act && s.core.run == .running then s.startDrain else s

/-- A bank's tracked operation `j` takes a value, which lands at the end of the cycle. -/
def State.settleTracked (s : State) (isB : Bool) (j : Nat) (v : BitVec 512) : State :=
  s.modBankOf isB fun b => { b with tracked := b.tracked.mapIdx fun i t => if i = j then { t with kind := .value v, rem := 1 } else t }

/-- A bank's WAITV `id` at place `j` of its tracked operations returns a value; it waits on no page any more. -/
def State.waitvReturn (s : State) (isB : Bool) (j id : Nat) (v : BitVec 64) : State :=
  ((s.settleTracked isB j (v.setWidth 512)).dropWaiter (.waitv s.coreNo isB id)).returnPoint isB

/-- An evaluation of a bank's WAITV at place `j`: it returns where its conditions end it, its timeout has expired or a
pre-emption request is pending; a cause of a word read traps (R93). DEDUCED: TO says whether the timeout had expired at the final
evaluation, whatever ended the wait, and PRE that the request alone ended it (R69, Table 6.17; log entry 95). -/
def waitvEvaluate (isB : Bool) (j : Nat) (s : State) : State :=
  match (s.bankOf isB).tracked[j]? with
  | some t =>
    match t.kind with
    | .waitv w =>
      let (held, k, s) := evalWaitv isB w s
      if w.ends held then s.waitvReturn isB j w.id (waitvValue false (w.expired s) held)
      else
        match k with
        | some (va, c, d0, d1) => s.trapIn isB c .s t.pc t.rep (BitVec.ofNat 64 va) d0 d1
        | none =>
          if w.expired s || s.core.preReq.isSome then
            s.waitvReturn isB j w.id (waitvValue s.core.preReq.isSome (w.expired s) held)
          else s
    | _ => s
  | none => s

/-- A WAITV among tracked operations. -/
def Tracked.isWaitv (t : Tracked) : Bool := match t.kind with | .waitv _ => true | _ => false

/-- A WAITV whose timeout has expired. -/
def Tracked.waitvExpired (s : State) (t : Tracked) : Bool := match t.kind with | .waitv w => w.expired s | _ => false

/-- The places of a bank's tracked operations at which a test holds. -/
def Bank.places (b : Bank) (f : Tracked → Bool) : List Nat := (List.range b.tracked.length).filter fun j => b.tracked[j]?.any f

/-- Every WAITV of a bank that meets a test is evaluated. -/
def evaluateAll (isB : Bool) (f : Tracked → Bool) (s : State) : State :=
  ((s.bankOf isB).places f).foldl (fun s j => if s.core.run.issues then waitvEvaluate isB j s else s) s

/-- WAITV_REEVALUATION (R93): the WAITVs of the active bank are evaluated. -/
def execWaitvReevaluation (s : State) : Out := .next (evaluateAll s.core.cur Tracked.isWaitv s)

/-- WAITV_TIMEOUT (R93): the WAITVs of the active bank whose timeout has expired are evaluated and return. -/
def execWaitvTimeout (s : State) : Out := .next (evaluateAll s.core.cur (Tracked.waitvExpired s) s)

/-- The MWAIT at the head of the active bank's S queue leaves it (R68). -/
def State.mwaitLeave (s : State) : State :=
  (s.modBank fun b => { b with mwait := false, queues := vset b.queues 0 ((vget b.queues 0 []).drop 1) }).fallThrough

/-- ARMED and TRIG cleared. -/
def Bank.disarm (b : Bank) : Bank := { b with monaddr := b.monaddr &&& ~~~3, monLine := none, monSeen := [] }

/-- MWAIT_RETURN (R68, R109): a sleeping MWAIT returns when TRIG is set, clearing ARMED and TRIG, and on a pre-emption request
with ARMED unchanged. -/
def execMwaitReturn (s : State) : Out :=
  if !s.bank.mwait then .next s
  else if s.bank.monaddr.getLsbD 1 then .next ((s.mwaitLeave.modBank Bank.disarm).returnPoint s.core.cur)
  else if s.core.preReq.isSome then .next (s.mwaitLeave.returnPoint s.core.cur)
  else .next s

/-! ## The instructions -/

/-- MWAIT (R68, R333): with ARMED = 0, or TRIG already set, it returns at once; else it holds the S queue until MWAIT_RETURN.
DESIGN CHOICE: with ARMED = 0 it changes nothing, a TRIG that a SETS has left set included (log entry 96). -/
def execMwait (f : FmtGF) (s : State) : Out :=
  controlFlow f.g s fun s =>
    if !s.bank.monaddr.getLsbD 0 then s.fallThrough
    else if s.bank.monaddr.getLsbD 1 then (s.fallThrough.modBank Bank.disarm).returnPoint s.core.cur
    else if s.core.preReq.isSome then s.fallThrough.returnPoint s.core.cur
    else (s.modBank fun b => { b with mwait := true }).putBack

/-- The lowest of the causes that one operation raises (R98). -/
def lowestCause (l : List (BitVec 8)) : Option (BitVec 8) :=
  l.foldl (fun acc c => match acc with | none => some c | some b => some (if c < b then c else b)) none

/-- The four conditions of a WAITV, in x[a] to x[a + 7]. -/
def State.waitConds (s : State) (a : BitVec 6) : List WaitCond :=
  (List.range 4).map fun i => ⟨s.readX (a + BitVec.ofNat 6 (2 * i)), s.readX (a + BitVec.ofNat 6 (2 * i + 1))⟩

/-- WAITV (R92, R93): an illegal condition traps at issue; else it is tracked and evaluates its conditions at once. -/
def execWaitv (f : FmtWV) (s : State) : Out :=
  guarded f.g s fun s =>
    let cs := s.waitConds f.a
    match lowestCause (cs.filterMap WaitCond.cause) with
    | some c => s.trapPlain c
    | none =>
      let j := s.bank.tracked.length
      let t : Tracked := ⟨[s.xRef f.d], .waitv ⟨s.core.nextId, cs, f.all, s.readX f.b, s.cycle, 0, 0, []⟩, 0, s.ctx.entry.pc, s.ctx.entry.rep,
        s.ctx.entry.seq, .s⟩
      waitvEvaluate s.core.cur j ((s.modCore fun c => { c with nextId := c.nextId + 1 }).modBank fun b =>
        { b with tracked := b.tracked ++ [t] })

end Sys2Proof.Machine
end

