-- ==== Sys2Proof/Machine/Access.lean ====
section
/-! DEFINITION. A global access of the S slot from its payload and the operand values captured at issue (spec/22 R325, R328,
R330, R332), and the operand values back from it (spec/07 R100). -/
namespace Sys2Proof.Machine

/-- The access size of an LDG, STG or MON opcode in bytes (Table 22.4). -/
def gmSize (op : Nat) : Nat :=
  match op with
  | 0x3A | 0x3F => 1
  | 0x3B | 0x40 => 2
  | 0x3C | 0x41 => 4
  | 0x3D | 0x42 => 8
  | 0x51 => 128
  | _ => 16

/-- The virtual address of a GM access (R325). -/
def gmAddr (op : Nat) (off : BitVec 8) (base : BitVec 64) : BitVec 64 := base + BitVec.ofNat 64 (gmSize op) * off.signExtend 64

/-- The kind of a global opcode. -/
def gKind (op : Nat) : GKind :=
  if op = 0x51 then .monitor else if op ≤ 0x3E then .load else if op ≤ 0x43 then .store else .atomic op

/-- The access of a payload with its operand values: x[a]; for a store x[d] and x[d + 1]; for an atomic x[b] and x[d]. -/
def makeAccess (op : Nat) (b : SBody) (word : BitVec 32) (xs : List (BitVec 64)) (dst pc rep seq : Nat) : GAccess :=
  let x (k : Nat) := xs.getD k 0
  match b with
  | .ga f =>
    ⟨0, .atomic op, word, x 0, if f.sz then 8 else 4, (x 1).setWidth 128, x 2, dst, pc, rep, seq, .walk, 0, 0, 0⟩
  | .gm f =>
    ⟨0, gKind op, word, gmAddr op f.off (x 0), gmSize op, x 2 ++ x 1, 0, dst, pc, rep, seq, .walk, 0, 0, 0⟩
  | _ => ⟨0, .load, word, 0, 1, 0, 0, dst, pc, rep, seq, .walk, 0, 0, 0⟩

/-- The opcode and fields of an access. -/
def GAccess.body (a : GAccess) : Nat × SBody :=
  match decodeSlot .s (a.word.setWidth 64) with
  | .ok (.s op b) => (op, b)
  | _ => (0, .k ⟨⟨0, false⟩, 0, 0, 0⟩)

/-- The operand values that an access captured. -/
def GAccess.operands (a : GAccess) : List (BitVec 64) :=
  match a.body with
  | (op, .gm f) => [a.va - BitVec.ofNat 64 (gmSize op) * f.off.signExtend 64, a.data.setWidth 64, a.data.extractLsb' 64 64]
  | _ => [a.va, a.data.setWidth 64, a.cmp]

/-- The physical registers of x[d] and x[d + 1], as one number. -/
def pairOf (d d1 : Nat) : Nat := d + 64 * d1

/-- The registers that the result of an access lands in: x[d], and x[d + 1] for LDG.Q. -/
def GAccess.results (a : GAccess) : List RegRef :=
  match a.kind with
  | .load => ⟨.x, a.dst % 64⟩ :: (if a.n = 16 then [⟨.x, a.dst / 64⟩] else [])
  | .atomic _ => [⟨.x, a.dst % 64⟩]
  | _ => []

/-- An access under way in a bank, under a new number: a load or an atomic is tracked, a store or a monitor is posted
(Table 3.7). -/
def State.startAccess (s : State) (isB : Bool) (a : GAccess) : State :=
  let a := { a with id := s.core.nextId, born := s.cycle }
  let s := s.modCore fun c => { c with nextId := c.nextId + 1 }
  s.modBankOf isB fun b =>
    match a.kind with
    | .store | .monitor => { b with posted := b.posted ++ [a] }
    | _ => { b with tracked := b.tracked ++ [⟨a.results, .access a, 0, a.pc, a.rep, a.seq, .s⟩] }

end Sys2Proof.Machine
end

