-- ==== Sys2Proof/Machine/Barrier.lean ====
section
/-! DEFINITION. Barriers: SYNC and ARRV, their arrivals, the counters that this device holds, completion, the excess arrival and
the unreachable root (spec/05 R66, R67; spec/06 R90, R91; spec/25 R357). -/
namespace Sys2Proof.Machine

/-! ## Counters (R66, R67) -/

/-- The device that holds the counters of a level: this one for levels 0 and 1, ROOT2 and ROOT3 for levels 2 and 3. -/
def State.barrierRoot (s : State) (level : BitVec 2) : BitVec 6 :=
  if level = 2 then (vget s.fab 3 0).extractLsb' 0 6 else if level = 3 then (vget s.fab 3 0).extractLsb' 8 6 else s.devId

/-- A counter counts an arrival: level, DOMID and phase agree, and at level 0 the die. -/
def Counter.counts (c : Counter) (a : Arrival) : Bool :=
  c.level == a.level && c.domid == a.domid && c.phase == a.phase &&
    (a.level != 0 || c.arrivals.all fun o => o.core / 32 == a.core / 32)

/-- A bank's outstanding arrival at a level marked complete, where it is of that phase. -/
def Bank.completePhase (b : Bank) (level : BitVec 2) (domid : BitVec 16) (phase : BitVec 32) : Bank :=
  match vget b.out level.toNat none with
  | some o =>
    if o.phase = phase ∧ o.domid = domid then
      { b with out := vset b.out level.toNat (some { o with completed := true }) }
    else b
  | none => b

/-- Both banks of a core told of a completed phase. -/
def Core.completePhase (c : Core) (level : BitVec 2) (domid : BitVec 16) (phase : BitVec 32) : Core :=
  { c with bankA := c.bankA.completePhase level domid phase, bankB := c.bankB.completePhase level domid phase }

/-- The state with a core changed. -/
def State.modCoreAt (s : State) (n : Nat) (f : Core → Core) : State := s.setCoreAt n (f (s.coreAt n))

/-- The task's core runs the launch of an arrival. -/
def Core.runs (c : Core) (a : Arrival) : Bool := c.launch.getD (0, 0) == (a.queue, a.lseq)

/-- The state with the core of an arrival's task changed: the core itself, or its saved context (R112). -/
def State.modTask (s : State) (a : Arrival) (f : Core → Core) : State :=
  if (s.coreAt a.core).runs a then s.modCoreAt a.core f
  else { s with saved := s.saved.map fun p => if p.1 = a.core ∧ p.2.runs a then (p.1, f p.2) else p }

/-- A bank of a core changed. -/
def Core.modBankOf (c : Core) (isB : Bool) (f : Bank → Bank) : Core :=
  if isB then { c with bankB := f c.bankB } else { c with bankA := f c.bankA }

/-- A completed phase reported to an arriving task; a message to another device names the arriving core (R357). -/
def tellComplete (a : Arrival) (s : State) : State :=
  if a.dev = s.devId then s.modTask a fun c => c.modBankOf a.bankB fun b => b.completePhase a.level a.domid a.phase
  else s.send (.phase a.dev a.core a.level a.domid a.phase)

/-- The trap of a barrier cause at a bank with an arrival outstanding, naming its bundle (R67, R357). -/
def Outstanding.trap (o : Outstanding) (cause : BitVec 8) : Trap :=
  ⟨cause, .deferred, slotMask .s, o.pc, o.rep, Config.unstated cause 0, Config.unstated cause 1, Config.unstated cause 2⟩

/-- A deferred barrier trap at a task on a core of this device (R67, R357). -/
def barrierTrap (core : Nat) (isB : Bool) (level : BitVec 2) (cause : BitVec 8) (s : State) : State :=
  s.onCore core fun s =>
    match vget (s.bankOf isB).out level.toNat none with
    | some o => s.takeTrapIn isB (o.trap cause)
    | none => s

/-- A deferred barrier trap at the task of an arrival of this device; a saved task takes it when it returns. -/
def arrivalTrap (a : Arrival) (cause : BitVec 8) (s : State) : State :=
  if (s.coreAt a.core).runs a then barrierTrap a.core a.bankB a.level cause s
  else
    s.modTask a fun c =>
      match vget (c.bankOf a.bankB).out a.level.toNat none with
      | some o => { c with deferred := holdTrap (o.trap cause) a.bankB c.deferred }
      | none => c

/-- The arrivals of a launch at a level withdrawn from the counters of this device (R67). -/
def counterWithdraw (a : Arrival) (s : State) : State :=
  { s with counters := (s.counters.map fun c =>
      { c with arrivals := c.arrivals.filter fun o =>
          !(o.level == a.level && o.dev == a.dev && o.queue == a.queue && o.lseq == a.lseq) }).filter fun c => !c.arrivals.isEmpty }

/-- An arrival that the counter receives (R67): the phase's first arrival sets its count; the count reached, the phase
completes; one beyond the count takes 0xA3. A completed phase is kept with count 0 until the launches that arrived in it have
withdrawn (log entry 6). -/
def counterReceive (a : Arrival) (s : State) : State :=
  if a.withdrawn then counterWithdraw a s
  else
  match s.counters.find? fun c => c.counts a with
  | some c =>
    if c.count = 0 then
      if a.dev = s.devId then arrivalTrap a 0xA3 s else s.send (.excess a.dev a)
    else
      let all := c.arrivals ++ [a]
      let full := c.count ≤ all.length
      let s := { s with counters := s.counters.map fun d =>
        if d = c then { c with arrivals := all, count := if full then 0 else c.count } else d }
      if full then all.foldl (fun s a => tellComplete a s) s else s
  | none =>
    let n := max 1 a.count
    let s := { s with counters := s.counters ++ [⟨a.level, a.domid, a.phase, if n = 1 then 0 else n, [a]⟩] }
    if n = 1 then tellComplete a s else s

/-- The arrival outstanding at a level of a bank changed. -/
def Bank.modOut (level : BitVec 2) (f : Outstanding → Outstanding) (b : Bank) : Bank :=
  { b with out := vset b.out level.toNat ((vget b.out level.toNat none).map f) }

/-- The arrivals outstanding at a level of a core changed. -/
def Core.modOut (level : BitVec 2) (f : Outstanding → Outstanding) (c : Core) : Core :=
  { c with bankA := c.bankA.modOut level f, bankB := c.bankB.modOut level f }

/-- Every arrival outstanding at a level, of the tasks on the cores and of those saved, changed. -/
def State.modOut (level : BitVec 2) (f : Outstanding → Outstanding) (s : State) : State :=
  { s with
    core := s.core.modOut level f, others := s.others.map fun p => (p.1, p.2.modOut level f),
    saved := s.saved.map fun p => (p.1, p.2.modOut level f) }

/-- A bank has an arrival outstanding at a level that meets a test. -/
def Bank.anyOut (level : BitVec 2) (f : Outstanding → Bool) (b : Bank) : Bool := (vget b.out level.toNat none).any f

/-- A core has an arrival outstanding at a level that meets a test. -/
def Core.anyOut (level : BitVec 2) (f : Outstanding → Bool) (c : Core) : Bool := c.bankA.anyOut level f || c.bankB.anyOut level f

/-- A task of the device, on a core or saved, has an arrival outstanding at a level that meets a test. -/
def State.anyOut (level : BitVec 2) (f : Outstanding → Bool) (s : State) : Bool :=
  s.core.anyOut level f || (s.others.any fun p => p.2.anyOut level f) || s.saved.any fun p => p.2.anyOut level f

/-- An arrival's phase has not completed. -/
def Outstanding.waits (o : Outstanding) : Bool := !o.completed

/-- An arrival waits, and its root has not answered in time (R357). -/
def Outstanding.overdue (tick : Nat) (o : Outstanding) : Bool := o.waits && o.due.any (· ≤ tick)

/-- An arrival waits, and its task has not been told that the root cannot be reached. -/
def Outstanding.untold (o : Outstanding) : Bool := o.waits && !o.lost

/-- The saved contexts with an arrival outstanding at a level that meets a test hold 0xA6 for their return. -/
def Core.holdRootTimeout (level : BitVec 2) (f : Outstanding → Bool) (c : Core) : Core :=
  [false, true].foldl (fun c isB =>
    match vget (c.bankOf isB).out level.toNat none with
    | some o => if f o then { c with deferred := holdTrap (o.trap 0xA6) isB c.deferred } else c
    | none => c) c

/-- Every task of the device with an arrival outstanding at a level that meets a test takes 0xA6 (R357); its arrival stays outstanding,
and the root has TMO anew to answer it (log entry 83). -/
def rootFails (level : BitVec 2) (f : Outstanding → Bool) (lost : Bool) (s : State) : State :=
  let t := (List.range 136).foldl (fun s n =>
    [false, true].foldl (fun s isB =>
      if ((s.coreAt n).bankOf isB).anyOut level f then barrierTrap n isB level 0xA6 s else s) s)
    { s with saved := s.saved.map fun p => (p.1, p.2.holdRootTimeout level f) }
  t.modOut level fun o => if f o then { o with due := some (s.tick + s.tmo), lost := lost } else o

/-- The root of a level is another device, which cannot be reached. -/
def State.rootAway (s : State) (level : BitVec 2) : Bool :=
  s.barrierRoot level != s.devId && (s.fabricCause (s.barrierRoot level)).isSome

/-- An arrival travels to its counter (R66, R357): where the root cannot be reached, every task that waits or arrives at the level takes
0xA6. -/
def arrive (a : Arrival) (s : State) : State :=
  let root := s.barrierRoot a.level
  if root = s.devId then counterReceive a s
  else if s.rootAway a.level then (if a.withdrawn then s else rootFails a.level Outstanding.untold true s)
  else s.send (.arrival root a)

/-- The withdrawal of a launch's arrivals from the counters of some levels (R67). -/
def withdraw (queue : Nat) (lseq : BitVec 32) (levels : List Nat) (s : State) : State :=
  levels.foldl (fun s k => arrive ⟨BitVec.ofNat 2 k, 0, 0, 0, s.devId, 0, false, queue, lseq, true⟩ s) s

/-! ## SYNC and ARRV -/

/-- The launch of a core's task has arrived at a level, whose counter may stand on another device (R67). -/
def State.noteArrival (s : State) (k : Nat) : State :=
  { s with launches := s.launches.map fun l =>
      if some (l.record.queue, l.record.seq) = s.core.launch ∧ 2 ≤ k ∧ !l.levels.contains k then { l with levels := k :: l.levels } else l }

/-- A task's arrival at level `k`: PHk takes the next phase, which is outstanding (R67). It carries a COUNT of 0 as 1 (Table 5.4). -/
def arriveAt (k pc rep : Nat) (s : State) : State :=
  let b := s.bank
  let ph := vget b.ph k 0 + 1
  let domid := (vget b.dm k 0).extractLsb' 32 16
  let due := if s.barrierRoot (BitVec.ofNat 2 k) = s.devId then none else some (s.tick + s.tmo)
  let s := (s.setBank { b with ph := vset b.ph k ph, out := vset b.out k (some ⟨domid, ph, false, pc, rep, due, false⟩) }).noteArrival k
  arrive ⟨BitVec.ofNat 2 k, domid, max 1 (b.dmCount k), ph, s.devId, s.coreNo, s.core.cur,
    (s.core.launch.getD (0, 0)).1, (s.core.launch.getD (0, 0)).2, false⟩ s

/-- SYNC (R90). It stays at the head of the S queue while an arrival is outstanding, until its joins hold and it may arrive
(SYNC_ARRIVAL), and until its phase completes; then it leaves the queue and dispatch goes on. -/
def execSync (f : FmtK) (s : State) : Out :=
  controlFlow f.g s fun s =>
    let b := s.bank
    let k := f.k.toNat
    match b.syncWait with
    | some w =>
      match vget b.out k none with
      | some o =>
        if w.arrived && o.completed then
          (s.modBank fun b => { b with out := vset b.out k none, syncWait := none }).fallThrough
        else s.putBack
      | none => s.putBack
    | none =>
      if !b.dmValid k then s.trapPlain 0xA0
      else if 8192 < b.dmCount k then s.trapPlain 0xA7
      else
        match vget b.out k none with
        | some o =>
          if o.completed then (s.modBank fun b => { b with out := vset b.out k none }).putBack else s.putBack
        | none =>
          if !(b.issuedUpTo s.ctx.entry.seq && b.resultsLanded) then s.putBack
          else
            match takeSchedCause s with
            | some (t, s) => s.putBack.takeTrap { t with pc := s.ctx.entry.pc, rep := s.ctx.entry.rep }
            | none =>
              match s.core.frozenChan with
              | some n => trapFrozen s n
              | none =>
                if !(b.storesDone && s.core.mesh.done && s.core.copiesDone) then s.putBack
                else (s.modBank fun b => { b with syncWait := some ⟨BitVec.ofNat 2 k, false⟩ }).putBack

/-- SYNC_ARRIVAL (R90): the SYNC at the head of the S queue, its joins ended, arrives. -/
def execSyncArrival (s : State) : Out :=
  match s.bank.syncWait, s.bank.queues[0]? with
  | some ⟨k, false⟩, some (e :: _) =>
    .next (arriveAt k.toNat e.pc e.rep (s.modBank fun b => { b with syncWait := some ⟨k, true⟩ }))
  | _, _ => .next s

/-- ARRV (R91): it waits for nothing but the global accesses before it (Table 4.5; `arrivalHeld`), and its arrival is outstanding. -/
def execArrv (f : FmtK) (s : State) : Out :=
  guarded f.g s fun s =>
    let b := s.bank
    let k := f.k.toNat
    if !b.dmValid k then s.trapPlain 0xA0
    else if 8192 < b.dmCount k then s.trapPlain 0xA7
    else if (vget b.out k none).isSome then s.trapPlain 0xA1
    else arriveAt k s.ctx.entry.pc s.ctx.entry.rep s

/-! ## Events -/

/-- BARRIER_ARRIVAL (R67): an arrival reaches a counter of this device. DEDUCED: one of a device that this device does not answer is
dropped (R351, R352; log entry 117). -/
def execBarrierArrival (a : Arrival) (s : State) : Out :=
  .next (if a.dev = s.devId || s.admits a.dev then counterReceive a s else s)

/-- PHASE_COMPLETION (R357): a completed phase is reported to the core, and to a context saved from it. -/
def execPhaseCompletion (level : BitVec 2) (domid : BitVec 16) (phase : BitVec 32) (s : State) : Out :=
  .next { (s.modCore fun c => c.completePhase level domid phase) with
    saved := s.saved.map fun p => if p.1 = s.coreNo then (p.1, p.2.completePhase level domid phase) else p }

/-- BARRIER_ROOT_TIMEOUT (R357): the root of a level, another device, has not answered an arrival within TMO: every task of the device
that waits at the level takes 0xA6. -/
def execBarrierRootTimeout (level : BitVec 2) (s : State) : Out :=
  .next (if s.barrierRoot level ≠ s.devId ∧ s.anyOut level (Outstanding.overdue s.tick) then rootFails level Outstanding.waits false s else s)

/-- The arrivals at a level in a tick (R357): a root that cannot be reached fails once every task that waits; one that can be has answered
what is overdue, or has not, by an open choice, since no message of the spec says so (log entry 83). -/
def rootWork (level : BitVec 2) (s : State) : State :=
  if s.barrierRoot level = s.devId ∨ !s.anyOut level Outstanding.waits then s
  else if s.rootAway level then
    if s.anyOut level Outstanding.untold then rootFails level Outstanding.untold true s else s
  else
    let s := s.modOut level fun o => { o with lost := false }
    if !s.anyOut level (Outstanding.overdue s.tick) then s
    else
      let (k, s) := s.choose 2
      if k = 0 then (execBarrierRootTimeout level s).stateD s
      else s.modOut level fun o => if o.overdue s.tick then { o with due := none } else o

end Sys2Proof.Machine
end

