-- ==== Sys2Proof/Machine/Freeze.lean ====
section
/-! DEFINITION. The exact freeze: when it completes, the pipeline snapshot, the waits it ends, the trap record, and the resume
(spec/07 R96 to R104; spec/12 R201; spec/24 R348). -/
namespace Sys2Proof.Machine

/-! ## Waits that the freeze ends (R101) -/

/-- The MWAIT of a bank that sleeps at the head of its S queue returns with ARMED unchanged. -/
def endMwait (isB : Bool) (s : State) : State :=
  if !(s.bankOf isB).mwait then s
  else if isB = s.core.cur then s.mwaitLeave
  else
    s.modBankOf isB fun b =>
      { b with mwait := false, queues := vset b.queues 0 ((vget b.queues 0 []).drop 1), hold := b.hold.released }

/-- The WAITVs of a bank return with PRE = 1, and their writes land. -/
def endWaitvs (isB : Bool) (s : State) : State :=
  ((s.bankOf isB).tracked.filter Tracked.isWaitv).foldl (fun s t =>
    match t.kind with
    | .waitv w =>
      let (held, _, s) := evalWaitv isB w s
      (s.modBankOf isB fun b =>
        landTracked { b with tracked := b.tracked.filter fun u => !(match u.kind with | .waitv v => v.id == w.id | _ => false) }
          { t with kind := .value ((waitvValue true (w.expired s) held).setWidth 512) }).dropWaiter (.waitv s.coreNo isB w.id)
    | _ => s) s

/-- A SYNC that has not arrived issues again on resume. -/
def Bank.unarrive (b : Bank) : Bank := if b.syncWait.any (!·.arrived) then { b with syncWait := none } else b

/-- Waits in progress end or hold as Table R101 says. -/
def freezeWaits (s : State) : State :=
  let s := endWaitvs true (endWaitvs false (endMwait true (endMwait false s)))
  s.modCore fun c => { c with bankA := c.bankA.unarrive, bankB := c.bankB.unarrive }

/-! ## The snapshot (R99, R100, Table 7.1) -/

/-- SLOT of an entry. -/
def slotCode (t : Slot) : BitVec 3 := BitVec.ofNat 3 (5 - t.presBit)

/-- FILE of an entry. -/
def RegFile.code : RegFile → BitVec 3
  | .x => 0 | .p => 1 | .v => 2 | .m => 3 | .sr => 4 | .z => 5

/-- An entry's header word. -/
def snapHeader (replay : Bool) (slot : BitVec 3) (rem : Nat) (file : BitVec 3) (num : Nat) : BitVec 64 :=
  (1 : BitVec 1) ++ bit replay ++ (0 : BitVec 3) ++ slot ++ BitVec.ofNat 8 rem ++ file ++ BitVec.ofNat 10 num ++ (0 : BitVec 35)

/-- The entry of a fixed-bound result. -/
def InFlight.snapshot (f : InFlight) : Snapshot :=
  ⟨snapHeader false (slotCode f.slot) f.rem f.reg.file.code f.reg.num, (f.value.setWidth 8192) ||| (f.lanes.setWidth 8192 <<< 4096)⟩

/-- The entry of a tracked result whose value is known; byte 0x3F8 marks it as tracked (log entry 7). -/
def Tracked.snapshot (b : Bank) (t : Tracked) : Option Snapshot :=
  let entry (r : RegRef) (v : BitVec 512) : Snapshot :=
    ⟨snapHeader false (slotCode t.slot) t.rem r.file.code r.num, v.setWidth 8192 ||| ((1 : BitVec 8192) <<< 8128)⟩
  match t.kind, t.regs with
  | .value v, r :: _ => some (entry r v)
  | .zstep n, r :: _ => some (entry r (Desc.stepped (vget b.z r.num 0) n))
  | _, _ => none

/-- The REPLAY entry of an access: payload word, operand values from byte 8; the second register of a pair at byte 0x3F0 and the
bundle it came from at byte 0x3F8 (log entry 7). -/
def GAccess.snapshot (a : GAccess) : Snapshot :=
  let ops := a.operands
  ⟨snapHeader true 0 0 0 (a.dst % 64),
    (((ops.zipIdx.map fun p => (p.1.setWidth 8192 : BitVec 8192) <<< (64 + 64 * p.2)).foldl (· ||| ·) (a.word.setWidth 8192)) |||
      ((BitVec.ofNat 32 a.rep ++ BitVec.ofNat 32 a.pc ++ BitVec.ofNat 64 (a.dst / 64) : BitVec 128).setWidth 8192 <<< 8064))⟩

/-- The entries that a freeze of the core makes. DESIGN CHOICE of the order: fixed-bound results, then tracked values, then
accesses that wait on translation (log entry 97). -/
def Core.snapshots (c : Core) : List Snapshot :=
  let b := c.bank
  b.inflight.map InFlight.snapshot ++ b.tracked.filterMap (Tracked.snapshot b) ++ b.stuck.map GAccess.snapshot

/-- A tracked operation that lets the freeze complete: a global access that has landed or waits on a translation fault, a value
within 24 cycles of landing, an MSTAT, which stays with the mesh. DESIGN CHOICE of the last two: R99 names results of a fixed bound and
global accesses alone (log entry 130). -/
def freezable (stuck : List GAccess) (t : Tracked) : Bool :=
  match t.kind with
  | .value _ | .zstep _ => t.rem ≤ 24
  | .access a => stuck.contains a
  | .mstat .. => true
  | _ => false

/-- The tracked operations of a bank let the freeze complete. -/
def Bank.freezable (b : Bank) : Bool := b.tracked.all (Machine.freezable b.stuck)

/-- The freeze may complete (R99): of both banks. On a Collie core, which only stops, it completes at once. -/
def Core.freezeReady (c : Core) : Bool :=
  c.run == .freezing && (c.collie || (c.snapshots.length ≤ 48 && c.bankA.freezable && c.bankB.freezable))

/-- The entries placed in the buffer; PSBCNT counts them. -/
def Core.fillBuffer (c : Core) (l : List Snapshot) : Core :=
  { c with psb := Vector.ofFn fun i => l.getD i.val ⟨0, 0⟩, psbCnt := l.length }

/-- The state with the core's results in flight moved into the snapshot buffer; one whose restart has failed keeps its buffer
for system software to mend. -/
def takeSnapshot (s : State) : State :=
  if (s.core.trap.map (·.cause)) = some 0xB5 then s
  else
    let stuck := s.bank.stuck
    let s := stuck.foldl (fun s a => s.dropWaiter (.access s.coreNo s.core.cur a.id)) s
    s.modCore fun c =>
      (c.fillBuffer c.snapshots).setBank
        { c.bank with
          inflight := []
          tracked := c.bank.tracked.filter fun t => match t.kind with | .mstat .. => true | _ => false
          posted := c.bank.posted.filter fun a => !stuck.contains a }

/-! ## The trap record (R103, R104) -/

/-- The word at offset 0x00 of a record (Table 7.2). -/
def TrapRecord.word0 (r : TrapRecord) (dev : BitVec 6) : BitVec 32 :=
  r.trap.kind.code ++ dev ++ (0 : BitVec 2) ++ r.trap.slots ++ bit r.bankB ++ BitVec.ofNat 7 r.core ++ r.trap.cause

/-- The 64 bytes of a record (Table 7.2); BUNDLE has 18 bits, so an address at the end of IMEM shows as 0. -/
def TrapRecord.bytes (r : TrapRecord) (dev : BitVec 6) : List (BitVec 8) :=
  leBytes 4 (r.word0 dev).toNat ++ leBytes 4 r.seq.toNat ++ leBytes 4 (r.trap.pc % 2 ^ 18) ++ leBytes 4 r.launch.toNat ++
    leBytes 4 (ptpSplit r.ptpNs).2.toNat ++ leBytes 8 (ptpSplit r.ptpNs).1.toNat ++ leBytes 4 r.trap.rep ++
    leBytes 8 r.trap.addr.toNat ++ leBytes 8 r.trap.detail0.toNat ++ leBytes 8 r.trap.detail1.toNat ++ leBytes 4 r.psb ++
    leBytes 4 0

/-- The trap special registers take a record's fields (R104). -/
def Bank.showRecord (b : Bank) (r : TrapRecord) (dev : BitVec 6) : Bank :=
  { b with
    tcause := (r.word0 dev).setWidth 64, tbundle := BitVec.ofNat 64 (r.trap.pc % 2 ^ 18), tslots := r.trap.slots.setWidth 64,
    taddr := r.trap.addr }

/-- The record of the trap that the core is frozen by, written: numbered, shown in the trapping bank's registers, kept
(log entry 8 for the first number). -/
def State.writeRecord (s : State) : State :=
  match s.core.trap with
  | none => s
  | some t =>
    let c := s.core
    let r : TrapRecord := ⟨t, c.trapBank, s.coreNo, c.trapSeq, (s.bankOf c.trapBank).launchId,
      s.ptpAt c.freezeAt, c.psbCnt⟩
    let s := s.modBankOf c.trapBank fun b => b.showRecord r s.devId
    s.modCore fun c => { c with trapSeq := c.trapSeq + 1, records := c.records ++ [r] }

/-- A Collie core stops at a trap, which goes to the error log (R348). -/
def State.collieStop (s : State) : State :=
  let (w, s) := s.openValue 64
  let s := s.logError 5 7 (BitVec.ofNat 16 (s.coreNo - 128)) w
  (s.modBank fun b => { b with ended := true }).modCore fun c => { c with run := .halted, trap := none, deferred := [] }

/-! ## The resume (R102) -/

/-- The register of an entry's header, where Table 7.1 permits it. -/
def snapReg (h : BitVec 64) : Option RegRef :=
  let n := (h.extractLsb' 35 10).toNat
  match (h.extractLsb' 45 3).toNat with
  | 0 => if n < 64 then some ⟨.x, n⟩ else none
  | 1 => if n < 16 then some ⟨.p, n⟩ else none
  | 2 => if n < 64 then some ⟨.v, n⟩ else none
  | 3 => if n < 8 then some ⟨.m, n⟩ else none
  | 4 => some ⟨.sr, n⟩
  | 5 => if n < 16 then some ⟨.z, n⟩ else none
  | _ => none

/-- An entry that the restart accepts: valid, SLOT 0 to 3, a register its FILE has, REM 1 to 24, or 0 for a REPLAY of a global
operation. -/
def Snapshot.ok (e : Snapshot) : Bool :=
  let h := e.header
  let rem := (h.extractLsb' 48 8).toNat
  h.getLsbD 63 && (h.extractLsb' 56 3).toNat < 4 && (snapReg h).isSome &&
    if h.getLsbD 62 then rem == 0 else 1 ≤ rem && rem ≤ 24

/-- The slot of an entry. -/
def Snapshot.slot (e : Snapshot) : Slot := allSlots.getD (e.header.extractLsb' 56 3).toNat .s

/-- An entry restored to the active bank: a result in flight that lands after its count, a tracked value, or an access that
issues again. -/
def restoreEntry (e : Snapshot) (s : State) : State :=
  let h := e.header
  let rem := (h.extractLsb' 48 8).toNat
  let p := e.payload
  match snapReg h with
  | none => s
  | some r =>
    if h.getLsbD 62 then
      match decodeSlot .s (p.setWidth 64) with
      | .ok (.s op b) =>
        s.startAccess s.core.cur (makeAccess op b (p.setWidth 32) ((List.range 3).map fun k => p.extractLsb' (64 + 64 * k) 64)
          (pairOf r.num (p.extractLsb' 8064 64).toNat) (p.extractLsb' 8128 32).toNat (p.extractLsb' 8160 32).toNat s.bank.seqNext)
      | _ => s
    else if p.getLsbD 8128 then
      s.modBank fun b => { b with tracked := b.tracked ++ [⟨[r], .value (p.setWidth 512), rem, 0, 0, 0, e.slot⟩] }
    else
      s.modBank fun b => { b with inflight := b.inflight ++
        [⟨r, p.setWidth 4096, p.extractLsb' 4096 128, rem, s.cycle, 0, e.slot, none, true⟩] }

/-- The first entry of the buffer that stops the restart (R102): one that PSBCNT counts and is invalid, or a valid one with a header
that Table 7.1 forbids; 0xFF for a slot descriptor of the mesh (R201). -/
def Core.badEntry (c : Core) : Option Nat :=
  match (List.range 48).find? fun i =>
      let e := vget c.psb i ⟨0, 0⟩
      if e.header.getLsbD 63 then !e.ok else i < c.psbCnt with
  | some i => some i
  | none => if c.mesh.badSlot then some 0xFF else none

/-- The traps that a core holds are raised in one cycle, before any entry issues: the first in the order of R98 is reported with the
slots of all, and the others are held again (R98, R99). -/
def State.raiseHeld (s : State) : State :=
  match s.core.deferred with
  | [] => s
  | l => l.foldl (fun s p => s.takeTrapIn p.2 p.1) (s.modCore fun c => { c with deferred := [] })

/-- Ends the freeze: the queues, the buffer, the mesh and the vector units restart; a bad entry stops the restart with 0xB5;
a cause held during the freeze is raised before any entry issues (R99, R102). DESIGN CHOICE: BUNDLE and REP of 0xB5, which no entry
raises, hold the active bank's next dispatch (log entry 98). -/
def State.resume (s : State) : State :=
  let c := s.core
  match c.badEntry with
  | some i =>
    let t : Trap := ⟨0xB5, .escalated, 0, s.bank.pc, s.bank.rep, Config.unstated 0xB5 0, BitVec.ofNat 64 i, 0⟩
    s.modCore fun c => { c with run := .freezing, hold := false, trap := some t, trapBank := c.cur, freezeAt := s.cycle }
  | none =>
    let s := s.modCore fun c =>
      { c with
        run := if c.bank.draining then .draining else .running, hold := false, trap := none,
        psb := Vector.replicate 48 ⟨0, 0⟩, psbCnt := 0 }
    let s := s.restartMesh.modCore Core.settleQueue
    let s := (s.replayBank false).replayBank true
    let s := (List.range 48).foldl (fun s i =>
      if (vget c.psb i ⟨0, 0⟩).header.getLsbD 63 then restoreEntry (vget c.psb i ⟨0, 0⟩) s else s) s
    s.raiseHeld

end Sys2Proof.Machine
end

