-- ==== Sys2Proof/Machine/Launch.lean ====
section
/-! DEFINITION. The front end: rings, launches from their records to their completion, the trap policy, pre-emption and context
switching, watchdogs, budgets, frames and range claims (spec/24; spec/07 R96, R109 to R114; spec/06 R87). -/
namespace Sys2Proof.Machine

/-! ## Budgets (R345) -/

/-- A class may move more bytes on a resource: its budget is not enforced or not reached; class 7 is held while enforced. -/
def State.mayMove (s : State) (r k : Nat) : Bool :=
  let w := s.budget r k
  !w.getLsbD 63 || (k != 7 && Sparse.at 0 s.moved (8 * r + k) < (w.extractLsb' 0 40).toNat)

/-- Bytes that a class has moved on a resource in this period, enforced or not. -/
def State.move (s : State) (r k n : Nat) : State :=
  { s with moved := Sparse.put s.moved (8 * r + k) (Sparse.at 0 s.moved (8 * r + k) + n) }

/-- The resource that a transfer at a physical address uses; none inside the device. -/
def State.resourceOf (s : State) (pa : Nat) : Option Nat :=
  if devOf pa ≠ s.devId then some 1
  else match rangeOf (localOf pa) with
    | .hbm => some 0
    | .host => some 2
    | .cxl _ => some 3
    | _ => none

/-- A transfer of a class at an address may start. -/
def State.mayTransfer (s : State) (k pa : Nat) : Bool := (s.resourceOf pa).all fun r => s.mayMove r k

/-- The bytes of a transfer of a class counted. -/
def State.charge (s : State) (k pa n : Nat) : State := (s.resourceOf pa).elim s fun r => s.move r k n

/-- The class of the firmware's own transfers. -/
def firmwareClass : Nat := 4

/-! ## MSI-X (R366) -/

/-- A vector of a function sent: its entry's message, or, where the entry is masked, kept until it is not. DESIGN CHOICE: a vector of 512
or above names no entry (log entry 141). -/
def State.sendVec (s : State) (port : BitVec 1) (v : BitVec 11) : State :=
  let i := 512 * port.toNat + v.toNat
  let e := Sparse.at MsixEntry.reset s.msix i
  if 512 ≤ v.toNat then s
  else if e.masked then { s with msix := Sparse.put s.msix i { e with pending := true } }
  else s.send (.msix port (v.setWidth 9) e.addr e.data)

/-! ## Rings (R337) -/

/-- Who asks for the pages of the front end's own writes. -/
def ringWaiter : Waiter := .launch 512 0

/-- The oldest record being written goes on by what one line takes; true where it moved. A record written is sent on the host port
before its vector (R337, R350). -/
def writeSome (w : FeWrite) (rest : List FeWrite) (s : State) : Bool × State :=
  match w.bytes with
  | [] =>
    let s := flushHost { s with feWrites := rest }
    (true, match w.vec with | some v => s.sendVec (s.asidPort w.asid) v | none => s)
  | bytes =>
    let n := 128 - w.va % 128
    match translateMarked (.front 512) w.asid w.va false true s with
    | (.leaf pa ca _, s) =>
      if deviceAddr pa then (true, { s with feWrites := { w with bytes := [] } :: rest })
      else if !s.mayTransfer firmwareClass pa then (false, s)
      else
        match lineWrite (.front 512) pa ca w.asid (bytes.take n) s with
        | (.ready .., s) =>
          (true, { (s.charge firmwareClass pa (bytes.take n).length) with
            feWrites := { w with va := w.va + n, bytes := bytes.drop n } :: rest })
        | (.wait, s) => (false, s)
        | (.fail .., s) => (true, { s with feWrites := { w with bytes := [] } :: rest })
    | (.fault, s) => (false, if s.pageAsked ringWaiter w.va then s else s.pageFault ringWaiter w.asid w.va false true)
    | (.cause .., s) => (true, { s with feWrites := { w with bytes := [] } :: rest })
    | (_, s) => (false, s)

/-- Records written as far as they can be. -/
def pumpFront : Nat → State → State
  | 0, s => s
  | k + 1, s =>
    match s.feWrites with
    | [] => s
    | w :: rest =>
      match writeSome w rest s with
      | (true, s) => pumpFront k s
      | (false, s) => s

/-- The records being written go on. -/
def State.pumpRings (s : State) : State := pumpFront ((s.feWrites.map fun w => w.bytes.length / 128 + 4).sum) s

/-- A record goes to a queue's completion or trap ring: it counts, is written where the ring holds records, and the vector is
sent where MSI = 1 (R337). Answers its index. -/
def State.ringRecord (s : State) (q : Nat) (trapRing : Bool) (bytes : List (BitVec 8)) : Nat × State :=
  let d := s.queueAt q
  let k := if trapRing then 7 else 5
  let ctl := d.word k
  let lg := (ctl.extractLsb' 32 5).toNat
  let j := (ctl.extractLsb' 0 32).toNat
  let va := ((d.word (k - 1)).toNat + 64 * (j % 2 ^ lg)) % 2 ^ 64
  let vec := if (d.word 5).getLsbD 40 then some ((d.word 5).extractLsb' 41 11) else none
  let s := { s with feWrites := s.feWrites ++ [FeWrite.mk d.asid va (if ringLog lg then bytes else []) vec] }
  (j, (s.modQueue q fun d => d.setWord k (ctl.extractLsb' 32 32 ++ (ctl.extractLsb' 0 32 + 1))).pumpRings)

/-! ## Completion (R342, R344) -/

/-- The PTP time of a tick's first cycle. -/
def State.tickNs (s : State) (t : Nat) : Nat := s.ptpAt ((25 * t + 1) / 2)

/-- A completion record (Table 24.3). -/
def completionBytes (seq : BitVec 32) (status cause : BitVec 8) (tag : BitVec 64) (rns cns : Nat) (traps : BitVec 32) :
    List (BitVec 8) :=
  leBytes 4 seq.toNat ++ [status, cause] ++ leBytes 2 0 ++ leBytes 8 tag.toNat ++ leBytes 8 (ptpSplit rns).1.toNat ++
    leBytes 4 (ptpSplit rns).2.toNat ++ leBytes 4 (ptpSplit cns).2.toNat ++ leBytes 8 (ptpSplit cns).1.toNat ++
    leBytes 4 traps.toNat ++ leBytes 20 0

/-- The cores a launch record names, in ascending order. -/
def LaunchRec.coreList (r : LaunchRec) : List Nat := (List.range 128).filter fun c => r.cores.getLsbD c

/-- The page requests that a core's task waits for, waited for no more. -/
def State.dropCoreWaiters (s : State) (n : Nat) : State :=
  let f := fun (r : PageReq) =>
    { r with waiters := r.waiters.filter fun w =>
        match w with
        | .access c _ _ | .copy c _ | .waitv c _ _ | .trap c => c != n
        | .launch .. => true }
  { s with pageReqs := s.pageReqs.map f, pageWait := s.pageWait.map f }

/-- A bank without queued entries, waits and results in flight; a store that is translated still performs (log entry 9). -/
def Bank.emptied (b : Bank) : Bank :=
  { b with
    queues := Vector.replicate 6 [], inflight := [], tracked := [], syncWait := none, mwait := false,
    hold := .stopped, illegal := none, ending := false, ended := true, xfault := false, draining := false,
    out := Vector.replicate 4 none,
    posted := b.posted.filter fun a => match a.phase with | .ready .. => a.kind == .store | _ => false }

/-- The mesh of a freed core: nothing in progress. -/
def Mesh.freed (m : Mesh) : Mesh := { m with frz := false, pipe := [], held := [], written := [], unit := [] }

/-- A core freed: copies aborted, halted, its task gone (R285, R344). -/
def Core.freed (c : Core) : Core :=
  { c.abortAll.dropCredits with
    run := .halted, launch := none, trap := none, deferred := [], hold := false, preReq := none, drainAt := none, point := false,
    releaseAt := none, psb := Vector.replicate 48 ⟨0, 0⟩, psbCnt := 0, bankA := c.bankA.emptied, bankB := c.bankB.emptied, mesh := c.mesh.freed }

/-- The levels at which a launch's arrivals may stand: those of this device, and those at which a task of it has arrived. -/
def Launch.arrivedLevels (l : Launch) : List Nat := [0, 1] ++ l.levels

/-- A launch leaves the device: its arrivals are withdrawn and the completion record is written (R67, R342). -/
def completeLaunch (l : Launch) (status cause : BitVec 8) (s : State) : State :=
  let r := l.record
  let s := withdraw r.queue r.seq l.arrivedLevels s
  let s := { s with launches := s.launches.filter fun m => !(m.record.queue == r.queue && m.record.seq == r.seq) }
  (s.ringRecord r.queue false (completionBytes r.seq status cause r.tag (s.tickNs l.rt) s.ptpNs l.traps)).2

/-- A launch ended: its cores frozen, their copies aborted, the cores freed, a saved context of it dropped (R344). -/
def endLaunch (l : Launch) (status cause : BitVec 8) (s : State) : State :=
  let r := l.record
  let s := withdraw r.queue r.seq l.arrivedLevels s
  let s := r.coreList.foldl (fun s n =>
    if (s.coreAt n).launch = some (r.queue, r.seq) then (s.dropCoreWaiters n).modCoreAt n Core.freed
    else { s with saved := s.saved.filter fun p => !(p.1 == n && p.2.launch == some (r.queue, r.seq)) }) s
  completeLaunch l status cause s

/-- The running launch of a queue and number. -/
def State.launchOf (s : State) (id : Option (Nat × BitVec 32)) : Option Launch :=
  s.launches.find? fun l => some (l.record.queue, l.record.seq) == id

/-- The state with a launch changed. -/
def State.modLaunch (s : State) (id : Option (Nat × BitVec 32)) (f : Launch → Launch) : State :=
  { s with launches := s.launches.map fun l => if some (l.record.queue, l.record.seq) = id then f l else l }

/-! ## The trap policy (R344) -/

/-- The record of the core's trap goes to its launch's trap ring, and the core waits for system software (policy 1). -/
def recordTrap (s : State) : State :=
  let s := s.modCore fun c => { c with hold := true }
  match s.launchOf s.core.launch, s.core.records.getLast? with
  | some l, some r =>
    ((s.modLaunch s.core.launch fun l => { l with traps := l.traps + 1 }).ringRecord l.record.queue true (r.bytes s.devId)).2
  | _, _ => s

/-- The access that an operation needs at an address: that of the waiting access there, else a read. -/
def accessNeed (c : Core) (va : BitVec 64) : Bool × Bool :=
  match (List.range c.psbCnt).findSome? fun i =>
      let e := vget c.psb i ⟨0, 0⟩
      if !e.header.getLsbD 62 then none
      else match decodeSlot .s (e.payload.setWidth 64) with
        | .ok (.s op b) =>
          let a := makeAccess op b 0 ((List.range 3).map fun k => e.payload.extractLsb' (64 + 64 * k) 64) 0 0 0 0
          if a.va = va then some a.kind else none
        | _ => none with
  | some .store => (false, true)
  | some (.atomic _) => (true, true)
  | _ => (true, false)

/-- The front end's policy for the trap that the core in focus is frozen by. -/
def applyPolicy (s : State) : State :=
  match s.core.trap with
  | none => s
  | some t =>
    match ((s.policyOf t.cause).extractLsb' 0 2).toNat with
    | 0 => s.resume
    | 3 =>
      match s.launchOf s.core.launch with
      | some l => endLaunch l 1 t.cause s
      | none => s.modCore Core.freed
    | 2 =>
      if t.cause.extractLsb' 4 4 = 7 then
        let (rd, wr) := accessNeed s.core t.addr
        let s := s.modCore fun c => { c with hold := true, polAt := s.tick }
        s.pageAnew (.trap s.coreNo) (s.bankOf s.core.trapBank).asid t.addr.toNat rd wr
      else recordTrap s
    | _ => recordTrap s

/-- FREEZE_COMPLETE (R99, R101, R103): the waits in progress end; once the freeze may complete, the snapshot and the record are
made and the policy acts. -/
def execFreezeComplete (s : State) : Out :=
  if s.core.run ≠ .freezing then .next s
  else
    let s := freezeWaits s
    if !s.core.freezeReady then .next s
    else if s.core.collie then .next s.collieStop
    else .next (applyPolicy ((takeSnapshot s).modCore fun c => { c with run := .frozen }).writeRecord)

/-- CCTL_RESUME (R396): a frozen core resumes; in any other state the write is ignored. -/
def execCctlResume (core : Nat) (s : State) : Out :=
  .next (if core < 128 then s.onCore core fun s => if s.core.run = .frozen then (s.dropWaiter (.trap core)).resume else s
    else s)

/-- LAUNCH_END (R396): the host names a running launch, which ends with STATUS 3. -/
def execLaunchEnd (queue : Nat) (seq : BitVec 32) (s : State) : Out :=
  match s.launchOf (some (queue, seq)) with
  | some l => .next (endLaunch l 3 0 s)
  | none => .next s

/-! ## The end of a task (R87, R108, R342) -/

/-- A window's release at the end of a task waits as WREL does: FLOW 1 and FLOW 4 until every fetchable row has landed or the flow
has frozen (R87, R242). -/
def Window.holdsEnd (w : Window) : Bool :=
  w.wm.act && (w.flow == 1 || w.flow == 4) && !w.wm.frz && w.landed < w.fetchable

/-- A window released at the end of a task. -/
def Window.released (w : Window) : Window := { w with wm := { w.wm with act := false, ring := false, frz := false } }

/-- TASK_END (R87): windows released, gather queue and schedule discarded (bank A), monitor disarmed, the task ended; the other
bank's task goes on; with the last task of a launch the launch completes (R342). -/
def execTaskEnd (s : State) : Out :=
  if !s.bank.ending || (!s.core.cur && s.core.wins.toList.any Window.holdsEnd) then .next s
  else
    let isB := s.core.cur
    let s := if isB then s.modCore fun c => { c with arm := false }
      else s.modCore fun c => { c with wins := c.wins.map Window.released, gq := [], sched := [] }
    let s := s.modBank fun b =>
      { b with ending := false, ended := true, monaddr := b.monaddr &&& ~~~1, monLine := none, monSeen := [] }
    let id := s.core.launch
    let s := s.modLaunch id fun l => { l with tasks := l.tasks.filter (· != (s.coreNo, isB)) }
    if !(s.core.bankOf !isB).ended then .next (if (s.core.bankOf !isB).xfault then s else s.toOtherBank)
    else
      let s := s.modCore fun c => { c.dropCredits with run := .halted, launch := none, preReq := none, drainAt := none }
      match s.launchOf id with
      | some l => .next (if l.tasks.isEmpty then completeLaunch l 0 0 s else s)
      | none => .next s

/-! ## Taking and reading a launch record (R339 to R341) -/

/-- `n` bytes at a virtual address read by the front end: the bytes, or not yet, or a failure. -/
inductive FeRead where
  | got (bytes : List (BitVec 8))
  | notYet | failed
  deriving DecidableEq, Repr

/-- On whose behalf a waiter's reads of lines go out. -/
def Waiter.asker : Waiter → Asker
  | .launch q _ => .front q
  | .access c b id | .waitv c b id => .access c b id
  | .copy c ch => .copy c ch.toNat
  | .trap _ => .front 512

/-- Reads bytes line by line; a fault asks for the page on behalf of the waiter. -/
def feRead (w : Waiter) (asid : BitVec 8) (va n : Nat) : Nat → List (BitVec 8) → State → FeRead × State
  | 0, acc, s => (.got acc, s)
  | k + 1, acc, s =>
    if n ≤ acc.length then (.got acc, s)
    else
      let a := va + acc.length
      let m := min (128 - a % 128) (n - acc.length)
      match translateMarked w.asker asid a true false s with
      | (.leaf pa ca disc, s) =>
        if disc then feRead w asid va n k (acc ++ List.replicate m 0) s
        else if deviceAddr pa then (.failed, s)
        else if !s.mayTransfer firmwareClass pa then (.notYet, s)
        else
          match lineRead w.asker pa ca asid s with
          | (.ready d false, s) => feRead w asid va n k (acc ++ peekLine d (pa % 128) m) (s.charge firmwareClass pa m)
          | (.ready _ true, s) => (.failed, s)
          | (.wait, s) => (.notYet, s)
          | (.fail .., s) => (.failed, s)
      | (.fault, s) => (.notYet, if s.pageAsked w a then s else s.pageFault w asid a true false)
      | (.cause .., s) => (.failed, s)
      | (_, s) => (.notYet, s)

/-- The fields of a record's 256 bytes (Table 24.2). -/
def parseRecord (queue : Nat) (seq : BitVec 32) (cls : BitVec 2) (bytes : List (BitVec 8)) : LaunchRec :=
  let u (o n : Nat) : Nat := leNat ((bytes.drop o).take n)
  { queue := queue, seq := seq, asid := BitVec.ofNat 8 (u 0 1), armb := (BitVec.ofNat 16 (u 0 2)).getLsbD 11,
    range := (BitVec.ofNat 16 (u 0 2)).getLsbD 10, img := BitVec.ofNat 64 (u 0x08 8), entryB := BitVec.ofNat 18 (u 0x14 4),
    len := u 0x10 4, cores := BitVec.ofNat 128 (u 0x18 16), drain := BitVec.ofNat 32 (u 0x28 4),
    preb := BitVec.ofNat 32 (u 0x2C 4), faultb := BitVec.ofNat 32 (u 0x30 4), wdog := BitVec.ofNat 32 (u 0x34 4),
    dm := (List.range 4).map fun k => BitVec.ofNat 64 (u (0x38 + 8 * k) 8),
    discards := ((List.range 4).map fun r => (u (0x58 + 8 * r) 8 % 2 ^ 22, u (0x58 + 8 * r) 8 / 2 ^ 22 % 2 ^ 22)).filter (·.2 != 0),
    tag := BitVec.ofNat 64 (u 0x78 8), xs := (List.range 15).map fun i => BitVec.ofNat 64 (u (0x80 + 8 * i) 8),
    shares := (List.range 4).map fun d => u (0xF8 + 2 * d) 2, cls := cls }

/-- The record breaks Table 24.2 or names no core; `asid` is the one it must have (R67, R340, R341). -/
def badRecord (asid : BitVec 8) (bytes : List (BitVec 8)) (r : LaunchRec) : Bool :=
  let u (o n : Nat) : Nat := leNat ((bytes.drop o).take n)
  r.asid != asid || u 0 8 / 2 ^ 12 != 0 || u 0 8 / 2 ^ 8 % 4 != 0 || r.cores == 0 || r.img.toNat % 64 != 0 ||
    r.len % 4 != 0 || r.len < 4 || 0x40000 < r.len || 0x40000 ≤ u 0x14 4 || (!r.armb && r.entryB != 0) ||
    r.entryB.toNat % 4 != 0 ||
    (r.dm.any fun w => w.extractLsb' 48 15 != 0 || w.extractLsb' 4 12 != 0 || (w.getLsbD 63 && 8192 < (w.extractLsb' 16 16).toNat)) ||
    ((List.range 4).any fun k =>
      let w := u (0x58 + 8 * k) 8
      2 ^ 44 ≤ w || w % 64 != 0 || w / 2 ^ 22 % 64 != 0) ||
    (!r.range && r.shares.any (· != 0))

/-- A refused record: a completion record with STATUS 2 and the reason (R341). -/
def refuseRecord (queue : Nat) (seq : BitVec 32) (tag : BitVec 64) (reason : BitVec 8) (s : State) : State :=
  let (r, s) := s.openValue 64
  (s.ringRecord queue false (completionBytes seq 2 reason tag r.toNat s.ptpNs 0)).2

/-- The queue is served: enabled, with a ring of 1 to 16 bits, the firmware running (R337, R371). -/
def State.served (s : State) (q : Nat) : Bool := s.devrdy && (s.queueAt q).en && ringLog (s.queueAt q).log2

/-- Takes a host queue's records in ring order while any is posted; each gets its sequence number now (R339, R341). -/
def takePosted (q : Nat) : Nat → State → State
  | 0, s => s
  | k + 1, s =>
    let d := s.queueAt q
    if d.head = d.tail then s
    else
      let va := ((d.word 1).toNat + 256 * (d.head.toNat % 2 ^ d.log2)) % 2 ^ 64
      let s := s.modQueue q fun d => { (d.setWord 3 ((d.head + 1).setWidth 64)) with seq := d.seq + 1 }
      takePosted q k { s with taking := s.taking ++ [⟨q, d.seq + 1, va, d.asid, false⟩] }

/-- A queue's poll slot has passed in the frame (R339); without frames (FRAME = 0) every moment is one. -/
def State.hasPolled (s : State) (q : Nat) : Bool := s.frame != 0 && s.polled.contains q

/-- A queue's poll slot, one in a frame: every record posted is taken; a device queue's has its number (R339, R341). -/
def takeRecord (q : Nat) (s : State) : State :=
  if s.hasPolled q then s
  else
  let s := { s with polled := q :: s.polled }
  if !s.served q then s
  else if q < 256 then takePosted q ((s.queueAt q).tail - (s.queueAt q).head).toNat s
  else
    let mine := s.devPosts.filter (·.queue == q)
    if mine.isEmpty then s
    else
      let s := s.modQueue q fun d => d.setWord 3 ((d.head + BitVec.ofNat 32 mine.length).setWidth 64)
      { s with taking := s.taking ++ mine, devPosts := s.devPosts.filter (·.queue != q) }

/-- Every page of a launch's image translates; a fault asks for the page on behalf of the waiter (R341 step 2). -/
def imageMapped (w : Waiter) (asid : BitVec 8) : List Nat → State → FeRead × State
  | [], s => (.got [], s)
  | va :: r, s =>
    match translateMarked w.asker asid va true false s with
    | (.leaf .., s) => imageMapped w asid r s
    | (.fault, s) => (.notYet, if s.pageAsked w va then s else s.pageFault w asid va true false)
    | (.cause .., s) => (.failed, s)
    | (_, s) => (.notYet, s)

/-- Reads the record that was taken from a queue and either refuses it or lets it wait for its cores (R341 step 2). -/
def readRecord (q : Nat) (s : State) : State :=
  match s.taking.find? (·.queue == q) with
  | none => s
  | some t =>
    let done (s : State) : State := { s with taking := s.taking.filter (· != t) }
    if t.failed then done (refuseRecord q t.seq 0 3 s)
    else if !s.asidLive t.asid then done (refuseRecord q t.seq 0 1 s)
    else
      match feRead (.launch q t.seq) t.asid t.va 256 4 [] s with
      | (.got bytes, s) =>
        let r := parseRecord q t.seq (s.queueAt q).cls bytes
        if t.va % 256 ≠ 0 ∧ q < 256 ∨ badRecord t.asid bytes r then done (refuseRecord q t.seq r.tag 2 s)
        else
          match imageMapped (.launch q t.seq) t.asid [r.img.toNat, r.img.toNat + r.len - 1] s with
          | (.got _, s) => { (done s) with waiting := s.waiting ++ [r] }
          | (.notYet, s) => s
          | (.failed, s) => done (refuseRecord q t.seq r.tag 3 s)
      | (.notYet, s) => s
      | (.failed, s) => done (refuseRecord q t.seq 0 3 s)

/-! ## Starting a launch (R339, R341) -/

/-- The class of the launch whose task a core holds. -/
def State.classOf (s : State) (c : Core) : Option (BitVec 2) := (s.launchOf c.launch).map (·.record.cls)

/-- Stores of a task that has ended are still to perform (log entry 122). -/
def Core.storesLeft (c : Core) : Bool := (c.bankA.posted ++ c.bankB.posted).any fun a => a.kind == .store

/-- A core is taken for a record of a class: by a launch that has not given way, by stores of a launch that has ended, or by a saved
context of an equal or higher class, which returns first (R339). -/
def State.coreTaken (s : State) (cls : BitVec 2) (n : Nat) : Bool :=
  (s.coreAt n).launch.isSome || (s.coreAt n).storesLeft || s.saved.any fun p => p.1 == n && (s.classOf p.2).any fun k => cls ≤ k

/-- The class of the launch that a core runs. -/
def State.coreClass (s : State) (n : Nat) : Option (BitVec 2) := s.classOf (s.coreAt n)

/-- A pre-emption request made pending for the task of a core (R109). -/
def requestPreempt (n : Nat) (s : State) : State :=
  s.modCoreAt n fun c => if c.preReq.isNone && c.run != .parked then { c with preReq := some s.tick } else c

/-- Every store of a core that is translated has performed. -/
def Core.storesSettled (c : Core) : Bool :=
  (c.bankA.posted ++ c.bankB.posted).all fun a => a.kind != .store || a.untranslated

/-- A parked or escalated core's context is saved and the core freed, once what it has translated is stored (log entry 122);
discardable ranges are not saved (R112, R339). -/
def saveContext (n : Nat) (s : State) : State :=
  let c := s.coreAt n
  if !c.storesSettled then s
  else if c.run = .parked ∨ (c.run = .frozen ∧ c.preReq.isSome ∧ (c.trap.map (·.cause)) = some 0xB0) then
    let spad := c.spad.filter fun p => !(c.discards.any fun d => d.1 ≤ p.1 && p.1 < d.1 + d.2)
    let s := { s with saved := (n, { c with
      spad := spad, preReq := none, drainAt := none, releaseAt := none, hold := false }) :: s.saved }
    (s.dropCoreWaiters n).modCoreAt n Core.freed
  else s

/-- Where a record stands in the order of start: class from the highest, then round robin after the queue served last. -/
def startKey (last : Nat) (r : LaunchRec) : Nat := 1000 * (3 - r.cls.toNat) + (r.queue + 544 - last - 1) % 272

/-- The first waiting record, in that order, whose cores are all free, of the queue's own first record. -/
def nextStart (s : State) : Option LaunchRec :=
  let firsts := s.waiting.filter fun r => (s.waiting.find? (·.queue == r.queue)) == some r
  let free := firsts.filter fun r => r.coreList.all fun n => !s.coreTaken r.cls n
  free.foldl (fun best r =>
    match best with
    | none => some r
    | some b => if startKey s.lastQueue r < startKey s.lastQueue b then some r else best) none

/-- The memory that holds bytes from address 0. -/
def Memory.ofBytes (l : List (BitVec 8)) : Memory := l.zipIdx.filterMap fun p => if p.1 = 0 then none else some (p.2, p.1)

/-- A bank at release (R58, R341): arguments, task index, barrier membership, entry. -/
def releaseBank (r : LaunchRec) (ix entry : Nat) (present : Bool) : Bank :=
  { Bank.reset with
    x := Vector.ofFn fun i =>
      if 1 ≤ i.val ∧ i.val ≤ 15 then r.xs.getD (i.val - 1) 0 else if i.val = 16 then BitVec.ofNat 64 ix else 0
    launchId := r.seq, asid := r.asid, taskIx := BitVec.ofNat 64 ix,
    dm := Vector.ofFn fun k => dmWord k.val (r.dm.getD k.val 0), pc := entry, ended := !present }

/-- A core loaded for a launch: IMEM, registers, bounds; scratchpad and mesh as they stand (R341 step 3). -/
def loadCore (r : LaunchRec) (image : List (BitVec 8)) (ix : Nat) (c : Core) : Core :=
  { c.clearChannels with
    imem := Memory.ofBytes image, imemBad := [], cur := false, arm := r.armb, loadedB := r.armb, entryB := r.entryB,
    bankA := releaseBank r ix 0 true, bankB := releaseBank r ix r.entryB.toNat r.armb,
    launch := some (r.queue, r.seq), discards := r.discards, drainB := r.drain, preB := r.preb, faultB := r.faultb, wdogB := r.wdog,
    run := .halted, trap := none, deferred := [], hold := false, preReq := none, point := false, drainAt := none, releaseAt := none,
    psb := Vector.replicate 48 ⟨0, 0⟩, psbCnt := 0, stalls := [] }

/-- The digest of a launch image, kept with the latest sixteen (R377). -/
def keepDigest (a : Attest) (r : LaunchRec) (image : List (BitVec 8)) : Attest :=
  { a with digests := (a.digests ++ [(r.seq, r.asid, BitVec.ofNat 256 (leNat (sha256 image)))]).drop (a.digests.length - 15) }

/-- Loads every core a record names and sets the release tick, at least 2 ticks after the load (R341 steps 3 and 4); a failure
of the image's translation refuses it. -/
def loadLaunch (r : LaunchRec) (s : State) : State :=
  match feRead (.launch r.queue r.seq) r.asid r.img.toNat r.len (r.len / 64 + 2) [] s with
  | (.got image, s) =>
    let s := (r.coreList.zipIdx).foldl (fun s p => s.modCoreAt p.1 (loadCore r image p.2)) s
    let (k, s) := s.choose (2 ^ 32)
    let starts := r.shares.scanl (· + ·) 0
    { s with
      waiting := s.waiting.filter (· != r), lastQueue := r.queue,
      ranges := if r.range then Vector.ofFn fun d => (starts.getD d.val 0, starts.getD (d.val + 1) 0) else s.ranges,
      attest := keepDigest s.attest r image,
      launches := s.launches ++
        [⟨r, s.tick + 2 + k, false, r.coreList.flatMap fun n => (n, false) :: (if r.armb then [(n, true)] else []), 0, []⟩] }
  | (.notYet, s) => s
  | (.failed, s) => refuseRecord r.queue r.seq r.tag 3 { s with waiting := s.waiting.filter (· != r) }

/-- The cores that a waiting record takes from launches of a lower class: a request is made, and a parked context is saved
(R339). -/
def makeWay (r : LaunchRec) (s : State) : State :=
  r.coreList.foldl (fun s n =>
    match s.coreClass n with
    | some k => if k < r.cls then saveContext n (requestPreempt n s) else s
    | none => s) s

/-- A queue's taken records go on: the next is read; the first waiting one makes room for itself, and starts when it is the next to
start. -/
def startQueue (queue : Nat) (s : State) : State :=
  let s := readRecord queue s
  let s := match s.waiting.find? (·.queue == queue) with | some r => makeWay r s | none => s
  match nextStart s with
  | some r => if r.queue = queue then loadLaunch r s else s
  | none => s

/-- LAUNCH_START (R341): a queue is polled and its taken records go on. -/
def execLaunchStart (queue : Nat) (s : State) : Out :=
  .next (if 272 ≤ queue then s else startQueue queue (takeRecord queue s))

/-- Every core of a loaded launch begins its first bundle; its mesh holds the pushes that its pipeline region shows (R183, R201). -/
def releaseLaunch (l : Launch) (s : State) : State :=
  let r := l.record
  let s := s.modLaunch (some (r.queue, r.seq)) fun l => { l with released := true }
  r.coreList.foldl (fun s n =>
    s.onCore n fun s => State.restartMesh (s.modCore fun c => { c with run := .running, released := l.rt })) s

/-- TASK_RELEASE (R341): at its release tick every core of a loaded launch begins its first bundle in one cycle. Where a core of it
has had its turn in the cycle, that is the next one (`cycleStart`). -/
def execTaskRelease (queue : Nat) (seq : BitVec 32) (s : State) : Out :=
  match s.launchOf (some (queue, seq)) with
  | some l =>
    .next (if l.released || s.tick < l.rt || l.record.coreList.any fun n => n < s.coreNo then s else releaseLaunch l s)
  | none => .next s

/-! ## Pre-emption (R109 to R114) -/

/-- The tasks of a core have drained: each bank's has ended or drained, and every push has landed (R111 steps 2 to 4). -/
def Core.drained (c : Core) : Bool :=
  c.run == .draining && [c.bankA, c.bankB].all (fun b => b.ended || b.drained) && c.mesh.done

/-- The bank that has drained gives the core to the other bank, whose task has not (R107, R111). -/
def drainTurn (s : State) : State :=
  let other := s.core.bankOf !s.core.cur
  if s.core.run == .draining && s.bank.drained && !other.ended && !other.drained && !other.xfault then s.toOtherBank else s

/-- Every copy has completed, frozen, or been aborted at the drain bound (R111 step 5). -/
def Core.copiesParked (c : Core) : Bool := c.chans.toList.all fun ch => ch.idle || ch.frozen || (ch.cur.isSome && ch.wm.abt)

/-- TASK_PARKED (R111): a drained task whose copies rest is parked. -/
def execTaskParked (s : State) : Out :=
  .next (if s.core.drained && s.core.copiesParked then s.modCore fun c => { c with run := .parked } else s)

/-- DRAIN_BOUND_EXPIRY (R111): the copies that have not completed at the drain bound are aborted. -/
def execDrainBoundExpiry (s : State) : Out :=
  match s.core.drainAt with
  | some t =>
    .next (if s.core.drained && s.core.drainB != 0 && t + s.core.drainB.toNat ≤ s.tick then
        s.modCore fun c => { c with chans := c.chans.map Channel.abortAtDrain } else s)
  | none => .next s

/-- The task stands in a SYNC. -/
def Bank.inSync (b : Bank) : Bool :=
  b.syncWait.isSome || ((vget b.queues 0 []).head?.bind (·.op)).any fun v => match v with | .s 0x4F _ => true | _ => false

/-- A bank's task at its resume: dispatch goes on; where its loop has ended, items put aside start again (R110). -/
def Bank.resumeTask (b : Bank) : Bank :=
  if !b.draining then b
  else
    let b := { b with draining := false, hold := if b.ending || b.ended then b.hold else b.hold.resumed }
    if !b.loop.act && b.loop.lpend != 0 then b.startPending else b

/-- A monitor that was armed at the save may have missed a write (R113). -/
def Bank.resumeMonitor (b : Bank) : Bank := if b.monaddr.getLsbD 0 then { b with monaddr := b.monaddr ||| 2, monLine := none } else b

/-- An aborted copy restarts: from its first byte where its destination overlaps a discardable range, else from its landing
index (R113). -/
def resumeCopy (discards : List (Nat × Nat)) (ch : Channel) : Channel :=
  match ch.cur with
  | some c =>
    if !ch.wm.abt then ch
    else if c.tracks && discards.any fun d => c.dbase < d.1 + d.2 && d.1 < c.hi then
      { (ch.restart fun c => { c with lidx := 0 }) with
        wm := { ch.wm with abt := false, frz := false, addr := BitVec.ofNat 22 c.dbase } }
    else ch.restart id
  | none => ch

/-- CONTEXT_RESUME (R113): the saved context of the core in focus returns to it once it is free, and a release tick is announced. What
the core has counted since, the stores it still performs and the credit granted to it since stay (R103, R364). -/
def execContextResume (s : State) : Out :=
  if s.core.launch.isSome || s.core.run != .halted then .next s
  else
    match s.saved.find? (·.1 == s.coreNo) with
    | none => .next s
    | some (_, c) =>
      let (k, s) := s.choose (2 ^ 32)
      let s := { s with saved := s.saved.eraseP (·.1 == s.coreNo) }
      let old := s.core
      let c := { c with
        bankA := { c.bankA.resumeMonitor with posted := old.bankA.posted ++ c.bankA.posted },
        bankB := { c.bankB.resumeMonitor with posted := old.bankB.posted ++ c.bankB.posted },
        chans := (c.chans.map (resumeCopy c.discards)).zipWith Channel.joinCredits old.chans,
        run := .parked, releaseAt := some (s.tick + 2 + k), trapSeq := old.trapSeq, records := old.records, nextId := old.nextId }
      .next { s with core := c }

/-- The core in focus, whose context has returned, begins on its release cycle: a frozen one ends its freeze, a parked one dispatches
from where it stood; a trap held for it is raised (R102, R110, R113). -/
def releaseContext (s : State) : State :=
  let s := s.modCore fun c => { c with releaseAt := none, bankA := c.bankA.resumeTask, bankB := c.bankB.resumeTask }
  if s.core.trap.isSome then s.resume
  else ((((s.modCore fun c => { c with run := .running }).replayBank false).replayBank true).restartMesh).raiseHeld

/-- A cause that the front end imposes on a core that is frozen already: its record is made and the policy acts. -/
def retrap (t : Trap) (s : State) : State :=
  applyPolicy (s.modCore fun c => { c with trap := some t, trapBank := c.cur, freezeAt := s.cycle }).writeRecord

/-- A cause that the front end imposes on the task of the core in focus (KIND 2): a running core freezes, a freezing one holds it
until its resume (R99), a frozen one takes it at once. -/
def impose (t : Trap) (s : State) : State :=
  match s.core.run with
  | .running | .draining | .freezing => s.takeTrap t
  | .frozen => if (s.core.trap.map (·.cause)) = some t.cause then s else retrap t s
  | _ => s

/-- The trap of an imposed cause. DESIGN CHOICE: BUNDLE and REP of a record with no entry at fault hold the active bank's next
dispatch (log entry 98). -/
def State.imposed (s : State) (cause : BitVec 8) (d0 d1 : BitVec 64) : Trap :=
  ⟨cause, .escalated, 0, s.bank.pc, s.bank.rep, Config.unstated cause 0, d0, d1⟩

/-- PREEMPTION_ESCALATION (R114): a task that has not parked within its pre-emption bound takes 0xB0. -/
def execPreemptionEscalation (s : State) : Out :=
  match s.core.preReq with
  | some t =>
    .next (if s.core.preB != 0 && t + s.core.preB.toNat ≤ s.tick then
        impose (s.imposed 0xB0 (BitVec.ofNat 64 (s.tick - t)) (bit s.bank.inSync ++ (0 : BitVec 63))) s else s)
  | none => .next s

/-- WATCHDOG_EXPIRY (R340): the launch's watchdog, in ticks from the release, raises 0xB1 once; it counts during a freeze (R344). A
task that is parked or saved takes it when it goes on (log entry 125). -/
def execWatchdogExpiry (s : State) : Out :=
  let c := s.core
  if c.wdogB = 0 ∨ c.launch.isNone ∨ c.run = .halted ∨ c.run = .parked ∨ s.tick < c.released + c.wdogB.toNat then .next s
  else
    .next ((impose (s.imposed 0xB1 (Config.unstated 0xB1 1) (Config.unstated 0xB1 2)) s).modCore fun c => { c with wdogB := 0 })

/-! ## Budgets (R345) -/

/-- A period ends for a copy: one that its budget holds has been held for a further period. -/
def Copy.endPeriod (c : Copy) : Copy := { c with held := if c.heldOn.isSome then c.held + 1 else 0 }

/-- A period ends for the current copies of a core. -/
def Core.endPeriod (c : Core) : Core := { c with chans := c.chans.map fun h => { h with cur := h.cur.map Copy.endPeriod } }

/-- BUDGET_PERIOD (R345): a new period begins; the periods in which an operation has been held are counted. -/
def execBudgetPeriod (s : State) : Out :=
  .next { s with moved := [], core := s.core.endPeriod, others := s.others.map fun p => (p.1, p.2.endPeriod) }

/-! ## Frames, Collie watchdogs, claims (R343, R349, R350) -/

/-- The value that FCLK writes for a frame. -/
def fclkValue (n : Nat) (missed : Bool) : BitVec 64 := bit missed ++ (0 : BitVec 31) ++ BitVec.ofNat 32 n

/-- A Collie core's FCLK returns at a frame tick. -/
def Core.frameTick (n : Nat) (c : Core) : Core :=
  let waits := fun (t : Tracked) => match t.kind with | .fclk _ => true | _ => false
  if c.bankA.tracked.any waits then
    { c with
      lastFrame := some n,
      bankA := { c.bankA with tracked := c.bankA.tracked.map fun t =>
        match t.kind with
        | .fclk m => { t with kind := .value ((fclkValue n m).setWidth 512), rem := 1 }
        | _ => t } }
  else c

/-- FRAME_TICK (R349): the next frame begins on every Collie core. -/
def execFrameTick (s : State) : Out :=
  let n := s.frameNo
  .next ((List.range 8).foldl (fun s k => s.modCoreAt (128 + k) (Core.frameTick n)) { s with frameNo := n + 1 })

/-- COLLIE_WATCHDOG_EXPIRY (R350): a Collie core whose watchdog has run out is reset, its queues pass to the next core, and the
event is logged; its memories keep their contents (log entry 10). -/
def execCollieWatchdogExpiry (k : BitVec 3) (s : State) : Out :=
  match (s.coreAt (128 + k.toNat)).wdog with
  | some t =>
    if s.tick < t then .next s
    else
      let s := s.modCoreAt (128 + k.toNat) fun c => { Core.reset true with imem := c.imem, spad := c.spad, spadBad := c.spadBad }
      let (w, s) := s.openValue 64
      .next ({ s with queueOwner := s.queueOwner.map fun o => if o = k then k + 1 else o }.logError 5 7 (k.setWidth 16) w)
  | none => .next s

/-- RCLAIM (R343): an item is claimed from a die's counter. -/
def execRclaim (die : BitVec 2) (s : State) : Out := .next (claim die.toNat s).2

end Sys2Proof.Machine
end

