-- ==== Sys2Proof/Machine/Secure.lean ====
section
/-! DEFINITION. The master semaphore, reset, secure boot, firmware update, attestation, function level reset and thermal events
(spec/24 R347; spec/27 R370 to R377, R381). -/
namespace Sys2Proof.Machine

/-! ## HSEM (R347) -/

/-- A host port holds HSEM. -/
def State.ownsHsem (s : State) (port : BitVec 1) : Bool := s.hsem == port.setWidth 2 + 1

/-- An act of the owner alone: by any other port it is ignored and counted in HSEMX. -/
def State.ownerOnly (s : State) (port : BitVec 1) (f : State → State) : State :=
  if s.ownsHsem port then f s else { s with hsemx := s.hsemx + 1 }

/-- HSEM_ACQUIRE (R347): a write of 1 acquires a free semaphore for the writing port; of both ports' writes in one cycle P0's does. -/
def execHsemAcquire (port : BitVec 1) (s : State) : Out :=
  .next (if s.hsem = 0 then { s with hsem := port.setWidth 2 + 1, hsemAsk := port == 1 }
    else if port = 0 ∧ s.hsemAsk then { s with hsem := 1, hsemAsk := false } else s)

/-- HSEM_RELEASE (R347): a write of 0 by the owner frees it. -/
def execHsemRelease (port : BitVec 1) (s : State) : Out := .next (if s.ownsHsem port then { s with hsem := 0 } else s)

/-! ## The firmware image (R374, Table 27.7) -/

/-- A segment: target, address, length, where its bytes stand in the image. -/
structure Segment where
  tgt : Nat
  addr : Nat
  len : Nat
  at_ : Nat
  deriving DecidableEq, Repr

/-- A segment's target sizes and fields are in range. -/
def Segment.ok (g : Segment) : Bool :=
  g.tgt < 32 && (g.tgt < 16 || g.tgt % 8 == 0) && g.addr % 16 == 0 && g.len % 16 == 0 && 16 ≤ g.len && g.len ≤ 0x40000 &&
    g.addr + g.len ≤ (if g.tgt / 8 % 2 = 1 then 0x40000 else 0x10000)

/-- The segments of a body from `o` to `stop`; none where one breaks R374. -/
def segmentsFrom (m : Memory) (stop : Nat) : Nat → Nat → Option (List Segment)
  | 0, o => if m.all fun p => p.1 < o || stop ≤ p.1 then some [] else none
  | k + 1, o =>
    let g : Segment := ⟨m.num o 4, m.num (o + 4) 4, m.num (o + 8) 4, o + 16⟩
    if !g.ok || m.num (o + 12) 4 != 0 || stop < o + 16 + g.len then none
    else (segmentsFrom m stop k (o + 16 + g.len)).map (g :: ·)

/-- The segments of an image. -/
def imageSegments (m : Memory) : Option (List Segment) := segmentsFrom m (0x100 + m.num 0x10 4) (m.num 0x14 4) 0x100

/-- A SHA-256 digest as a number of 32 little-endian bytes. -/
def digestOf (bytes : List (BitVec 8)) : BitVec 256 := BitVec.ofNat 256 (leNat (sha256 bytes))

/-- What the checks of R374 say of an image, in their order, as STATUS of FWUPD (Table 27.8); 1: accepted. -/
def imageStatus (m : Memory) (f : Firmware) : BitVec 4 :=
  let u := fun o => m.num o 4
  let blen := u 0x10
  if u 0 ≠ 0x4D344657 ∨ u 4 ≠ 1 then 2
  else if u 0x0C ≠ 0 ∨ m.num 0x18 8 ≠ 0 ∨ m.num 0x60 160 ≠ 0 ∨ 64 < u 8 then 2
  else if blen % 64 ≠ 0 ∨ blen < 64 ∨ 0xFE040 < blen ∨ u 0x14 < 1 ∨ 64 < u 0x14 then 2
  else if digestOf (m.bytes 0x40 32) ≠ f.keyDigest then 3
  else if u 8 < f.fusedCount then 4
  else if sha256 (m.bytes 0x100 blen) ≠ m.bytes 0x20 32 then 5
  else if !slhVerify (m.bytes 0x40 32) (m.bytes 0 (0x100 + blen)) (m.bytes (0x100 + blen) 7856) then 6
  else if (imageSegments m).isNone then 7
  else 1

/-- A slot's contents. -/
def Firmware.slot (f : Firmware) (k : Bool) : Memory := if k then f.slot1 else f.slot0

/-- The whole running image. -/
def Firmware.image (f : Firmware) : List (BitVec 8) :=
  let m := f.slot f.runSlot
  m.bytes 0 (0x100 + m.num 0x10 4 + 7856)

/-! ## Boot (R371, R372) -/

/-- The Collie cores that a segment is for. -/
def Segment.cores (g : Segment) : List Nat := if 16 ≤ g.tgt then List.range 8 else [g.tgt % 8]

/-- A segment copied to its targets. -/
def loadSegment (m : Memory) (g : Segment) (s : State) : State :=
  g.cores.foldl (fun s k => s.modCoreAt (128 + k) fun c =>
    if g.tgt / 8 % 2 = 1 then { c with spad := c.spad.store g.addr (m.bytes g.at_ g.len) }
    else { c with imem := c.imem.store g.addr (m.bytes g.at_ g.len) }) s

/-- A Collie core started at IMEM address 0. -/
def Core.start (c : Core) : Core := { c with run := .running, bankA := { c.bankA with ended := false, pc := 0 } }

/-- An HBM channel trained (R371, R397): its taps, and the data lane that its spare lane replaces, are what the hardware gives; a replaced
lane is a repair, which is logged (R380). DESIGN CHOICE: each is open (log entry 147). -/
def trainChannel (s : State) (ch : Nat) : State :=
  let (w, s) := s.openValue 22
  let lane : BitVec 8 := w.extractLsb' 14 8
  let s := if lane = 0xFF then s else s.logError 3 0 (BitVec.ofNat 16 (ch / 32)) (lane.setWidth 64)
  { s with phys := Sparse.put s.phys ch ⟨w.extractLsb' 0 7, w.extractLsb' 7 7, 0, false, lane, 0⟩ }

/-- Every HBM channel trained. -/
def trainChannels (s : State) : State := (List.range 256).foldl trainChannel s

/-- The state with the image of a slot booted: its segments loaded, every Collie core started, RUN and NEXT naming it, the HBM channels
trained, every HBM byte and metadata word zero, and DEVRDY set. -/
def bootSlot (k : Bool) (s : State) : State :=
  let m := s.fw.slot k
  let s := trainChannels s
  let s := ((imageSegments m).getD []).foldl (fun s g => loadSegment m g s) s
  let s := (List.range 8).foldl (fun s i => s.modCoreAt (128 + i) Core.start) s
  { s with
    fw := { s.fw with runSlot := k, nextSlot := k, svn := m.num 8 4, recovery := false },
    hbm := [], metaWords := [], dataBad := [], metaBad := [], devrdy := true }

/-- The boot ROM (R372): the slot of the last successful update is tried, then the other; with neither, recovery. -/
def boot (s : State) : State :=
  let f := s.fw
  if imageStatus (f.slot f.nextSlot) f = 1 then bootSlot f.nextSlot s
  else
    let s := { s with fw := { f with fuse := false } }
    if imageStatus (f.slot (!f.nextSlot)) f = 1 then bootSlot (!f.nextSlot) s
    else { s with fw := { s.fw with recovery := true }, devrdy := false }

/-- Every register at its reset value (R371 step 2). What stands outside the device (what is
still to reach it, host memory, CXL expanders, links of the
host and CXL ports), the fuses and image slots, and the error log stay (log entry 11). -/
def resetRegisters (s : State) : State :=
  { State.reset with
    inputs := s.inputs, agenda := s.agenda, choices := s.choices, hostMem := s.hostMem, tierMem := s.tierMem, tierBad := s.tierBad,
    tierPoison := s.tierPoison, portDown := s.portDown, sent := s.sent, log := s.log, logCnt := s.logCnt,
    fw := { s.fw with staged := [], busy := false, status := 0, askFuse := false } }

/-- SRAM rows with a lasting error are mapped to spare rows at a reset, each repair logged (R380). -/
def mapRows (s : State) : State := (s.lasting.filter fun p => p.unit == 1).foldl (fun s p => s.logError 3 1 p.index p.at_) s

/-- The records that the front end is writing written before the registers they need are reset (R371 step 1). DESIGN CHOICE: one whose
page or line does not come is lost (log entry 11). -/
def settleRings (s : State) : State :=
  (List.range ((s.feWrites.map fun w => 4 * (w.bytes.length / 128 + 4)).sum)).foldl (fun s _ => { s with moved := [] }.pumpRings) s

/-- A device reset: every launch ends with STATUS 3, registers take their reset values, the firmware boots (R371). -/
def resetDevice (s : State) : State :=
  boot (resetRegisters (mapRows (settleRings (s.launches.foldl (fun s l => endLaunch l 3 0 s) s))))

/-- DEVICE_RESET (R371): the holder of HSEM writes 1 to bit 0 of RSTCTL. -/
def execDeviceReset (port : BitVec 1) (s : State) : Out := .next (s.ownerOnly port resetDevice)

/-- POWER_ON_RESET (R371); the error log begins empty. -/
def execPowerOnReset (s : State) : Out := .next (resetDevice { s with log := [], logCnt := 0 })

/-- FUNCTION_LEVEL_RESET (R370): an HSEM that the port owns becomes free, the function's MSI-X table and PRI Stopped state are clear,
requests in flight complete with Unsupported Request; page requests are sent again (log entry 144). -/
def execFunctionLevelReset (port : BitVec 1) (s : State) : Out :=
  let s := if s.ownsHsem port then { s with hsem := 0 } else s
  let s := (s.hostOps.filter fun h => h.dev.isNone && h.port == port).foldl (fun s _ => s.send (.unsupported port))
    { s with hostOps := s.hostOps.filter fun h => h.dev.isSome || h.port != port }
  let p := if port = 1 then Port.p1 else Port.p0
  let mine (r : PageReq) : Bool := s.asidPort r.asid == port
  .next (pumpPages (s.pageWait.length + s.pageReqs.length + 1)
    { s with
      requests := s.requests.map fun r => if r.port = some p then { r with failed := some 0x84 } else r,
      msix := s.msix.filter fun e => e.1 / 512 != port.toNat,
      pageWait := (s.pageReqs.filter mine) ++ s.pageWait, pageReqs := s.pageReqs.filter fun r => !mine r,
      priStopped := s.priStopped &&& ~~~(1#2 <<< port.toNat) })

/-! ## Firmware update (R373, R375) -/

/-- FIRMWARE_UPDATE (R375): GO by the holder of HSEM while BUSY = 0 starts an update of the staged image. -/
def execFirmwareUpdate (port : BitVec 1) (fuse : Bool) (s : State) : Out :=
  .next (s.ownerOnly port fun s =>
    if s.fw.busy then s else { s with fw := { s.fw with busy := true, status := 0, askFuse := fuse, since := s.tick } })

/-- FIRMWARE_UPDATE_DONE (R375): STATUS is set; an accepted image is in the inactive slot, which NEXT names. After a slot write
error the inactive slot holds its old contents or the image. -/
def execFirmwareUpdateDone (writeError : Bool) (s : State) : Out :=
  if !s.fw.busy then .next s
  else
    let f := s.fw
    let st := imageStatus f.staged f
    let into (f : Firmware) : Firmware := if f.runSlot then { f with slot0 := f.staged } else { f with slot1 := f.staged }
    if st ≠ 1 then .next { s with fw := { f with busy := false, status := st, staged := [] } }
    else if writeError then
      let (k, s) := s.choose 2
      .next { s with fw := { (if k = 1 then into f else f) with busy := false, status := 8, staged := [] } }
    else .next { s with fw := { (into f) with busy := false, status := 1, nextSlot := !f.runSlot, fuse := f.askFuse, staged := [] } }

/-- FIRMWARE_UPDATE_FUSE (R373): once an image updated with FUSE has booted, fuses are blown up to its SVN. -/
def execFirmwareUpdateFuse (s : State) : Out :=
  let f := s.fw
  .next (if f.fuse && f.runSlot == f.nextSlot && !f.recovery then
      { s with fw := { f with fuse := false, fusedCount := max f.fusedCount f.svn } } else s)

/-! ## Attestation (R377, Table 27.3) -/

/-- Bytes 0x000 to 0x2FF of a report made now. -/
def reportBytes (s : State) : List (BitVec 8) :=
  let entries := s.attest.digests.flatMap fun d => leBytes 4 d.1.toNat ++ [d.2.1, 0, 0, 0] ++ leBytes 32 d.2.2.toNat
  leBytes 4 1 ++ leBytes 4 s.fw.svn ++ leBytes 16 s.fw.serial.toNat ++ leBytes 32 s.attest.nonce.toNat ++ sha256 s.fw.image ++
    slhPublic (identitySecret s.fw.seed) ++ leBytes 4 s.attest.digests.length ++ leBytes 4 0 ++
    (entries ++ List.replicate (640 - entries.length) 0)

/-- ATTESTATION_REQUEST (R377): GO by a host port while no request runs; the measured state is the state now. -/
def execAttestationRequest (port : BitVec 1) (s : State) : Out :=
  .next (if s.attest.busy then s
    else { s with attest := { s.attest with busy := true, status := 0, port := port, snapshot := reportBytes s, since := s.tick } })

/-- Bytes in the writes of at most 512 bytes that carry them to the host (Table 27.1). -/
def payloads : Nat → Nat → List (BitVec 8) → List (Nat × List (BitVec 8))
  | 0, _, _ => []
  | k + 1, a, l => if l.isEmpty then [] else (a, l.take (512 - a % 512)) :: payloads k (a + (512 - a % 512)) (l.drop (512 - a % 512))

/-- Bytes written in host memory through a host port (R366). -/
def State.writeHost (s : State) (port : BitVec 1) (a : Nat) (l : List (BitVec 8)) : State :=
  (payloads (l.length / 512 + 2) (a % 2 ^ 44) l).foldl (fun s p => s.send (.hostWrite port p.1 p.2))
    { s with hostMem := s.hostMem.store (a % 2 ^ 44) l }

/-- ATTESTATION_REPORT (R377): the report and its signature are written through the requesting port, or the destination failed. -/
def execAttestationReport (destError : Bool) (s : State) : Out :=
  if !s.attest.busy then .next s
  else
    let done (st : BitVec 2) : Attest := { s.attest with busy := false, status := st, snapshot := [] }
    if destError then .next { s with attest := done 2 }
    else
      let (r, s) := s.openValue 128
      let bytes := s.attest.snapshot ++ slhSign (identitySecret s.fw.seed) (leBytes 16 r.toNat) s.attest.snapshot
      .next ({ s with attest := done 1 }.writeHost s.attest.port (s.attest.dest.toNat / 64 * 64) bytes)

/-! ## Thermal events (R381) -/

/-- THERMAL_WARNING (R381): at 98 °C the firmware logs KIND 4. -/
def execThermalWarning (s : State) : Out :=
  let (w, s) := s.openValue 88
  .next (s.logError 4 (w.extractLsb' 64 8) (w.extractLsb' 72 16) (w.setWidth 64))

/-- THERMAL_TRIP (R381): at 110 °C every core freezes, the event is logged, and the device is reset. -/
def execThermalTrip (s : State) : Out :=
  let (w, s) := s.openValue 88
  .next (resetDevice (s.logError 4 (w.extractLsb' 64 8) (w.extractLsb' 72 16) (w.setWidth 64)))

end Sys2Proof.Machine
end

