-- ==== Sys2Proof/Machine/Device.lean ====
section
/-! DEFINITION. Writes of device memory: the control blocks and OPM windows, invalidation, pattern tests and the wire ports'
transmit queues (spec/19 R283, R285; spec/20 R304, R308; spec/24 R337, R344 to R347, R396, R397; spec/25 R351, R362). -/
namespace Sys2Proof.Machine

/-! ## Invalidation (R308) -/

/-- An invalidation begins (XINVC with GO) unless one is in progress; its page is what XINVA names now. -/
def startInvalidation (w : BitVec 64) (s : State) : State :=
  if s.xbusy then s else { s with xbusy := true, xinvc := w, xpage := (s.xinva.extractLsb' 18 36).toNat * 2 ^ 18 }

/-- XINVC of a kind and an ASID. -/
def invalidationWord (kind asid : Nat) : BitVec 64 := BitVec.ofNat 64 (kind * 256 + asid)

/-- INVALIDATE_ALL (R308): kind 0. -/
def execInvalidateAll (s : State) : Out := .next (startInvalidation (invalidationWord 0 0) s)

/-- INVALIDATE_ASID (R308): kind 1. -/
def execInvalidateAsid (asid : BitVec 8) (s : State) : Out := .next (startInvalidation (invalidationWord 1 asid.toNat) s)

/-- INVALIDATE_PAGE (R308): kind 2, the page of XINVA. -/
def execInvalidatePage (asid : BitVec 8) (s : State) : Out := .next (startInvalidation (invalidationWord 2 asid.toNat) s)

/-- INVALIDATE_TENSORS (R308): kind 3. -/
def execInvalidateTensors (asid : BitVec 8) (s : State) : Out := .next (startInvalidation (invalidationWord 3 asid.toNat) s)

/-- The invalidation in progress drops a translation-cache entry. -/
def State.dropsEntry (s : State) (t : TlbEntry) : Bool :=
  let asid : BitVec 8 := s.xinvc.setWidth 8
  match (s.xinvc.extractLsb' 8 2).toNat with
  | 0 => true
  | 1 => t.asid == asid && !t.pte.getLsbD 56
  | 2 => (t.asid == asid || t.pte.getLsbD 56) && t.vpn == s.xpage / 2 ^ levelShift t.level
  | _ => false

/-- An access that is translated and has not performed. -/
def GAccess.translated (a : GAccess) : Bool := match a.phase with | .ready .. => a.kind != .monitor | _ => false

/-- No access of a core is translated and unperformed. -/
def Core.settled (c : Core) : Bool := (c.bankA.accesses ++ c.bankB.accesses).all fun a => !a.translated

/-- A request made for a translated access that has not performed: an uncached read or write, a metadata word, a line to be written whole,
a turn at home. -/
def Request.unperformed (r : Request) : Bool :=
  match r.kind with
  | .readOnce | .writeOnce | .metadata | .full | .home _ => r.open_
  | _ => false

/-- Every access translated so far has performed or waits on a fault (R308). -/
def State.settled (s : State) : Bool :=
  s.core.settled && (s.others.all fun p => p.2.settled) && s.requests.all fun r => !r.unperformed

/-- INVALIDATION_DONE (R308): the named entries are dropped and BUSY returns to 0, once every access translated through them has
performed or waits on a fault; what walks have read of the tables is read again. -/
def execInvalidationDone (s : State) : Out :=
  if !s.xbusy || !s.settled then .next s
  else
    .next { s with
      xbusy := false, tlb := s.tlb.filter fun t => !s.dropsEntry t, requests := s.requests.filter fun r => r.kind != .table,
      tensors := s.tensors.filter fun t =>
        !((s.xinvc.extractLsb' 8 2) == 0 || (s.xinvc.extractLsb' 8 2 == 3 && t.asid == s.xinvc.setWidth 8)) }

/-! ## Pattern tests (R397) -/

/-- The state with a channel's PHY block changed. -/
def State.modPhy (s : State) (ch : Nat) (f : Phy → Phy) : State := { s with phys := Sparse.put s.phys ch (f (s.phy ch)) }

/-- PATTERN_TEST (R397): a write of PTEST starts the test; ignored while one runs. -/
def execPatternTest (ch : BitVec 8) (s : State) : Out :=
  .next (s.modPhy ch.toNat fun p => if p.running then p else { p with running := true, since := s.tick })

/-- PATTERN_TEST_DONE (R397): the test ends with its error count, which saturates. -/
def execPatternTestDone (ch : BitVec 8) (wrong : Nat) (s : State) : Out :=
  .next (if (s.phy ch.toNat).running then
      s.modPhy ch.toNat fun p => { p with running := false, errors := BitVec.ofNat 32 (min wrong 0xFFFFFFFF) } else s)

/-! ## The wire ports' transmit queues (R362) -/

/-- A TXQ write that the port accepts: a free entry, LEN 60 to 9,212, no bit outside Table 25.6. -/
def txqAccepts (p : WirePort) (w : BitVec 64) : Bool :=
  let len := (w.extractLsb' 22 14).toNat
  p.txq.length < 64 && 60 ≤ len && len ≤ 9212 && w.extractLsb' 43 21 == 0

/-- A wire port at reset. -/
def WirePort.reset : WirePort := ⟨[], 0, 0, 0, 0, 0, 0, 0, 0, []⟩

/-- The state with a wire port changed. -/
def State.modWire (s : State) (port : BitVec 1) (f : WirePort → WirePort) : State :=
  { s with wires := vset s.wires port.toNat (f (vget s.wires port.toNat WirePort.reset)) }

/-- TXQ (R362): the frame is queued, or the write ignored and counted in REJ. -/
def execTxq (port : BitVec 1) (w : BitVec 64) (s : State) : Out :=
  .next (s.modWire port fun p => if txqAccepts p w then { p with txq := p.txq ++ [w], got := p.got ++ [[]] } else { p with rej := p.rej + 1 })

/-! ## Register writes -/

/-- A word with the half or the whole that a write covers replaced. -/
def mergeWrite (cur : BitVec 64) (o size : Nat) (v : BitVec 64) : BitVec 64 :=
  if size = 8 then v
  else if o % 8 = 4 then v.setWidth 32 ++ (cur.setWidth 32 : BitVec 32) else cur.extractLsb' 32 32 ++ (v.setWidth 32 : BitVec 32)

/-- The bits of a word that a mask names taken from `v`, the others kept. -/
def maskWrite (mask cur v : BitVec 64) : BitVec 64 := (v &&& mask) ||| (cur &&& ~~~mask)

/-- A write of a register that only the holder of HSEM writes; from any other host port it is counted. -/
def State.gated (s : State) (who : Writer) (f : State → State) : State :=
  match who with
  | .host port => s.ownerOnly port f
  | _ => s

/-- The bits of word `k` of a queue descriptor that the holder of HSEM alone writes, and those that anyone writes. -/
def queueMasks (k : Nat) : BitVec 64 × BitVec 64 :=
  match k with
  | 0 => (0xE0FF000000000000, 0x1F00FFFFFFFFFFFF)
  | 1 | 4 | 6 => (BitVec.allOnes 64, 0)
  | 2 => (0, 0xFFFFFFFF)
  | 5 => (0, 0x000FFF1F00000000)
  | 7 => (0, 0x0000001F00000000)
  | _ => (0, 0)

/-- A write of `size` bytes at an offset in word `k` of a queue's descriptor, which makes the word `v` (R337, R347): the fields that the
holder of HSEM alone writes are written, or counted, only where the write covers one. -/
def queueWrite (who : Writer) (q k o size : Nat) (v : BitVec 64) (s : State) : State :=
  let (own, free) := queueMasks k
  let s := s.modQueue q fun d => d.setWord k (maskWrite free (d.word k) v)
  if own &&& mergeWrite 0 o size (BitVec.allOnes 64) = 0 then s else s.gated who fun s => s.modQueue q fun d => d.setWord k (maskWrite own (d.word k) v)

/-- A write of the bytes of a policy word that it covers: bits [1:0] of each (R344). -/
def policyWrite (o size : Nat) (v : BitVec 64) (s : State) : State :=
  (List.range size).foldl (fun s i =>
    { s with policy := Sparse.put s.policy (o - 0x620000 + i) ((v.extractLsb' (8 * i) 2).setWidth 8) }) s

/-- The register blocks whose words stay as written: control words of software, by offset. -/
def plainWrite (who : Writer) (o : Nat) (f : BitVec 64 → BitVec 64) (s : State) : State :=
  if o = 0x18 then (match who with | .collie _ => { s with devrdy := (f 0).getLsbD 0 } | _ => s)
  else if o = 0x20 then
    let v : BitVec 3 := (f (s.ptpSrc.setWidth 64)).setWidth 3
    s.setPtpSrc (if v ≤ 4 then v else 0)
  else if o = 0x10000 ∨ o = 0x10008 then
    s.gated who fun s => { s with hap := vset s.hap (o % 16 / 8) (f (vget s.hap (o % 16 / 8) 0)) }
  else if 0x10200 ≤ o ∧ o < 0x10220 then
    let k := (o - 0x10200) / 8
    s.gated who fun s => { s with hwport := putWord s.hwport k (f (s.hwport.extractLsb' (64 * k) 64)) }
  else if 0x200000 ≤ o ∧ o < 0x201000 then
    let a := (o - 0x200000) / 16
    s.gated who fun s =>
      let e := Sparse.at (0, 0) s.asids a
      { s with asids := Sparse.put s.asids a (if o % 16 = 0 then (f e.1, e.2) else (e.1, f e.2)) }
  else if o = 0x210000 then { s with xinva := f s.xinva }
  else if 0x600000 ≤ o ∧ o < 0x600100 then
    let k := (o - 0x600000) / 0x40
    { s with budgets := Sparse.put s.budgets (8 * k + o / 8 % 8) (f (s.budget k (o / 8 % 8))) }
  else if o = 0x610000 then { s with ecls := f s.ecls }
  else if o = 0x630000 then { s with frame := (f (s.frame.setWidth 64)).setWidth 16 }
  else if 0x6C0000 ≤ o ∧ o < 0x6C0020 then
    let k := (o - 0x6C0000) / 8
    { s with attest := { s.attest with nonce := putWord s.attest.nonce k (f (s.attest.nonce.extractLsb' (64 * k) 64)) } }
  else if o = 0x6C0020 then { s with attest := { s.attest with dest := (f (s.attest.dest.setWidth 64)).setWidth 44 } }
  else if 0x700000 ≤ o ∧ o < 0x700028 then
    let k := (o - 0x700000) / 8
    s.gated who fun s => { s with fab := vset s.fab k (f (vget s.fab k 0)) }
  else s

/-- A write of a channel's PHY block (Table 24.8); a lane replaced by the spare lane is logged (R380). -/
def phyWrite (o : Nat) (v : BitVec 64) (s : State) : State :=
  let ch := (o - 0x10000000) / 0x1000
  match o % 0x1000 with
  | 0x00 => s.modPhy ch fun p => { p with rdly := v.setWidth 7 }
  | 0x08 => s.modPhy ch fun p => { p with wdly := v.setWidth 7 }
  | 0x10 | 0x14 => (execPatternTest (BitVec.ofNat 8 ch) s).stateD s
  | 0x18 =>
    let lane : BitVec 8 := v.setWidth 8
    let s := if lane ≠ 0xFF ∧ lane ≠ (s.phy ch).lrep then s.logError 3 0 (BitVec.ofNat 16 (ch / 32)) (lane.setWidth 64) else s
    s.modPhy ch fun p => { p with lrep := lane }
  | _ => s

/-- A write of 4 or 8 bytes at an offset of the control blocks. Registers that read only, offsets that no rule names, and in
recovery all but HSEM, RSTCTL and the update registers, ignore it. -/
def regWrite (who : Writer) (o size : Nat) (v : BitVec 64) (s : State) : State :=
  let a := o / 8 * 8
  let only := mergeWrite 0 o size v
  if s.fw.recovery ∧ a ≠ 0 ∧ a ≠ 0x10 ∧ a ≠ 0xDF0000 ∧ ¬ (0xE00000 ≤ a ∧ a < 0xF00000) then s
  else if o = 0 then
    match who with
    | .host port =>
      if only = 1 then (execHsemAcquire port s).stateD s else if only = 0 then (execHsemRelease port s).stateD s else s
    | _ => s
  else if a = 0x10 then
    match who with
    | .host port => if only.getLsbD 0 then (execDeviceReset port s).stateD s else s
    | _ => s
  else if a = 0x210008 then
    if s.xbusy then s
    else
      let w := mergeWrite s.xinvc o size v
      if w.getLsbD 63 then startInvalidation (w &&& 0x3FFFFFFFFFFFFFFF) s else { s with xinvc := w &&& 0x3FFFFFFFFFFFFFFF }
  else if 0x400000 ≤ a ∧ a < 0x404000 then
    let q := (a - 0x400000) / 64
    queueWrite who q (a / 8 % 8) o size (mergeWrite ((s.queueAt q).word (a / 8 % 8)) o size v) s
  else if 0x500000 ≤ a ∧ a < 0x500400 then
    let q := 256 + (a - 0x500000) / 64
    queueWrite who q (a / 8 % 8) o size (mergeWrite ((s.queueAt q).word (a / 8 % 8)) o size v) s
  else if 0x620000 ≤ a ∧ a < 0x620100 then policyWrite o size v s
  else if 0x640000 ≤ a ∧ a < 0x640400 then
    if only.getLsbD 63 then (execCctlResume ((a - 0x640000) / 8) s).stateD s else s
  else if a = 0x650000 then
    if only.extractLsb' 41 23 = 0 then (execLaunchEnd (only.extractLsb' 32 9).toNat (only.setWidth 32) s).stateD s else s
  else if a = 0x6C0028 then
    match who with
    | .host port => if only.getLsbD 63 then (execAttestationRequest port s).stateD s else s
    | _ => s
  else if a = 0x800000 ∨ a = 0x801000 then (execTxq (if a = 0x801000 then 1 else 0) only s).stateD s
  else if a = 0xDF0000 then
    match who with
    | .host port => if only.getLsbD 0 then (execFirmwareUpdate port (only.getLsbD 1) s).stateD s else s
    | _ => s
  else if 0xE00000 ≤ a ∧ a < 0xF00000 then
    s.gated who fun s =>
      if s.fw.busy then s
      else { s with fw := { s.fw with staged := s.fw.staged.put (o - 0xE00000) size (v.toNat % 2 ^ (8 * size)) } }
  else if 0x10000000 ≤ a ∧ a < 0x10100000 then phyWrite o v s
  else plainWrite who a (fun cur => mergeWrite cur o size v) s

/-- Device memory of this device written at a local address (R283, R285). -/
def devWrite (who : Writer) (la : Nat) (bytes : List (BitVec 8)) (s : State) : State :=
  if rangeOf la = .opm then s.opmWrite (opmTarget la).1 (opmTarget la).2 bytes
  else regWrite who (la - 0x3E0000000000) bytes.length (BitVec.ofNat 64 (leNat bytes)) s

/-- OPM_WRITE (R285): bytes land in a core's OPM window. -/
def execOpmWrite (core : BitVec 7) (off : BitVec 26) (bytes : List (BitVec 8)) (s : State) : Out :=
  .next (s.opmWrite core.toNat off.toNat bytes)

end Sys2Proof.Machine
end

