-- ==== Sys2Proof/Machine/Global.lean ====
section
/-! DEFINITION. The global memory instructions of the S slot: loads, stores, atomics, fences, the monitor, LNCH; how their accesses
are translated, performed and landed (spec/22 R325 to R334; spec/06 R94; spec/20 R303, R306 to R311; spec/19 R282, R283). -/
namespace Sys2Proof.Machine

/-! ## Accesses of a bank -/

/-- A tracked operation is the access of a number. -/
def Tracked.isAccess (id : Nat) (t : Tracked) : Bool := match t.kind with | .access a => a.id == id | _ => false

/-- The state with an access of a bank replaced by one of the same number. -/
def State.setAccess (s : State) (isB : Bool) (a : GAccess) : State :=
  s.modBankOf isB fun b =>
    { b with
      tracked := b.tracked.map fun t => if t.isAccess a.id then { t with kind := .access a } else t,
      posted := b.posted.map fun p => if p.id = a.id then a else p }

/-- The state without an access of a bank; its registers keep their values. -/
def State.dropAccess (s : State) (isB : Bool) (id : Nat) : State :=
  s.modBankOf isB fun b =>
    { b with tracked := b.tracked.filter fun t => !t.isAccess id, posted := b.posted.filter fun p => p.id != id }

/-- A tracked access lands its value (R34). -/
def State.landAccess (s : State) (isB : Bool) (id : Nat) (v : BitVec 128) : State :=
  s.modBankOf isB fun b =>
    match b.tracked.find? (Tracked.isAccess id) with
    | some t =>
      landTracked { b with tracked := b.tracked.filter fun t => !t.isAccess id } { t with kind := .value (v.setWidth 512) }
    | none => b

/-- The access of a bank at an index: its tracked operations, then its posted ones. -/
def Bank.accessAt (b : Bank) (i : Nat) : Option GAccess :=
  match b.tracked[i]? with
  | some t => (match t.kind with | .access a => some a | _ => none)
  | none => b.posted[i - b.tracked.length]?

/-- TRIG of a bank's monitor set. -/
def State.trigger (s : State) (isB : Bool) : State := s.modBankOf isB fun b => { b with monaddr := b.monaddr ||| 2 }

/-- The opcode of an access. -/
def GAccess.op (a : GAccess) : Nat := (a.word.extractLsb' 25 7).toNat

/-- The permissions an access needs (R303): reading, writing. -/
def GAccess.needs (a : GAccess) : Bool × Bool :=
  match a.kind with
  | .load | .monitor => (true, false)
  | .store => (false, true)
  | .atomic _ => (true, true)

/-- An access ends with a cause (KIND 1): nothing performs, a destination keeps its old value (R327, Table 22.7). 0x65 of a monitor
clears ARMED (R332); DESIGN CHOICE: so does every other cause of one, whose watch cannot start (log entry 126). -/
def State.failAccess (s : State) (isB : Bool) (a : GAccess) (cause : BitVec 8) (d : BitVec 64 × BitVec 64) : State :=
  let s := if a.kind == .monitor then s.modBankOf isB fun b => { b with monaddr := b.monaddr &&& ~~~1 } else s
  (s.dropAccess isB a.id).trapIn isB cause .s a.pc a.rep a.va d.1 d.2

/-! ## Translation (R327 steps 2 and 3) -/

/-- The cause that a translated access meets against its PTE and the range of Table 19.1. -/
def rangeCause (a : GAccess) (pa : Nat) (ca : BitVec 2) (s : State) : Option (BitVec 8) :=
  let la := localOf pa
  let refused := ca != 0 || deviceAddr pa || (devOf pa != s.devId && rangeOf la != .hbm)
  if securityBlock la then some 0xB4
  else
    match a.kind with
    | .monitor => if refused then some 0x65 else none
    | k =>
      let atomic : Bool := match k with | .atomic _ => true | _ => false
      if deviceAddr pa && !devSizeOk la a.n then some 0x61
      else if atomic && refused then some 0x62
      else none

/-- A translated access: refused, landed from a discarded page, or ready to perform. -/
def placeAccess (isB : Bool) (a : GAccess) (pa : Nat) (ca : BitVec 2) (discarded : Bool) (s : State) : State :=
  if discarded then
    match a.kind with
    | .monitor => (s.dropAccess isB a.id).trigger isB
    | _ => s.landAccess isB a.id 0
  else
    match rangeCause a pa ca s with
    | some c => s.failAccess isB a c (accessDetail c a.op pa)
    | none => s.setAccess isB { a with phase := .ready pa ca }

/-- A tick in which an access waits on translation is counted. -/
def GAccess.count (a : GAccess) (tick : Nat) : GAccess :=
  { a with waited := (countTick tick (a.waited, a.counted)).1, counted := (countTick tick (a.waited, a.counted)).2 }

/-- On whose behalf the lines of an access are asked for. -/
def State.askerOf (s : State) (isB : Bool) (a : GAccess) : Asker := .access s.coreNo isB a.id

/-- An access of a bank of the core in focus is translated; a fault makes it wait and may switch banks (R107, R309). -/
def walkAccess (isB : Bool) (a : GAccess) (s : State) : State :=
  let (rd, wr) := a.needs
  let asid := (s.bankOf isB).asid
  match translate (s.askerOf isB a) asid a.va.toNat rd wr s with
  | (.leaf pa ca disc, s) => placeAccess isB a pa ca disc s
  | (.fault, s) =>
    match a.kind with
    | .monitor => (s.dropAccess isB a.id).trigger isB
    | _ =>
      ((s.setAccess isB { (a.count s.tick) with phase := .fault }).pageFault (.access s.coreNo isB a.id) asid a.va.toNat rd
        wr).bankWaits isB
  | (.migrating, s) => s.setAccess isB { a with phase := .migrating s.tick }
  | (.wait, s) => s
  | (.cause c d0 d1, s) =>
    match a.kind with
    | .monitor => s.failAccess isB a c (d0, d1)
    | _ => (s.setAccess isB { a with phase := .fault }).trapIn isB c .s a.pc a.rep a.va d0 d1

/-! ## Performing (R327 step 4, R328 to R332) -/

/-- Who makes a core's writes of device memory. -/
def State.writer (s : State) : Writer := if s.core.collie then .collie (BitVec.ofNat 3 (s.coreNo - 128)) else .task

/-- An attempt's answer taken by an access: what `done` does with the line's data, a trap, or a further attempt later. -/
def takeReply (isB : Bool) (a : GAccess) (pa : Nat) (r : Reply × State) (done : BitVec 1024 → Bool → State → State) : State :=
  match r with
  | (.ready d p, s) => done d p s
  | (.wait, s) => s
  | (.fail c (some d), s) => s.failAccess isB a c d
  | (.fail c none, s) => s.failAccess isB a c (accessDetail c a.op pa)

/-- The bytes of a line that an access reads, as its value. -/
def readBytes (d : BitVec 1024) (pa n : Nat) : BitVec 128 := BitVec.ofNat 128 (leNat (peekLine d (pa % 128) n))

/-- The line was poisoned: a load or an atomic traps (R320). -/
def poisonFail (isB : Bool) (a : GAccess) (pa : Nat) (s : State) : State :=
  let c := poisonCause pa
  s.failAccess isB a c (accessDetail c a.op pa)

/-- A load performs and lands. -/
def performLoad (isB : Bool) (a : GAccess) (pa : Nat) (ca : BitVec 2) (s : State) : State :=
  let land (d : BitVec 1024) (p : Bool) (s : State) : State :=
    if p then poisonFail isB a pa s else s.landAccess isB a.id (readBytes d pa a.n)
  if deviceAddr pa then
    if devOf pa = s.devId then
      match devRead (localOf pa) a.n s with
      | (some bytes, s) => s.landAccess isB a.id (BitVec.ofNat 128 (leNat bytes))
      | (none, s) => s
    else takeReply isB a pa (ask .readOnce (s.askerOf isB a) (lineOf pa) (devOf pa) (.uncached (devOf pa) pa none a.n false) s) land
  else takeReply isB a pa (lineRead (s.askerOf isB a) pa ca (s.bankOf isB).asid s) land

/-- A store performs. -/
def performStore (isB : Bool) (a : GAccess) (pa : Nat) (ca : BitVec 2) (s : State) : State :=
  let bytes := leBytes a.n a.data.toNat
  if deviceAddr pa then
    if devOf pa = s.devId then devWrite s.writer (localOf pa) bytes (s.dropAccess isB a.id)
    else
      takeReply isB a pa (ask .writeOnce (s.askerOf isB a) pa (devOf pa) (.uncached (devOf pa) pa (some bytes) a.n false) s)
        fun _ _ s => s.dropAccess isB a.id
  else takeReply isB a pa (lineWrite (s.askerOf isB a) pa ca (s.bankOf isB).asid bytes s) fun _ _ s => s.dropAccess isB a.id

/-- An atomic performs as one read and one write, and lands the old value. A metadata error refuses its write or its read: which
is open (R321). -/
def performAtomic (isB : Bool) (a : GAccess) (op pa : Nat) (s : State) : State :=
  match lineModify (s.askerOf isB a) pa (s.bankOf isB).asid op a.n a.data.toNat a.cmp.toNat s with
  | (.fail 0x80 (some d), s) =>
    let (k, s) := s.choose 2
    s.failAccess isB a (if k = 1 then 0x81 else 0x80) d
  | r => takeReply isB a pa r fun d p s =>
    if p then poisonFail isB a pa s else s.landAccess isB a.id (readBytes d pa a.n)

/-- The watch of a monitor starts: the slice holds the line; an event since the issue, or poison, has set TRIG (R332). -/
def performMonitor (isB : Bool) (a : GAccess) (pa : Nat) (s : State) : State :=
  takeReply isB a pa (lineRead (s.askerOf isB a) pa 0 (s.bankOf isB).asid s) fun _ p s =>
    let line := lineOf pa
    let hit := p || (s.bankOf isB).monSeen.contains line
    let s := (s.dropAccess isB a.id).modBankOf isB fun b => { b with monLine := some line, monSeen := [] }
    if hit then s.trigger isB else s

/-- A translated access of a bank performs, unless an earlier access of the bank stands before it (R52, R283). -/
def performAccess (isB : Bool) (a : GAccess) (s : State) : State :=
  match a.phase with
  | .ready pa ca =>
    if (s.bankOf isB).blocked a then s
    else
      match a.kind with
      | .load => performLoad isB a pa ca s
      | .store => performStore isB a pa ca s
      | .atomic op => performAtomic isB a op pa s
      | .monitor => performMonitor isB a pa s
  | _ => s

/-! ## Events -/

/-- TRACKED_RESULT_LAND (R34): the tracked operation of the active bank at an index lands: an access performs, a record is
written, a known value reaches its registers. -/
def execTrackedResultLand (i : Nat) (s : State) : Out :=
  match s.bank.tracked[i]? with
  | none => .next s
  | some t =>
    match t.kind with
    | .access a => .next (performAccess s.core.cur a s)
    | .value _ | .zstep _ => .next (s.modBank fun b => landTracked { b with tracked := b.tracked.eraseIdx i } t)
    | .qpost asid va j =>
      if s.feWrites.any fun w => w.asid == asid && w.va == va then .next s
      else .next (s.modBank fun b =>
        landTracked { b with tracked := b.tracked.eraseIdx i } { t with kind := .value (BitVec.ofNat 512 j) })
    | _ => .next s

/-- POSTED_STORE_PERFORM (R328): the posted access of the active bank at an index performs. -/
def execPostedStorePerform (i : Nat) (s : State) : Out :=
  match s.bank.posted[i]? with
  | some a => .next (performAccess s.core.cur a s)
  | none => .next s

/-- TRANSLATION_WALK (R306): the access of the active bank at an index is translated. -/
def execTranslationWalk (i : Nat) (s : State) : Out :=
  match s.bank.accessAt i with
  | some a => .next (if a.phase = .walk ∨ a.phase = .replay then walkAccess s.core.cur a s else s)
  | none => .next s

/-- MIGRATION_REWALK (R306): an access that met a migration mark is translated again. -/
def execMigrationRewalk (i : Nat) (s : State) : Out :=
  match s.bank.accessAt i with
  | some a => .next (match a.phase with | .migrating _ => walkAccess s.core.cur a s | _ => s)
  | none => .next s

/-- A translated load reads PTEST of a channel of device `dev`. -/
def GAccess.readsPtest (a : GAccess) (dev : BitVec 6) (ch : BitVec 8) : Bool :=
  match a.phase with
  | .ready pa _ => a.kind == .load && devOf pa == dev && localOf pa == 0x3E0010000010 + 0x1000 * ch.toNat
  | _ => false

/-- PTEST_READ (R397): a read of a channel's PTEST that waits returns once no test runs. -/
def execPtestRead (ch : BitVec 8) (s : State) : Out :=
  match s.bank.accesses.find? fun a => a.readsPtest s.devId ch with
  | some a => .next (performAccess s.core.cur a s)
  | none => .next s

/-! ## Loads, stores and atomics -/

/-- An access of an address: checks at issue (R327 step 1), then the access under way. -/
def State.issueAccess (s : State) (op : Nat) (b : SBody) (va : BitVec 64) (n : Nat) (xs : List (BitVec 64)) (d : BitVec 6) :
    State :=
  if va.extractLsb' 54 10 ≠ 0 then s.trapAtIssue 0x63 va (BitVec.ofNat 64 op) 0
  else if va.toNat % n ≠ 0 then s.trapAtIssue 0x60 va (BitVec.ofNat 64 op) 0
  else
    let e := s.ctx.entry
    s.startAccess s.core.cur (makeAccess op b ((View.s op b).encode.setWidth 32) xs
      (pairOf (physReg e.rotb d) (physReg e.rotb (d + 1))) e.pc e.rep e.seq)

/-- LDG and STG of an opcode (R328). -/
def gmOp (op : Nat) (f : FmtGM) (s : State) : Out :=
  guarded f.g s fun s =>
    s.issueAccess op (.gm f) (gmAddr op f.off (s.readX f.a)) (gmSize op) [s.readX f.a, s.readX f.d, s.readX (f.d + 1)] f.d

/-- An atomic of an opcode (R330). -/
def gaOp (op : Nat) (f : FmtGA) (s : State) : Out :=
  guarded f.g s fun s =>
    s.issueAccess op (.ga f) (s.readX f.a) (if f.sz then 8 else 4) [s.readX f.a, s.readX f.b, s.readX f.d] f.d

/-- LDG.B (R328). -/
def execLdgB (f : FmtGM) (s : State) : Out := gmOp 0x3A f s
/-- LDG.H (R328). -/
def execLdgH (f : FmtGM) (s : State) : Out := gmOp 0x3B f s
/-- LDG.W (R328). -/
def execLdgW (f : FmtGM) (s : State) : Out := gmOp 0x3C f s
/-- LDG.D (R328). -/
def execLdgD (f : FmtGM) (s : State) : Out := gmOp 0x3D f s
/-- LDG.Q (R328). -/
def execLdgQ (f : FmtGM) (s : State) : Out := gmOp 0x3E f s
/-- STG.B (R328). -/
def execStgB (f : FmtGM) (s : State) : Out := gmOp 0x3F f s
/-- STG.H (R328). -/
def execStgH (f : FmtGM) (s : State) : Out := gmOp 0x40 f s
/-- STG.W (R328). -/
def execStgW (f : FmtGM) (s : State) : Out := gmOp 0x41 f s
/-- STG.D (R328). -/
def execStgD (f : FmtGM) (s : State) : Out := gmOp 0x42 f s
/-- STG.Q (R328). -/
def execStgQ (f : FmtGM) (s : State) : Out := gmOp 0x43 f s
/-- AADD (R330). -/
def execAadd (f : FmtGA) (s : State) : Out := gaOp 0x44 f s
/-- AAND (R330). -/
def execAand (f : FmtGA) (s : State) : Out := gaOp 0x45 f s
/-- AOR (R330). -/
def execAor (f : FmtGA) (s : State) : Out := gaOp 0x46 f s
/-- AXOR (R330). -/
def execAxor (f : FmtGA) (s : State) : Out := gaOp 0x47 f s
/-- AMINS (R330). -/
def execAmins (f : FmtGA) (s : State) : Out := gaOp 0x48 f s
/-- AMAXS (R330). -/
def execAmaxs (f : FmtGA) (s : State) : Out := gaOp 0x49 f s
/-- AXCH (R330). -/
def execAxch (f : FmtGA) (s : State) : Out := gaOp 0x4A f s
/-- ACAS (R330). -/
def execAcas (f : FmtGA) (s : State) : Out := gaOp 0x4B f s

/-! ## Fences (R331) -/

/-- The scope is the host (R331, Table 4.2). -/
def hostScope (scope : BitVec 4) : Bool := scope == 8

/-- REL (R49, R331): the S queue waits for the reads and writes before it. -/
def execRel (f : FmtGF) (s : State) : Out :=
  guarded f.g s fun s => s.modBank fun b => { b with fenceR := true, fenceW := true, fenceHost := hostScope f.scope }

/-- ACQ (R49, R331): the S queue waits for the reads before it. -/
def execAcq (f : FmtGF) (s : State) : Out := guarded f.g s fun s => s.modBank fun b => { b with fenceR := true }

/-- DRN (R49, R331): the S queue waits for the reads and writes before it, WAITV words and atomics among them. -/
def execDrn (f : FmtGF) (s : State) : Out :=
  guarded f.g s fun s => s.modBank fun b => { b with fenceR := true, fenceW := true, fenceHost := hostScope f.scope }

/-- The fences of a bank whose waits have ended are done. -/
def Bank.settleFences (b : Bank) : Bank :=
  { b with
    fenceR := b.fenceR && b.tracked.any Tracked.isGlobal, fenceW := b.fenceW && !b.storesDone }

/-- The fences of a bank whose waits have ended are done; one whose scope holds the host ends with every write through the host
window sent. -/
def State.settleFences (s : State) (isB : Bool) : State :=
  let s := s.modBankOf isB Bank.settleFences
  let b := s.bankOf isB
  if b.fenceHost && !b.fenceR && !b.fenceW then (flushHost s).modBankOf isB fun b => { b with fenceHost := false } else s

/-! ## The monitor (R332) -/

/-- MON (R68, R332): MONADDR is written, and the watch starts in the slice. A second MON replaces the first. -/
def execMon (f : FmtGM) (s : State) : Out :=
  guarded f.g s fun s =>
    let va := gmAddr 0x51 f.off (s.readX f.a)
    if va.extractLsb' 54 10 ≠ 0 then s.trapAtIssue 0x63 va 0x51 0
    else if va.toNat % 128 ≠ 0 then s.trapAtIssue 0x60 va 0x51 0
    else
      let s := s.modBank fun b =>
        { b with
          monaddr := va ||| 1, monLine := none, monSeen := [],
          posted := b.posted.filter fun a => a.kind != .monitor }
      s.issueAccess 0x51 (.gm f) va 128 [s.readX f.a] 0

/-- A watch that has not started, as a MONADDR written by SETS or a restored context leaves it, starts for the armed line. -/
def State.watch (s : State) (isB : Bool) : State :=
  let b := s.bankOf isB
  if !b.monaddr.getLsbD 0 || b.monLine.isSome || b.monaddr.getLsbD 1 || b.posted.any fun a => a.kind == .monitor then s
  else
    let va := b.monaddr.extractLsb' 7 47
    s.startAccess isB (makeAccess 0x51 (.gm ⟨⟨0, false⟩, 0, 0, 0⟩) ((View.s 0x51 (.gm ⟨⟨0, false⟩, 0, 0, 0⟩)).encode.setWidth 32)
      [va.setWidth 64 <<< 7] 0 b.pc 0 b.seqNext)

/-! ## LNCH (R94, R341) -/

/-- A device queue's answer to a post: bit 62 not configured, bit 63 full, else the record's sequence number. -/
def postLaunch (q : Nat) (va : BitVec 64) (asid : BitVec 8) (s : State) : BitVec 64 × State :=
  let d := s.queueAt q
  if !s.served q then (1#64 <<< 62, s)
  else if 2 ^ d.log2 ≤ (d.tail - d.head).toNat then (1#64 <<< 63, s)
  else
    let s := s.modQueue q fun d =>
      { (d.setWord 2 ((d.word 2).extractLsb' 32 32 ++ (d.tail + 1))) with seq := d.seq + 1 }
    ((d.seq + 1).setWidth 64, { s with devPosts := s.devPosts ++ [Taking.mk q (d.seq + 1) va.toNat asid false] })

/-- The sequence number that an LNCH posted, noted for the record of single-step (R74, Table 7.3). -/
def State.noteLaunch (s : State) (seq : BitVec 32) : State :=
  s.modBank fun b => { b with stepIds := (b.stepIds.extractLsb' 96 32 ++ seq ++ b.stepIds.setWidth 64) ||| (1#128 <<< 98) }

/-- LNCH (R94): posts the record at x[a] to device queue k; tracked, lands within 64 cycles. -/
def execLnch (f : FmtK) (s : State) : Out :=
  guarded f.g s fun s =>
    let va := s.readX f.a
    if va.toNat % 128 ≠ 0 then s.trapPlain 0x18
    else
      let (v, s) := postLaunch (256 + f.k.toNat) va s.bank.asid s
      let s := if v.getLsbD 62 || v.getLsbD 63 then s else s.noteLaunch (v.setWidth 32)
      s.track [s.xRef f.d] (v.setWidth 512) 64

end Sys2Proof.Machine
end

