-- ==== Sys2Proof/Machine/Copy.lean ====
section
/-! DEFINITION. The C-slot instructions: what each checks when it issues, and the copy that enters its channel (spec/16 R233, R244 to
R246; spec/17 R251 to R278; spec/20 R305). -/
namespace Sys2Proof.Machine

/-! ## Checks at issue (R253) -/

/-- What ends the issue of a C operation before its effect: it issues again later; a trap; an uncorrectable byte of a block, or a
byte that a frozen copy holds. -/
inductive Stop where
  | wait
  | trap (cause : BitVec 8) (addr d0 d1 : BitVec 64)
  | bad (a : Nat)
  | frozen (a n : Nat)
  deriving DecidableEq, Repr

/-- A check at issue. -/
abbrev Chk (α : Type) := ExceptT Stop (StateM State) α

/-- A cause at issue with DETAIL0 the opcode (Table 17.1). -/
def refuse {α : Type} (op : Nat) (cause : BitVec 8) (addr d1 : Nat) : Chk α :=
  throw (.trap cause (BitVec.ofNat 64 addr) (BitVec.ofNat 64 op) (BitVec.ofNat 64 d1))

/-- A cause unless a condition holds. -/
def require (ok : Bool) (op : Nat) (cause : BitVec 8) (addr d1 : Nat) : Chk Unit :=
  if ok then pure () else refuse op cause addr d1

/-- An x register as a number. -/
def xVal (r : BitVec 6) : Chk Nat := do return ((← get).readX r).toNat

/-- Bytes of the own scratchpad read at issue, as a number (R251). -/
def spadBlock (op a n : Nat) : Chk Nat := do
  let s ← get
  require (a + n ≤ s.core.spadSize) op 0x30 (max a s.core.spadSize) 0
  let bytes := (List.range n).map (a + ·)
  match s.core.frozenAccess [bytes] with
  | some (b, w) => throw (.frozen b w)
  | none =>
    match bytes.find? s.core.spadBad.contains with
    | some b => throw (.bad b)
    | none => return s.core.spad.num a n

/-- Bits of a number. -/
def bitsOf (v lo n : Nat) : Nat := v / 2 ^ lo % 2 ^ n

/-- The copy block at x[XB] (R255, Table 17.3). -/
def copyBlock (op tid : Nat) (xb : BitVec 6) : Chk Nat := do
  let a ← xVal xb
  require (a % 64 == 0) op 0x51 tid 7
  let b ← spadBlock op a 64
  require (bitsOf b (8 * 0x30 + 54) 10 == 0 && bitsOf b (8 * 0x30 + 22) 10 == 0 && bitsOf b (8 * 0x38 + 22) 10 == 0) op 0x51 tid 7
  return b

/-- The descriptor of a tensor of the task, read from the tensor table or as the layout unit kept it (R305; log entry 25 for a
table that cannot be read); an operation that issues takes what `askSlot` has kept. -/
def readDesc (op tid : Nat) : Chk TDesc := do
  let s ← get
  let asid := s.bank.asid
  let kept := s.tensors.find? fun t => t.asid == asid && t.id == tid
  let (k, s) := if kept.isSome && s.core.seen.isNone then s.choose 2 else (if kept.isSome then 0 else 1, s)
  set s
  match kept, k with
  | some t, 0 => return t.desc
  | _, _ =>
    let pa := s.ttab asid + 128 * tid
    if (rangeOf (localOf pa)).isDevice || rangeOf (localOf pa) == .unassigned then refuse op 0x51 tid 7
    else
      let (r, s) := lineRead (.front (513 + s.coreNo)) pa 1 asid s
      match r with
      | .ready d false =>
        set { s with tensors := ⟨asid, tid, d⟩ :: s.tensors.filter fun t => !(t.asid == asid && t.id == tid) }
        return d
      | .wait => set s; throw .wait
      | _ => set s; refuse op 0x51 tid 7

/-- A descriptor that passes its checks. -/
def goodDesc (op tid : Nat) : Chk TDesc := do
  let d ← readDesc op tid
  require (TDesc.ok d) op 0x51 tid 7
  return d

/-- A region of a tensor: descriptor, first coordinates, counts. -/
structure Region where
  desc : TDesc
  coord : List Nat
  ext : List Nat
  deriving DecidableEq, Repr

/-- Bytes of a region. -/
def Region.bytes (r : Region) : Nat := regionBytes r.desc r.ext

/-- The region of a copy block, or the whole tensor (R255, R256). -/
def checkRegion (op tid : Nat) (d : TDesc) (block : Option Nat) : Chk Region := do
  match block with
  | none =>
    let r : Region := ⟨d, List.replicate (TDesc.ndim d) 0, TDesc.extents d⟩
    require (regionInRange d r.coord r.ext) op 0x51 tid 7
    return r
  | some b =>
    let c (k : Nat) := bitsOf b (32 * k) 32
    let e (k : Nat) := bitsOf b (8 * 0x18 + 32 * k) 32
    let bad := (List.range 6).find? fun k =>
      if k < TDesc.ndim d then e k == 0 || TDesc.extent d k < c k + e k else c k != 0 || 1 < e k
    match bad with
    | some k => refuse op 0x52 tid k
    | none =>
      let r : Region := ⟨d, (List.range (TDesc.ndim d)).map c, (List.range (TDesc.ndim d)).map e⟩
      require (regionInRange d r.coord r.ext) op 0x51 tid 7
      return r

/-- A scratchpad box (R233). -/
structure Box where
  base : Nat
  e0 : Nat
  s1 : Nat
  n1 : Nat
  s2 : Nat
  n2 : Nat
  deriving DecidableEq, Repr

/-- A dense box. -/
def Box.dense (a n : Nat) : Box := ⟨a, n, 0, 1, 0, 1⟩

/-- The box of a copy block at SPA. -/
def Box.ofBlock (a b : Nat) : Box :=
  ⟨a, bitsOf b (8 * 0x38) 22, bitsOf b (8 * 0x30) 22, bitsOf b (8 * 0x38 + 32) 16, bitsOf b (8 * 0x30 + 32) 22,
    bitsOf b (8 * 0x38 + 48) 16⟩

/-- Bytes of a box. -/
def Box.bytes (b : Box) : Nat := b.e0 * b.n1 * b.n2

/-- The conditions on counts and strides. -/
def Box.ok (b : Box) : Bool :=
  1 ≤ b.e0 && 1 ≤ b.n1 && 1 ≤ b.n2 && (b.n1 == 1 || b.e0 ≤ b.s1) && (b.n2 == 1 || (b.n1 - 1) * (if b.n1 = 1 then 0 else b.s1) + b.e0 ≤ b.s2)

/-- One past the last byte of a row's first plane. -/
def Box.planeEnd (b : Box) : Nat := b.base + (if 1 < b.n1 then (b.n1 - 1) * b.s1 else 0) + b.e0

/-- One past the last byte. -/
def Box.hi (b : Box) : Nat := b.planeEnd + if 1 < b.n2 then (b.n2 - 1) * b.s2 else 0

/-- The first byte of the box at or above a limit that the box passes. -/
def Box.beyond (b : Box) (lim : Nat) : Nat :=
  let p := if 1 < b.n2 ∧ b.planeEnd ≤ lim then (lim - b.planeEnd) / b.s2 + 1 else 0
  let start := b.base + p * b.s2
  let r := if 1 < b.n1 ∧ start + b.e0 ≤ lim then (lim - start - b.e0) / b.s1 + 1 else 0
  max lim (start + r * b.s1)

/-- Cause 0x53 for a box (Table 17.1). -/
def badBox {α : Type} (op : Nat) (b : Box) (src : Nat) : Chk α :=
  refuse op 0x53 b.base (src % 2 ^ 32 + b.bytes % 2 ^ 32 * 2 ^ 32)

/-- The box lies in the scratchpad. -/
def boxInside (op : Nat) (b : Box) : Chk Unit := do
  let lim := (← get).core.spadSize
  require (b.hi ≤ lim) op 0x30 (b.beyond lim) 0

/-- The box holds the source's bytes and lies in the scratchpad (R233, R256). -/
def checkBox (op : Nat) (b : Box) (src : Nat) : Chk Unit := do
  if b.ok && b.bytes == src then boxInside op b else badBox op b src

/-- Operands as captured, none yet. -/
def CopyArgs.none (asid : BitVec 8) : CopyArgs := ⟨0, 0, [], [], 0, 0, 0, 0, [], asid, 0, 0⟩

/-- The operands of a region. -/
def Region.args (r : Region) (asid : BitVec 8) : CopyArgs := { CopyArgs.none asid with desc := r.desc, coord := r.coord, ext := r.ext }

/-- A copy that enters a channel. -/
def newCopy (v : View) (b : Box) (total : Nat) (a : CopyArgs) : Copy :=
  { op := v, payload := v.encode, num := 0, tid := 0, dbase := b.base, e0 := b.e0, s1 := b.s1, n1 := b.n1, s2 := b.s2, n2 := b.n2,
    total := total, lidx := 0, next := none, failSrc := 0, args := a, buf := [], failed := [], waited := 0, counted := 0,
    closed := false, lines := [], fresh := false, ending := false, heldOn := none, held := 0 }

/-- No box. -/
def Box.none : Box := ⟨0, 0, 0, 1, 0, 1⟩

/-- The replica tensor that x[XA] names: the same extents, element format and layout (R261). -/
def replicaOf (op : Nat) (r : Region) (xa : BitVec 6) : Chk TDesc := do
  let v ← xVal xa
  require (v < 4096) op 0x51 (v % 4096) 7
  let d ← goodDesc op v
  require (TDesc.extents d == TDesc.extents r.desc && TDesc.efmt d == TDesc.efmt r.desc && TDesc.layout d == TDesc.layout r.desc) op 0x51 v 7
  require (regionInRange d r.coord r.ext) op 0x51 v 7
  return d

/-- The region and the copy block of a format T payload. -/
def formT (op : Nat) (f : FmtT) : Chk (Region × Option Nat) := do
  let block ← if f.xb = 0 then pure none else some <$> copyBlock op f.tid.toNat f.xb
  let d ← goodDesc op f.tid.toNat
  return (← checkRegion op f.tid.toNat d block, block)

/-- CPY, CST, CSTZ, CPYT, CDUP, CMSK, CRPL (R259 to R262). DEDUCED: the table of a CPYT and a replica are checked last (log entry 150). -/
def planTensor (op : Nat) (f : FmtT) : Chk Copy := do
  let (r, block) ← formT op f
  let n := r.bytes
  let box := match block with | some b => Box.ofBlock f.spa.toNat b | none => Box.dense f.spa.toNat n
  let asid := (← get).bank.asid
  if !(box.ok && box.bytes == n && (op != 0x07 || n % 512 == 0)) then badBox op box n
  else
    boxInside op box
    match op with
    | 0x07 =>
      let t ← xVal f.xa
      require (t + 128 ≤ (← get).core.spadSize) op 0x30 (max t (← get).core.spadSize) 0
      require (t % 64 == 0) op 0x31 t 0
      let v ← spadBlock op t 128
      return newCopy (.c op (.t f)) box n { r.args asid with table := BitVec.ofNat 1024 v }
    | 0x1D | 0x1F =>
      let d ← replicaOf op r f.xa
      return newCopy (.c op (.t f)) box (if op = 0x1D then 2 * n else n) { r.args asid with desc2 := d }
    | 0x1E => return newCopy (.c op (.t f)) box n { r.args asid with mask := (← get).readM f.msk.toNat }
    | _ => return newCopy (.c op (.t f)) box n (r.args asid)

/-- CFIL (R263). -/
def planFill (f : FmtT) : Chk Copy := do
  let b ← copyBlock 0x06 f.tid.toNat f.xb
  let v ← xVal f.xa
  let box := Box.ofBlock f.spa.toNat b
  if box.ok then
    boxInside 0x06 box
    return newCopy (.c 0x06 (.t f)) box box.bytes { CopyArgs.none (← get).bank.asid with xa := BitVec.ofNat 64 v }
  else badBox 0x06 box 0

/-- CLDM, which lands a word per line (R274), and CZIP, CPRF, CWB and CINV, which act on lines and place no box (R273). -/
def planLines (op : Nat) (f : FmtT) : Chk Copy := do
  let (r, block) ← formT op f
  let lines := (regionLines r.desc r.coord r.ext).length
  let args := r.args (← get).bank.asid
  if op = 0x1A then
    let n := 4 * lines
    let box := match block with | some b => Box.ofBlock f.spa.toNat b | none => Box.dense f.spa.toNat n
    checkBox op box n
    return newCopy (.c op (.t f)) box n args
  else return newCopy (.c op (.t f)) Box.none (128 * lines) args

/-- A length register whose upper bits are zero (R264, R275). -/
def lengthOf (op : Nat) (a : Nat) (xl : BitVec 6) : Chk Nat := do
  let n ← xVal xl
  require (n < 2 ^ 22) op 0x53 a (n % 2 ^ 32 + n % 2 ^ 22 * 2 ^ 32)
  return n

/-- CLL (R264). -/
def planLocal (f : FmtL) : Chk Copy := do
  let n ← lengthOf 0x03 f.dst.toNat f.xl
  let box := Box.dense f.dst.toNat n
  if n ≠ 0 then
    boxInside 0x03 box
    boxInside 0x03 (Box.dense f.src.toNat n)
  return newCopy (.c 0x03 (.l f)) box n (CopyArgs.none (← get).bank.asid)

/-- The device and core of an OPM address, as one number; 0 for any other address. -/
def opmOwner (pa : Nat) : Nat :=
  if rangeOf (localOf pa) = .opm then 1 + (devOf pa).toNat * 128 + (opmTarget (localOf pa)).1 else 0

/-- A virtual address translated at issue, for writing or for reading; the operation issues once the walker has read its tables. -/
def walkNow (asid : BitVec 8) (va : Nat) (wr : Bool) : Chk Walk := do
  let (w, s) := translate (.front (513 + (← get).coreNo)) asid va (!wr) wr (← get)
  set s
  if w = .wait then throw .wait else return w

/-- CXR (R265): alignment and length at issue, and the target where both ends of the range translate. -/
def planRemoteOpm (f : FmtR) : Chk Copy := do
  let va ← xVal f.xd
  let n ← xVal f.xl
  boxInside 0x04 (Box.dense f.src.toNat n)
  require (va % 4 == 0 && n % 4 == 0 && 4 ≤ n && n ≤ 65536 && va + n ≤ 2 ^ 54) 0x04 0x58 va 0
  let asid := (← get).bank.asid
  let a ← walkNow asid va true
  let b ← walkNow asid (va + n - 1) true
  let owner (w : Walk) : Option Nat := match w with | .leaf pa _ _ => some (opmOwner pa) | _ => none
  require (owner a != some 0 && owner b != some 0 && (owner a == none || owner b == none || owner a == owner b)) 0x04 0x58 va 0
  return newCopy (.c 0x04 (.r f)) (Box.dense f.src.toNat n) n
    { CopyArgs.none asid with xa := BitVec.ofNat 64 va, row0 := (owner a).getD 0 }

/-- CXW (R266). -/
def planWindow (f : FmtR) : Chk Copy := do
  let v ← xVal f.xd
  let n ← xVal f.xl
  boxInside 0x05 (Box.dense f.src.toNat n)
  require (v < 2 ^ 19 && bitsOf v 6 2 == 0 && bitsOf v 15 1 == 0 && n % 64 == 0 && 64 ≤ n && n ≤ 0x300000) 0x05 0x58 v 0
  return newCopy (.c 0x05 (.r f)) (Box.dense f.src.toNat n) n
    { CopyArgs.none (← get).bank.asid with xa := BitVec.ofNat 64 v }

/-- GATH and SCAT (R244, R267). -/
def planRows (op : Nat) (f : FmtQ) : Chk Copy := do
  let s ← get
  let n := f.n.toNat
  require (n ≤ s.core.gq.length) op 0x56 s.core.gq.length 0
  let rows := s.core.gq.take n
  let d ← goodDesc op f.tid.toNat
  require (rows.all fun r => r.toNat < TDesc.rows d) op 0x52 f.tid.toNat 1
  require (rows.all fun r => regionInRange d (rowCoord d r.toNat) (rowExt d)) op 0x51 f.tid.toNat 7
  let e := TDesc.rowBytes d
  let box : Box := ⟨f.spa.toNat, e, e, n, 0, 1⟩
  boxInside op box
  set { (← get) with core := { (← get).core with gq := (← get).core.gq.drop n } }
  return newCopy (.c op (.q f)) box (n * e) { CopyArgs.none s.bank.asid with desc := d, rows := rows }

/-- The 256 KiB pages that a region touches, by an address in each. -/
def regionPages (d : TDesc) (coord ext : List Nat) : List Nat :=
  ((regionLines d coord ext).foldl (fun (l : List Nat) n => if l.head?.any fun m => m / 2048 == n / 2048 then l else n :: l) []).reverse.map
    (128 * ·)

/-- Every page of the region that is mapped lies in this device's HBM. -/
def pagesHere (asid : BitVec 8) : List Nat → Chk Bool
  | [] => return true
  | va :: r => do
    let dev := (← get).devId
    let ok : Bool := match (← walkNow asid va false) with
      | .leaf pa _ disc => disc || (devOf pa == dev && rangeOf (localOf pa) == .hbm)
      | _ => true
    if ok then pagesHere asid r else return false

/-- CSCAN (R272, R294). -/
def planScan (f : FmtKC) : Chk Copy := do
  let tid := f.tid.toNat
  let t ← xVal f.xt
  let d ← goodDesc 0x12 tid
  let s ← get
  let e := TDesc.efmt d
  require (e == 0 || e == 2 || e == 3 || e == 6 || e == 7 || (e == 8 && s.bank.fmt.getLsbD 0)) 0x12 0x51 tid 7
  let r ← checkRegion 0x12 tid d none
  require (← pagesHere s.bank.asid (regionPages d r.coord r.ext)) 0x12 0x51 tid 7
  let win := vget s.core.winsSeen f.w.toNat Window.reset
  require (win.wm.act && win.flow == 4 && win.chan == f.ch.toNat) 0x12 0x54 f.w.toNat 0
  return newCopy (.c 0x12 (.kc f)) Box.none 0 { r.args s.bank.asid with xa := BitVec.ofNat 64 t, win := f.w }

/-- CWMS (R275). -/
def planMark (f : FmtKW) : Chk Copy := do
  let n ← lengthOf 0x17 f.spa.toNat f.xl
  let box := Box.dense f.spa.toNat n
  if n ≠ 0 then boxInside 0x17 box
  return newCopy (.c 0x17 (.kw f)) box n (CopyArgs.none (← get).bank.asid)

/-- CFNC (R276). -/
def planFence (f : FmtKM) : Chk Copy := do
  return newCopy (.c 0x18 (.km f)) Box.none 0 (CopyArgs.none (← get).bank.asid)

/-- CSIG (R277; R247 for an address above 54 bits). -/
def planSignal (f : FmtKG) : Chk Copy := do
  let va ← xVal f.xa
  let v ← xVal f.xv
  require (va < 2 ^ 54) 0x19 0x51 va 7
  require (va % (if f.size then 8 else 4) == 0) 0x19 0x60 va 0
  return newCopy (.c 0x19 (.kg f)) Box.none (if f.size then 8 else 4)
    { CopyArgs.none (← get).bank.asid with xa := BitVec.ofNat 64 va, xb := BitVec.ofNat 64 v }

/-- The plan of a queued operation (Table 17.8). -/
def planOf (op : Nat) (b : CBody) : Chk Copy :=
  match b with
  | .t f =>
    if op = 0x06 then planFill f
    else if op = 0x1A ∨ (0x13 ≤ op ∧ op ≤ 0x16) then planLines op f
    else planTensor op f
  | .l f => planLocal f
  | .r f => if op = 0x04 then planRemoteOpm f else planWindow f
  | .q f => planRows op f
  | .kc f => planScan f
  | .kw f => planMark f
  | .km f => planFence f
  | .kg f => planSignal f
  | _ => throw .wait

/-! ## Entering a channel (R231, R252) -/

/-- The transfer ID that an operation of a C slot took, noted for the record of single-step (R74, R251). -/
def State.noteId (s : State) (id : BitVec 32) : State :=
  s.modBank fun b =>
    { b with stepIds := match s.ctx.slot with
        | .c0 => (b.stepIds.extractLsb' 32 96 ++ id) ||| (1#128 <<< 96)
        | .c1 => (b.stepIds.extractLsb' 64 64 ++ id ++ b.stepIds.setWidth 32) ||| (1#128 <<< 97)
        | _ => b.stepIds }

/-- A copy enters a channel and takes its transfer ID. -/
def State.takeCopy (s : State) (ch : Nat) (c : Copy) : State :=
  let s := s.modCore fun k => { (k.modChan ch fun h => h.take { c with num := k.nextId }) with nextId := k.nextId + 1 }
  s.noteId (vget s.core.chans ch Channel.reset).tid

/-- Ends the issue of a C operation that stops. -/
def State.stopIssue (s : State) : Stop → State
  | .wait => s.putBack
  | .trap cause addr d0 d1 => s.trapAtIssue cause addr d0 d1
  | .bad a => s.trapSpad s.ctx.slot s.ctx.entry.pc s.ctx.entry.rep a
  | .frozen a n => s.trapFrozenByte a n

/-- A check at issue, then its effect. -/
def issueC {α : Type} (m : Chk α) (f : α → State → State) (s : State) : State :=
  match m.run.run s with
  | (.ok a, s) => f a s
  | (.error e, s) => s.stopIssue e

/-- A queued operation issues. -/
def queueOp (g : Guard) (ch : BitVec 3) (op : Nat) (b : CBody) (s : State) : Out :=
  guarded g s (issueC (planOf op b) fun c s => s.takeCopy ch.toNat c)

/-- CPY (R259). -/
def execCpy (f : FmtT) (s : State) : Out := queueOp f.g f.ch 0x00 (.t f) s
/-- CST (R259). -/
def execCst (f : FmtT) (s : State) : Out := queueOp f.g f.ch 0x01 (.t f) s
/-- CSTZ (R259). -/
def execCstz (f : FmtT) (s : State) : Out := queueOp f.g f.ch 0x02 (.t f) s
/-- CLL (R264). -/
def execCll (f : FmtL) (s : State) : Out := queueOp f.g f.ch 0x03 (.l f) s
/-- CXR (R265). -/
def execCxr (f : FmtR) (s : State) : Out := queueOp f.g f.ch 0x04 (.r f) s
/-- CXW (R266). -/
def execCxw (f : FmtR) (s : State) : Out := queueOp f.g f.ch 0x05 (.r f) s
/-- CFIL (R263). -/
def execCfil (f : FmtT) (s : State) : Out := queueOp f.g f.ch 0x06 (.t f) s
/-- CPYT (R260). -/
def execCpyt (f : FmtT) (s : State) : Out := queueOp f.g f.ch 0x07 (.t f) s
/-- GATH (R267). -/
def execGath (f : FmtQ) (s : State) : Out := queueOp f.g f.ch 0x09 (.q f) s
/-- SCAT (R267). -/
def execScat (f : FmtQ) (s : State) : Out := queueOp f.g f.ch 0x0A (.q f) s
/-- CSCAN (R272). -/
def execCscan (f : FmtKC) (s : State) : Out := queueOp f.g f.ch 0x12 (.kc f) s
/-- CZIP (R273). -/
def execCzip (f : FmtT) (s : State) : Out := queueOp f.g f.ch 0x13 (.t f) s
/-- CPRF (R273). -/
def execCprf (f : FmtT) (s : State) : Out := queueOp f.g f.ch 0x14 (.t f) s
/-- CWB (R273). -/
def execCwb (f : FmtT) (s : State) : Out := queueOp f.g f.ch 0x15 (.t f) s
/-- CINV (R273). -/
def execCinv (f : FmtT) (s : State) : Out := queueOp f.g f.ch 0x16 (.t f) s
/-- CWMS (R275). -/
def execCwms (f : FmtKW) (s : State) : Out := queueOp f.g f.ch 0x17 (.kw f) s
/-- CFNC (R276). -/
def execCfnc (f : FmtKM) (s : State) : Out := queueOp f.g f.ch 0x18 (.km f) s
/-- CSIG (R277). -/
def execCsig (f : FmtKG) (s : State) : Out := queueOp f.g f.ch 0x19 (.kg f) s
/-- CLDM (R274). -/
def execCldm (f : FmtT) (s : State) : Out := queueOp f.g f.ch 0x1A (.t f) s
/-- CDUP (R261). -/
def execCdup (f : FmtT) (s : State) : Out := queueOp f.g f.ch 0x1D (.t f) s
/-- CMSK (R262). -/
def execCmsk (f : FmtT) (s : State) : Out := queueOp f.g f.ch 0x1E (.t f) s
/-- CRPL (R261). -/
def execCrpl (f : FmtT) (s : State) : Out := queueOp f.g f.ch 0x1F (.t f) s

/-! ## Windows (R241, R242, R268, R269) -/

/-- The sender of a FLOW 2 window (Table 25.2). -/
def Window.source (w : Window) : FlowSource := ⟨w.ident.extractLsb' 0 6, w.ident.extractLsb' 8 7, w.ident.extractLsb' 16 3⟩

/-- Bytes of credit that a channel holds for a window. -/
def Channel.held (ch : Channel) (t : WindowName) : Nat := match ch.credits.find? fun p => p.1 == t with | some p => p.2 | none => 0

/-- Credit for rows goes to the sender of a FLOW 2 window (R356). -/
def State.grant (s : State) (win : BitVec 3) (rows : Nat) : State :=
  let w := vget s.core.wins win.toNat Window.reset
  if w.flow ≠ 2 ∨ rows = 0 then s
  else
    let t : WindowName := ⟨s.devId, BitVec.ofNat 7 s.coreNo, win⟩
    let src := w.source
    if src.dev = s.devId then
      s.modCoreAt src.core.toNat fun c => c.modChan src.ch.toNat fun ch => ch.credit t (rows * w.rowb)
    else s.send (.credit src t rows (BitVec.ofNat 16 w.rowb))

/-- The fetch of a FLOW 1 window's rows `l` to `l + k − 1`, as a copy (R268). -/
def fetchCopy (v : View) (d : TDesc) (asid : BitVec 8) (win : BitVec 3) (r0 l k : Nat) : Copy :=
  newCopy v Box.none (k * TDesc.rowBytes d)
    { CopyArgs.none asid with desc := d, coord := [0, r0 + l], ext := [TDesc.extent d 0, k], win := win, row0 := l }

/-- The rows of a fetch lie within the addresses (0x51), and are rows of the tensor (0x52), in the order of R253. -/
def checkFetch (op tid : Nat) (d : TDesc) (first k : Nat) : Chk Unit := do
  require (regionInRange d [0, first] [TDesc.extent d 0, k]) op 0x51 tid 7
  require (first + k ≤ TDesc.extent d 1) op 0x52 tid 1

/-- A channel takes one more copy, or the operation issues later (R230). -/
def roomOn (ch : Nat) : Chk Unit := do
  if 16 ≤ (vget (← get).core.chansSeen ch Channel.reset).count then throw .wait

/-- Reserved bits of a bind block (R268, Tables 16.4, 25.2, 25.5). -/
def bindReserved (b : Nat) : Bool :=
  let flow := bitsOf b 48 3
  let word (k : Nat) := bitsOf b (64 * k) 64
  bitsOf b 54 10 != 0 || bitsOf b 22 2 != 0 ||
    (match flow with
     | 1 => bitsOf (word 1) 12 20 != 0
     | 2 => bitsOf (word 2) 19 45 != 0 || bitsOf (word 2) 15 1 != 0 || bitsOf (word 2) 6 2 != 0 || bitsOf b 192 320 != 0
     | 3 => bitsOf (word 2) 28 36 != 0 || bitsOf (word 2) 4 12 != 0 || bitsOf (word 3) 48 16 != 0 || bitsOf (word 4) 16 48 != 0 ||
        bitsOf b 320 192 != 0
     | _ => false)

/-- WBND's checks (R253, R268): the bind block, and for FLOW 1 the tensor's descriptor and rows; then window, geometry, ring
(log entry 150). -/
def planBind (f : FmtW) : Chk (Nat × TDesc) := do
  let a ← xVal f.xa
  require (a % 64 == 0) 0x0B 0x51 0 7
  let b ← spadBlock 0x0B a 64
  let flow := bitsOf b 48 3
  let tid := if flow = 1 then bitsOf b 64 12 else 0
  require (!bindReserved b) 0x0B 0x51 tid 7
  let n := bitsOf b 40 8 + 1
  let d : TDesc ← if flow = 1 then goodDesc 0x0B tid else pure 0
  if flow = 1 then checkFetch 0x0B tid d (bitsOf b 96 32) n
  let w := vget (← get).core.winsSeen f.w.toNat Window.reset
  require (1 ≤ flow && flow ≤ 4 && !w.wm.act) 0x0B 0x54 f.w.toNat 0
  let rowb := bitsOf b 24 16
  let rbase := bitsOf b 0 22
  require (rowb != 0 && rowb % 64 == 0 && rbase % 64 == 0 && (flow != 1 || TDesc.rowBytes d ≤ rowb)) 0x0B 0x53 rbase
    (n * TDesc.rowBytes d % 2 ^ 32 + n * rowb % 2 ^ 32 * 2 ^ 32)
  let lim := (← get).core.spadSize
  require (rbase + n * rowb ≤ lim) 0x0B 0x30 (max rbase lim) 0
  if flow = 1 then roomOn f.ch.toNat
  return (b, d)

/-- WBND (R268). -/
def execWbnd (f : FmtW) (s : State) : Out :=
  guarded f.g s (issueC (planBind f) fun p s =>
    let b := p.1
    let n := bitsOf b 40 8 + 1
    let w0 := (BitVec.ofNat 64 b &&& ~~~(7#64 <<< 51)) ||| (f.ch.setWidth 64 <<< 51)
    let fetch := bitsOf b 48 3 = 1
    let s := if fetch then s.takeCopy f.ch.toNat (fetchCopy (.c 0x0B (.w f)) p.2 s.bank.asid f.w (bitsOf b 96 32) 0 n) else s
    let tid := if fetch then (vget s.core.chans f.ch.toNat Channel.reset).tid else 0
    let s := s.modCore fun c => c.modWin f.w.toNat fun _ =>
      { w0 := w0, b := 0, ident := BitVec.ofNat 384 (b / 2 ^ 128), wm := ⟨tid, true, false, true, false, 0⟩, fetchable := n, part := 0,
        row0 := BitVec.ofNat 32 (bitsOf b 96 32), tensor := BitVec.ofNat 12 (bitsOf b 64 12) }
    s.grant f.w n)

/-- WADV's checks (R242, R253, R269), with the descriptor of a FLOW 1 window: of a bound window, the descriptor and the rows first
(log entry 150). -/
def planAdvance (f : FmtW) : Chk TDesc := do
  let w := vget (← get).core.winsSeen f.w.toNat Window.reset
  let k := f.k.toNat
  let tid := if w.flow = 1 then w.tensor.toNat else 0
  require w.wm.act 0x0C 0x54 f.w.toNat 0
  let fetch := w.flow == 1 && k != 0
  let d : TDesc ← if fetch then goodDesc 0x0C tid else pure 0
  if fetch then checkFetch 0x0C tid d (w.row0.toNat + w.fetchable) k
  require (k ≤ w.slots) 0x0C 0x52 tid 7
  require (w.flow != 1 || w.chan == f.ch.toNat) 0x0C 0x54 f.w.toNat 0
  require (k == 0 || w.fetchable + k ≤ 2 ^ 22) 0x0C 0x52 tid 7
  if fetch then roomOn f.ch.toNat
  return d

/-- WADV (R242, R269). -/
def execWadv (f : FmtW) (s : State) : Out :=
  guarded f.g s (issueC (planAdvance f) fun d s =>
    let w := vget s.core.wins f.w.toNat Window.reset
    let k := f.k.toNat
    if k = 0 then s
    else
      let fetch := w.flow = 1
      let s := if fetch then
          s.takeCopy f.ch.toNat (fetchCopy (.c 0x0C (.w f)) d s.bank.asid f.w w.row0.toNat w.fetchable k)
        else s
      let s := s.modCore fun c => c.modWin f.w.toNat fun w =>
        { w with
          b := w.b + BitVec.ofNat 22 k, fetchable := w.fetchable + k,
          wm := if fetch then { w.wm with tid := (vget s.core.chans f.ch.toNat Channel.reset).tid } else w.wm }
      s.grant f.w k)

/-- WREL (R242, R269): its condition holds when it issues. -/
def execWrel (f : FmtW) (s : State) : Out :=
  guarded f.g s fun s =>
    if (vget s.core.wins f.w.toNat Window.reset).wm.act then
      s.modCore fun c => c.modWin f.w.toNat fun w => { w with wm := { w.wm with act := false, ring := false } }
    else s.trapAtIssue 0x54 (f.w.setWidth 64) 0x0D 0

/-! ## Gather queue, schedules, control (R244, R245, R267, R270, R271, R278) -/

/-- GQIN (R244, R267). -/
def execGqin (f : FmtGQ) (s : State) : Out :=
  guarded f.g s fun s =>
    if 64 ≤ s.core.gq.length then s.trapAtIssue 0x56 (BitVec.ofNat 64 s.core.gq.length) 0x08 0
    else s.modCore fun c => { c with gq := c.gq ++ [(s.readX f.xa).setWidth 32] }

/-- The opcode of a schedule payload is one that Table 16.8 permits. -/
def schedulable (w : BitVec 64) : Bool := [0x00, 0x01, 0x02, 0x03, 0x06, 0x07, 0x09, 0x0A].contains (payloadOp .c0 w)

/-- The entries of a schedule from entry `i` at `a` (R245, R270). -/
def readSchedule (a : Nat) : Nat → Nat → Nat → List SchedEntry → Chk (List SchedEntry)
  | 0, i, _, _ => refuse i 0x55 a 0
  | k + 1, i, stage, acc => do
    let s ← get
    require (a + 16 ≤ s.core.spadSize) 0x0E 0x30 (max a s.core.spadSize) 0
    if !s.core.mayIssue ((List.range 16).map (a + ·)) then throw .wait
    let e ← spadBlock 0x0E a 16
    let st := bitsOf e 64 32
    require (schedulable (BitVec.ofNat 64 e) && stage ≤ st && bitsOf e 97 31 == 0) i 0x55 a 0
    let acc := acc ++ [⟨BitVec.ofNat 64 e, BitVec.ofNat 32 st⟩]
    if bitsOf e 96 1 = 1 then return acc else readSchedule (a + 16) k (i + 1) st acc

/-- CSCH (R245, R270): the schedule replaces any earlier one. -/
def execCsch (f : FmtKS) (s : State) : Out :=
  guarded f.g s
    (issueC (do require (f.spa.toNat % 16 == 0) 0 0x55 f.spa.toNat 0; readSchedule f.spa.toNat 1024 0 0 []) fun l s =>
      s.modCore fun c => { c with sched := l, cstage := 0 })

/-- CSTEP (R245, R270): raises the cause that a released entry left, else adds to CSTAGE. -/
def execCstep (f : FmtKN) (s : State) : Out :=
  guarded f.g s fun s =>
    match takeSchedCause s with
    | some (t, s) => s.putBack.takeTrap { t with pc := s.ctx.entry.pc, rep := s.ctx.entry.rep, slots := slotMask s.ctx.slot }
    | none => s.modCore fun c => { c with cstage := c.cstage + f.n.setWidth 32 }

/-- CABT (R271): the channel's current copy ends; a running one whose landing write is in flight ends once that is answered. -/
def execCabt (f : FmtKZ) (s : State) : Out :=
  guarded f.g s fun s =>
    let ch := vget s.core.chans f.ch.toNat Channel.reset
    let s := s.dropWaiter (.copy s.coreNo f.ch)
    match ch.cur with
    | none => s.modCore fun c => c.abortChan f.ch.toNat
    | some c =>
      let who : Asker := .copy s.coreNo c.num
      if ch.runs && s.storing who then
        (s.dropReads who).modCore fun k => k.modChan f.ch.toNat fun h =>
          { h with state := 1, cur := h.cur.map fun c => { c with ending := true } }
      else (s.dropAsker who).modCore fun c => c.abortChan f.ch.toNat

/-- CRSM's checks (R271): a new source tensor matches the copy's. -/
def planResume (f : FmtKR) : Chk (Option TDesc) := do
  let ch := vget (← get).core.chansSeen f.ch.toNat Channel.reset
  require (ch.state == 3 || ch.state == 4) 0x11 0x57 f.ch.toNat 0
  if !f.new then return none
  else
    match ch.cur with
    | none => refuse 0x11 0x51 f.tid.toNat 7
    | some c =>
      require c.fromTensor 0x11 0x51 f.tid.toNat 7
      let d ← goodDesc 0x11 f.tid.toNat
      let o := c.args.desc
      require (TDesc.extents d == TDesc.extents o && TDesc.efmt d == TDesc.efmt o && TDesc.layout d == TDesc.layout o) 0x11 0x51 f.tid.toNat 7
      require (regionInRange d (List.replicate (TDesc.ndim d) 0) (TDesc.extents d)) 0x11 0x51 f.tid.toNat 7
      return some d

/-- CRSM (R248, R271): the current copy restarts at LIDX; a new source's next unit is its own. -/
def execCrsm (f : FmtKR) (s : State) : Out :=
  guarded f.g s (issueC (planResume f) fun d s =>
    let s := match (vget s.core.chans f.ch.toNat Channel.reset).cur with
      | some c => s.dropReads (.copy s.coreNo c.num)
      | none => s
    (s.modCore fun c =>
      (c.syncFetch f.ch.toNat false).modChan f.ch.toNat fun ch =>
        ch.restart fun k => match d with | some d => { k with args := { k.args with desc := d }, next := none } | none => k).dropWaiter
      (.copy s.coreNo f.ch))

/-- CSTS (R278): the channel's state, as it stood before the cycle, written to the own scratchpad. -/
def execCsts (f : FmtKS) (s : State) : Out :=
  guarded f.g s
    (issueC (do
      let a := f.spa.toNat
      let s ← get
      require (a + 64 ≤ s.core.spadSize) 0x1B 0x30 (max a s.core.spadSize) 0
      require (a % 8 == 0) 0x1B 0x31 a 0
      match s.core.frozenAccess [(List.range 64).map (a + ·)] with
      | some (b, w) => throw (.frozen b w)
      | none => pure ()) fun _ s =>
      let ch := vget s.core.chansSeen f.ch.toNat Channel.reset
      let ws := ch.chs :: ((List.range 6).map fun k => match ch.cur with | some c => Copy.word c k | none => 0) ++ [ch.wm.word]
      s.writeSpad (wholeBytes f.spa.toNat (ws.flatMap fun w => leBytes 8 w.toNat)))

/-- CPRI (R278): it changes cycles only. -/
def execCpri (f : FmtKP) (s : State) : Out := guarded f.g s fun s => s.modCore fun c => c.modChan f.ch.toNat fun ch => { ch with prio := f.p }

/-- The checks of a C operation at issue that read global memory or count on a channel's room. -/
def planC (op : Nat) (b : CBody) : Chk Unit :=
  match op, b with
  | 0x0B, .w f => do let _ ← planBind f
  | 0x0C, .w f => do let _ ← planAdvance f
  | 0x11, .kr f => do let _ ← planResume f
  | _, b => if (queuedOn op b).isSome then do let _ ← planOf op b else pure ()

/-- A C slot that would issue asks for what its operation reads in global memory: whether it waits for it (R26: then nothing of its
SYNC set issues), and the state with what has come. -/
def askSlot (s : State) (slot : Slot) : Bool × State :=
  match issuesNow s slot with
  | some (e, .c op b) =>
    match (planC op b).run.run (s.seat slot e) with
    | (.error .wait, t) => (true, { t with core := s.core, ctx := s.ctx })
    | (.ok (), t) => (false, { t with core := s.core, ctx := s.ctx })
    | (.error _, t) => (false, { s with choices := t.choices })
  | _ => (false, s)

/-! ## Release of a schedule's entries (R245, R270) -/

/-- The entry that stands for a schedule entry: rotation and stage predicates as they are at the release. -/
def scheduleEntry (b : Bank) (v : View) : Entry :=
  ⟨some v, false, b.seqNext, b.pc, 0, b.rep, b.p.extractLsb' 8 8, b.rotb, 0, 0⟩

/-- A released entry's cause waits for the next CSTEP, SYNC or HALT; its channel freezes, an unrelated current copy with it (log
entry 114). -/
def scheduleTrap (n : Nat) (cause : BitVec 8) (addr d0 d1 : BitVec 64) (s : State) : State :=
  s.modCore fun c => (c.freezeChan n 0 0).modChan n fun ch =>
    { ch with schedCause := some ⟨cause, .atIssue, 0, 0, 0, addr, d0, d1⟩ }

/-- SCHEDULE_ENTRY_RELEASE (R245, R270): the next entry at or below CSTAGE issues on its channel, once the channel takes a copy and
watermarks pass what it reads; one that holds a forbidden payload value freezes its channel with 0x06. -/
def execScheduleEntryRelease (s : State) : Out :=
  match s.core.sched with
  | [] => .next s
  | e :: rest =>
    match decodeSlot .c0 e.payload with
    | .ok (.c op b) =>
      let v : View := .c op b
      let n := b.ch.toNat
      if s.core.cstage < e.stage then .next s
      else
        let ctx := s.ctx
        let t := { s with ctx := ⟨.s, scheduleEntry s.bank v⟩ }
        let used : State := { (s.modCore fun c => { c with sched := rest }) with ctx := ctx }
        if !t.holds b.guard then .next used
        else if copyHeld t v || watermarkHeld t t.zreg v then .next s
        else
          match (planOf op b).run.run t with
          | (.ok c, t) => .next { ((t.modCore fun c => { c with sched := rest }).takeCopy n c) with ctx := ctx }
          | (.error .wait, t) => .next { t with ctx := ctx }
          | (.error (.trap cause addr d0 d1), t) =>
            .next (scheduleTrap n cause addr d0 d1 { (t.modCore fun c => { c with sched := rest }) with ctx := ctx })
          | (.error (.bad a), _) =>
            .next (scheduleTrap n 0x36 (BitVec.ofNat 64 a) (Config.unstated 0x36 1) (Config.unstated 0x36 2) used)
          | (.error (.frozen a w), _) =>
            .next (scheduleTrap n 0x50 (BitVec.ofNat 64 a) (s.core.frozenRecord w).1 (s.core.frozenRecord w).2 used)
    | _ =>
      if s.core.cstage < e.stage then .next s
      else
        .next (scheduleTrap (e.payload.extractLsb' 50 3).toNat 0x06 (Config.unstated 0x06 0) (Config.unstated 0x06 1)
          (Config.unstated 0x06 2) (s.modCore fun c => { c with sched := rest }))

end Sys2Proof.Machine
end

