-- ==== Sys2Proof/Machine/CopyRun.lean ====
section
/-! DEFINITION. Copy channels at work: source fragments that return, landing writes, freezes, completion, scans, and the flows
between cores and devices (spec/16 R232 to R249; spec/17 R259 to R277; spec/19 R294, R295; spec/25 R354 to R356, R364). -/
namespace Sys2Proof.Machine

/-- The landing index from which a copy needs source bytes: CPYT needs the whole group that it lands (R260). -/
def Copy.fetchFrom (c : Copy) : Nat := if c.code = 0x07 then c.lidx / 512 * 512 else c.lidx

/-- The landing indices near `i` whose source bytes lie in the same unit. -/
def Copy.unitOf (c : Copy) (va : Nat → Nat) (i : Nat) : List Nat :=
  ((List.range 255).map (fun k => i + k - 127)).filter fun j =>
    i < j + 128 && c.fetchFrom ≤ j && j < c.total && va j / 128 == va i / 128

/-- FCAUSE of a cause met while a copy reads or writes data (R247); on a metadata read 0x72 is a metadata error (`metaFcause`).
DEDUCED: 0xB4 of the security block is a target that refuses (log entry 149). -/
def fcauseOf (cause : BitVec 8) : BitVec 4 :=
  if cause = 0x82 ∨ cause = 0x36 ∨ cause = 0x83 then 1
  else if cause = 0x64 then 2
  else if cause = 0x80 ∨ cause = 0x81 then 3
  else if 0x90 ≤ cause ∧ cause ≤ 0x94 then 4
  else if 0x70 ≤ cause ∧ cause ≤ 0x74 then 5
  else 6

/-- FCAUSE of a cause met by a read of metadata words (R247). -/
def metaFcause (cause : BitVec 8) : BitVec 4 := if cause = 0x72 then 3 else fcauseOf cause

/-! ## Copies of a channel -/

/-- A channel of the core in focus. -/
def State.chan (s : State) (n : Nat) : Channel := vget s.core.chans n Channel.reset

/-- The state with a channel changed. -/
def State.onChan (s : State) (n : Nat) (f : Channel → Channel) : State := s.modCore fun c => c.modChan n f

/-- The state with the current copy of a channel changed. -/
def State.onCopy (s : State) (n : Nat) (f : Copy → Copy) : State := s.onChan n fun ch => { ch with cur := ch.cur.map f }

/-- A copy of a channel: the current one at 0, then the queued ones. -/
def Channel.copyAt (ch : Channel) (j : Nat) : Option Copy := if j = 0 then ch.cur else ch.queue[j - 1]?

/-- The channel with that copy changed. -/
def Channel.modCopyAt (ch : Channel) (j : Nat) (f : Copy → Copy) : Channel :=
  if j = 0 then { ch with cur := ch.cur.map f } else { ch with queue := ch.queue.mapIdx fun k c => if k + 1 = j then f c else c }

/-- The current copy of a channel freezes at landing index `i` (R247). -/
def State.freezeUnit (s : State) (n : Nat) (fc : BitVec 4) (src : Nat) : State :=
  s.modCore fun c => c.freezeChan n fc (BitVec.ofNat 64 src)

/-! ## Copies that software has written (R112, R236, R237) -/

/-- The element at which a written scan goes on: the first one of its next source unit. -/
def scanStart (a : CopyArgs) (next : Option (BitVec 64)) : Nat :=
  let sz := TDesc.esz a.desc
  match next with
  | none => 0
  | some v =>
    ((List.range (a.ext.foldl (· * ·) 1)).find? fun i => regionVa a.desc a.coord a.ext (i * sz) / 128 == v.toNat / 128).getD 0

/-- The operands of a copy whose payload software has written, captured anew. -/
def captureArgs (op : Nat) (b : CBody) (c : Copy) : Chk CopyArgs :=
  match b with
  | .q f => do
    let d ← goodDesc op f.tid.toNat
    return { CopyArgs.none (← get).bank.asid with desc := d, rows := c.args.rows }
  | .w f => do
    let w := vget (← get).core.wins f.w.toNat Window.reset
    let d ← goodDesc op w.tensor.toNat
    let k := if TDesc.rowBytes d = 0 then 0 else c.total / TDesc.rowBytes d
    return (fetchCopy c.op d (← get).bank.asid f.w w.row0.toNat (w.fetchable - k) k).args
  | .kc f => do
    let p ← planScan f
    return { p.args with row0 := scanStart p.args c.next }
  | b => (fun p => p.args) <$> planOf op b

/-- The current copy of a channel, whose payload software has written, takes its operands by the active bank's registers; it waits
while its payload or an operand is refused (log entry 61). -/
def captureCopy (n : Nat) (s : State) : State :=
  match (s.chan n).cur with
  | none => s
  | some c =>
    match c.op with
    | .c op b =>
      if !c.fresh || c.ghost || s.core.stopped then s
      else
        let ctx := s.ctx
        match (captureArgs op b c).run.run { s with ctx := ⟨.s, scheduleEntry s.bank c.op⟩ } with
        | (.ok a, s) => { (s.onCopy n fun c => { c with args := a, fresh := false }) with ctx := ctx }
        | (.error _, s) => { s with ctx := ctx }
    | _ => s

/-! ## Budgets (R345) -/

/-- The budget class of a copy of the core in focus: scan for CSCAN, firmware for a Collie core's, else user copies. -/
def State.copyClass (s : State) (c : Copy) : Nat := if c.code = 0x12 then 3 else if s.core.collie then firmwareClass else 0

/-- A transfer of a copy at an address may start. -/
def State.budgetOk (s : State) (c : Copy) (pa : Nat) : Bool := s.mayTransfer (s.copyClass c) pa

/-- The copy of channel `n` noted as held by a budget, or as moving. -/
def State.noteHold (s : State) (n : Nat) (c : Copy) (on : Option Nat) : State :=
  s.onCopy n fun k => if k.num = c.num then { k with heldOn := on, held := if on.isNone then 0 else k.held } else k

/-- A transfer of a copy at an address waits for the next period. -/
def State.budgetHold (s : State) (n : Nat) (c : Copy) (pa : Nat) : State :=
  s.noteHold n c ((s.resourceOf pa).map fun r => 8 * r + s.copyClass c)

/-- The bytes of a transfer counted. -/
def State.budgetMove (s : State) (n : Nat) (c : Copy) (pa len : Nat) : State := (s.charge (s.copyClass c) pa len).noteHold n c none

/-- A copy has been held by a budget for more than its GRACE periods. -/
def Copy.overheld (c : Copy) (i grace : Nat) : Bool := grace != 0 && c.heldOn == some i && grace < c.held

/-- BUDGET_GRACE_EXPIRY (R345): an engine operation of the task held for more than GRACE consecutive periods raises 0xB2, and is counted
anew. -/
def execBudgetGraceExpiry (resource : BitVec 2) (cls : BitVec 3) (s : State) : Out :=
  let i := 8 * resource.toNat + cls.toNat
  let grace := ((s.budget resource.toNat cls.toNat).extractLsb' 40 8).toNat
  if !(s.core.chans.toList.any fun h => h.runs && h.cur.any fun c => c.overheld i grace) then .next s
  else
    let s := s.modCore fun k => { k with chans := k.chans.map fun h =>
      { h with cur := h.cur.map fun c => if c.overheld i grace then { c with held := 0 } else c } }
    .next (impose (s.imposed 0xB2 (Config.unstated 0xB2 1) (Config.unstated 0xB2 2)) s)

/-! ## Translation for a copy (R309, R311) -/

/-- What a copy's translation answers. -/
inductive CopyWalk where
  | at_ (pa : Nat) (ca : BitVec 2) (discarded : Bool)
  | busy
  | refused (cause : BitVec 8)
  deriving DecidableEq, Repr

/-- A tick in which a copy waits on translation is counted. -/
def Copy.count (tick : Nat) (c : Copy) : Copy :=
  { c with waited := (countTick tick (c.waited, c.counted)).1, counted := (countTick tick (c.waited, c.counted)).2 }

/-- A virtual address translated for a copy of channel `n`; a fault of the current copy (`wait`) asks for the page, and STATE shows
2 while it waits. -/
def copyWalk (n : Nat) (c : Copy) (va : Nat) (wr wait : Bool) (s : State) : CopyWalk × State :=
  let w := Waiter.copy s.coreNo (BitVec.ofNat 3 n)
  if s.pageAsked w va then (.busy, s)
  else
    match translateMarked (.copy s.coreNo c.num) c.args.asid va (!wr) wr s with
    | (.leaf pa ca d, s) =>
      (.at_ pa ca d, if wait && !s.waitsOnPage w then s.onChan n fun ch => { ch with state := 1 } else s)
    | (.fault, s) =>
      (.busy, if wait then
          ((s.pageFault w c.args.asid va (!wr) wr).onChan n fun ch => { ch with state := 2 }).onCopy n (Copy.count s.tick)
        else s)
    | (.migrating, s) => (.busy, if wait then s.onChan n fun ch => { ch with state := 2 } else s)
    | (.wait, s) => (.busy, s)
    | (.cause k _ _, s) => (.refused k, s)

/-! ## Source fragments (R246, R247) -/

/-- What reading a source unit answers: its bytes by landing index, not yet, or a failure. -/
inductive UnitRead where
  | bytes (l : List (Nat × BitVec 8))
  | busy
  | fails (fc : BitVec 4)
  deriving DecidableEq, Repr

/-- On whose behalf the lines of a copy are asked for. -/
def State.askerFor (s : State) (c : Copy) : Asker := .copy s.coreNo c.num

/-- The line of a physical address that a copy reads: 128 bytes. -/
def copyLine (c : Copy) (pa : Nat) (ca : BitVec 2) (s : State) : Reply × State :=
  let base := pa / 128 * 128
  match rangeOf (localOf pa) with
  | .control => (.fail 0x61 none, s)
  | .opm =>
    if devOf pa = s.devId then
      (.ready (BitVec.ofNat 1024 (leNat (s.opmRead (opmTarget (localOf base)).1 (opmTarget (localOf base)).2 128))) false, s)
    else ask .readOnce (s.askerFor c) (lineOf pa) (devOf pa) (.uncached (devOf pa) base none 128 false) s
  | _ => lineRead (s.askerFor c) base ca c.args.asid s

/-- A source unit of a tensor read for landing indices `idx`, whose addresses are `va`. -/
def readUnit (n : Nat) (c : Copy) (wait : Bool) (va : Nat → Nat) (i : Nat) (idx : List Nat) (s : State) : UnitRead × State :=
  match copyWalk n c (va i) false wait s with
  | (.busy, s) => (.busy, s)
  | (.refused k, s) => (.fails (fcauseOf k), s)
  | (.at_ _ _ true, s) => (.bytes (idx.map fun j => (j, 0)), s)
  | (.at_ pa ca false, s) =>
    if !s.budgetOk c pa then (.busy, s.budgetHold n c pa)
    else
      match copyLine c pa ca s with
      | (.ready d false, s) =>
        (.bytes (idx.map fun j => (j, d.extractLsb' (8 * (va j % 128)) 8)), s.budgetMove n c pa 128)
      | (.ready _ true, s) => (.fails 2, s)
      | (.wait, s) => (.busy, s)
      | (.fail k _, s) => (.fails (fcauseOf k), s)

/-- Every copy issued before a copy passes a byte of the own scratchpad (R240). -/
def Core.earlierPass (c : Core) (num a : Nat) : Bool :=
  c.chans.toList.all fun ch =>
    (match ch.cur with
     | some k => num ≤ k.num || !ch.wm.act || k.passes ch.wm.addr.toNat a
     | none => true) &&
    ch.queue.all fun k => num ≤ k.num || k.passes k.dbase a

/-- A source unit in the own scratchpad read. -/
def readSpadUnit (c : Copy) (idx : List Nat) (s : State) : UnitRead :=
  let addrs := idx.map c.spadSrc
  if !(addrs.all fun a => s.core.earlierPass c.num a) then .busy
  else if addrs.any s.core.spadBad.contains then .fails 1
  else .bytes (idx.map fun j => (j, s.core.spad.read (c.spadSrc j)))

/-- A landing index's byte has returned. -/
def Copy.has (c : Copy) (i : Nat) : Bool := c.buf.any fun p => p.1 == i

/-- FCAUSE of a landing index that failed; 8 or above while a replica is still to be read. -/
def Copy.failOf (c : Copy) (i : Nat) : Option (BitVec 4) := (c.failed.find? fun p => p.1 == i).map (·.2)

/-- A unit's answer taken by a copy: bytes held, or the indices marked as failed; a copy with a replica reads it first (R261). -/
def Copy.takeUnit (c : Copy) (idx : List Nat) : UnitRead → Copy
  | .bytes l => { c with buf := c.buf ++ l.filter (fun p => !c.has p.1), failed := c.failed.filter fun p => !idx.contains p.1 }
  | .busy => c
  | .fails fc =>
    let fc := if c.code = 0x1F then fc ||| 8 else fc
    { c with failed := c.failed ++ (idx.filter fun j => !c.has j && (c.failOf j).isNone).map fun j => (j, fc) }

/-- A replica unit's answer taken: bytes held, or the primary unit's failure stands. -/
def Copy.takeReplica (c : Copy) (idx : List Nat) : UnitRead → Copy
  | .bytes l => { c with buf := c.buf ++ l.filter (fun p => !c.has p.1), failed := c.failed.filter fun p => !idx.contains p.1 }
  | .busy => c
  | .fails _ => { c with failed := c.failed.map fun p => if idx.contains p.1 then (p.1, p.2 &&& 7) else p }

/-- Consecutive numbers. -/
def run (a n : Nat) : List Nat := (List.range n).map (a + ·)

/-- The first of `n` places at or cyclically after an openly chosen one that holds. -/
def chooseFrom (n : Nat) (holds : Nat → Bool) (s : State) : Option Nat × State :=
  let (k, s) := s.choose n
  (((run k (n - k)) ++ run 0 k).find? holds, s)

/-- The byte at a landing index is still to be fetched, or its replica is. -/
def Copy.outstanding (c : Copy) (i : Nat) : Bool := !c.has i && (c.failOf i).all fun fc => 8 ≤ fc

/-- A fragment of a channel's copy `j` returns: one of those outstanding, openly chosen. -/
def returnFragment (n j : Nat) (s : State) : State :=
  match (s.chan n).copyAt j with
  | none => s
  | some c =>
    if (j == 0 && !(s.chan n).runs) || c.fresh || c.total ≤ c.lidx || !(c.fromSpad || (c.fromTensor && c.code != 0x12)) then s
    else
      let put (f : Copy → Copy) (s : State) : State := s.onChan n fun ch => ch.modCopyAt j f
      match chooseFrom (c.total - c.fetchFrom) (fun k => c.outstanding (c.fetchFrom + k)) s with
      | (none, s) => s
      | (some k, s) =>
        let i := c.fetchFrom + k
        if c.fromSpad then
          let idx := (c.unitOf c.spadSrc i).filter fun m => !c.has m && (c.failOf m).isNone
          put (fun c => c.takeUnit idx (readSpadUnit c idx s)) s
        else if (c.failOf i).isNone then
          let idx := (c.unitOf c.tensorVa i).filter fun m => !c.has m && (c.failOf m).isNone
          let (r, s) := readUnit n c (j == 0) c.tensorVa i idx s
          put (fun c => c.takeUnit idx r) s
        else
          let idx := (c.unitOf c.replicaVa i).filter fun m => (c.failOf m).any fun f => 8 ≤ f
          let (r, s) := readUnit n c (j == 0) c.replicaVa i idx s
          put (fun c => c.takeReplica idx r) s

/-- FRAGMENT_RETURN (R246): a fragment of the channel's current copy returns, or of a queued one, whose source may be read early
(R230). -/
def execFragmentReturn (ch : BitVec 3) (s : State) : Out :=
  let n := ch.toNat
  let (j, s) := s.choose ((s.chan n).queue.length + 1)
  .next (returnFragment n j s)

/-! ## Landing (R234 to R237, R247) -/

/-- What a landing write needs: its bytes, or one that has not returned, or one that failed. -/
inductive Need where
  | have_ (bytes : List (BitVec 8))
  | later
  | failing (i : Nat) (fc : BitVec 4)
  deriving DecidableEq, Repr

/-- The byte at a landing index. -/
def Copy.byteAt (c : Copy) (i : Nat) : BitVec 8 := match c.buf.find? fun p => p.1 == i with | some p => p.2 | none => 0

/-- The source bytes at landing indices: of those that have not returned the first one tells, so that the unit that freezes a copy is
the first failing one in landing order (R247). -/
def Copy.need (c : Copy) (idx : List Nat) : Need :=
  match idx.find? fun i => !c.has i with
  | none => .have_ (idx.map c.byteAt)
  | some i =>
    match c.failOf i with
    | some fc => if fc < 8 then .failing i fc else .later
    | none => .later

/-- The current copy of channel `n` has landed `m` more bytes. -/
def State.landedBytes (s : State) (n m : Nat) : State := s.onChan n fun ch => ch.landed m

/-- Bytes written to the own scratchpad by a copy. -/
def State.landSpad (s : State) (a : Nat) (bytes : List (BitVec 8)) : State :=
  s.modCore fun c =>
    { c with spad := c.spad.store a bytes, spadBad := c.spadBad.filter fun b => b < a || a + bytes.length ≤ b }

/-- The permuted byte at landing index `i` of a CPYT (R260). -/
def Copy.permuted (c : Copy) (i : Nat) : BitVec 8 :=
  let t := c.args.table.extractLsb' (8 * (i % 512 / 4)) 8
  if t.getLsbD 7 then 0 else c.byteAt (i / 512 * 512 + 4 * (t.setWidth 7).toNat + i % 4)

/-- A landing write of a copy into its box in the own scratchpad: the bytes of one row in one 64-byte granule. -/
def landScratch (n : Nat) (c : Copy) (s : State) : State :=
  let a := c.addrAt c.lidx
  let m := min (min (c.e0 - c.lidx % c.e0) (64 - a % 64)) (c.total - c.lidx)
  let idx := run c.lidx m
  match c.code with
  | 0x06 =>
    let pat := c.args.xa
    (s.landSpad a ((run a m).map fun b => pat.extractLsb' (8 * (b % 4)) 8)).landedBytes n m
  | 0x07 =>
    match c.need (run c.fetchFrom 512) with
    | .failing i fc => s.freezeUnit n fc (c.unitAt i)
    | .later => s
    | .have_ _ => (s.landSpad a (idx.map c.permuted)).landedBytes n m
  | _ =>
    match c.need idx with
    | .failing i fc => s.freezeUnit n fc (if c.code = 0x1A then (regionLines c.args.desc c.args.coord c.args.ext).getD (i / 4) 0 * 128
        else c.unitAt i)
    | .later => s
    | .have_ bytes => (s.landSpad a bytes).landedBytes n m

/-- A landing write of a FLOW 1 fetch into its window; a row counts when it has landed whole (R243, R268). -/
def landFetch (n : Nat) (c : Copy) (s : State) : State :=
  let w := vget s.core.wins c.args.win.toNat Window.reset
  let rb := TDesc.rowBytes c.args.desc
  let row := c.args.row0 + c.lidx / rb
  let a := w.rbase + w.rowb * (row % w.slots) + c.lidx % rb
  let m := min (rb - c.lidx % rb) (64 - a % 64)
  match c.need (run c.lidx m) with
  | .failing i fc => s.freezeUnit n fc (c.unitAt i)
  | .later => s
  | .have_ bytes =>
    let s := if w.wm.act then s.landSpad a bytes else s
    let s := s.modCore fun k => k.modWin c.args.win.toNat fun w =>
      if (c.lidx + m) % rb = 0 ∧ w.wm.act then { w with wm := { w.wm with addr := BitVec.ofNat 22 (row + 1) } } else w
    s.landedBytes n m

/-- A line of the CXL tier of this device is poisoned, as its slice's copy or an expander has it (R370). -/
def State.expanderPoison (s : State) (pa : Nat) : Bool :=
  match rangeOf (localOf pa) with
  | .cxl _ => devOf pa == s.devId && !s.tierBad.contains (localLine (lineOf pa)) &&
      ((s.sliceLine (lineOf pa)).any (·.poison) || s.tierPoison.contains (localLine (lineOf pa)))
  | _ => false

/-- What a write of a copy to global memory answers. -/
inductive CopyWrite where
  | done | busy
  | refused (fc : BitVec 4)
  deriving DecidableEq, Repr

/-- Bytes within one line written by a copy at a virtual address; `z`: a full line of HBM is written compressed where it
qualifies. -/
def copyStore (n : Nat) (c : Copy) (va : Nat) (bytes : List (BitVec 8)) (z : Bool) (s : State) : CopyWrite × State :=
  match copyWalk n c va true true s with
  | (.busy, s) => (.busy, s)
  | (.refused k, s) => (.refused (fcauseOf k), s)
  | (.at_ pa ca _, s) =>
    if !s.budgetOk c pa then (.busy, s.budgetHold n c pa)
    else
      let who := s.askerFor c
      let answer : Reply × State :=
        match rangeOf (localOf pa) with
        | .control =>
          if !devSizeOk (localOf pa) bytes.length then (.fail 0x61 none, s)
          else if securityBlock (localOf pa) then (.fail 0xB4 none, s)
          else if devOf pa ≠ s.devId then ask .writeOnce who pa (devOf pa) (.uncached (devOf pa) pa (some bytes) bytes.length false) s
          else (.ready 0 false, devWrite s.writer (localOf pa) bytes s)
        | .opm =>
          let t := opmTarget (localOf pa)
          if devOf pa = s.devId then (.ready 0 false, s.opmWrite t.1 t.2 bytes)
          else ask .writeOnce who pa (devOf pa) (.opmWrite (devOf pa) t.1 t.2 bytes) s
        | .hbm =>
          if z && bytes.length == 128 then lineCompress who pa ca (BitVec.ofNat 1024 (leNat bytes)) s
          else lineWrite who pa ca c.args.asid bytes s
        | _ => lineWrite who pa ca c.args.asid bytes s
      match answer with
      | (.ready .., s) => (.done, s.budgetMove n c pa bytes.length)
      | (.wait, s) => (.busy, s)
      | (.fail k _, s) => (.refused (if s.expanderPoison pa then 2 else fcauseOf k), s)

/-- The write of a copy's destination has been answered. -/
def afterStore (n m : Nat) (c : Copy) (r : CopyWrite × State) : State :=
  match r with
  | (.done, s) => s.landedBytes n m
  | (.busy, s) => s
  | (.refused fc, s) => s.freezeUnit n fc (c.unitAt c.lidx)

/-- Landing indices of the destination half that an index of a CDUP lies in, else of the whole copy. -/
def Copy.half (c : Copy) (i : Nat) : List Nat :=
  if c.code = 0x1D then run (if i < c.total / 2 then 0 else c.total / 2) (c.total / 2) else List.range c.total

/-- The leading numbers of a list whose addresses follow one another. -/
def contiguous (va : Nat → Nat) : List Nat → List Nat
  | [] => []
  | [i] => [i]
  | i :: j :: r => if va j = va i + 1 then i :: contiguous va (j :: r) else [i]

/-- A landing write of a copy whose destination is a tensor (R259, R261, R262, R267): the next bytes in one line, in one write
where the copy covers the line whole (log entry 26). -/
def landTensor (n : Nat) (c : Copy) (s : State) : State :=
  let va := c.tensorVa
  let line := va c.lidx / 128
  let stop := if c.code = 0x1D && c.lidx < c.total / 2 then c.total / 2 else c.total
  let span := (run c.lidx (min 128 (stop - c.lidx))).takeWhile fun j => va j / 128 == line
  let chosen (j : Nat) : Bool := c.code != 0x1E || c.args.mask.getLsbD (j / 4 % 128)
  if !chosen c.lidx then s.landedBytes n (span.takeWhile fun j => !chosen j).length
  else
    let span := span.takeWhile chosen
    match c.need span with
    | .failing i fc => s.freezeUnit n fc (c.unitAt i)
    | .later => s
    | .have_ _ =>
      let all := (c.half c.lidx).filter fun j => va j / 128 == line
      let last := span.getLast?.getD c.lidx
      let whole := (c.code == 0x01 || c.code == 0x02 || c.code == 0x1D) && all.all c.has && all.getLast? == some last &&
        (List.range 128).all fun o => all.any fun j => va j % 128 == o
      if whole then
        let bytes := (List.range 128).map fun o => match (all.reverse.find? fun j => va j % 128 == o) with | some j => c.byteAt j | none => 0
        afterStore n span.length c (copyStore n c (128 * line) bytes (c.code == 0x02) s)
      else
        let part := contiguous va span
        afterStore n part.length c (copyStore n c (va c.lidx) (part.map c.byteAt) false s)

/-- A landing write of a CXR into the target core's OPM window (R265). -/
def landOpm (n : Nat) (c : Copy) (s : State) : State :=
  let va := c.args.xa.toNat + c.lidx
  let m := min (64 - va % 64) (c.total - c.lidx)
  match c.need (run c.lidx m) with
  | .failing i fc => s.freezeUnit n fc (c.unitAt i)
  | .later => s
  | .have_ bytes =>
    match copyWalk n c va true true s with
    | (.busy, s) => s
    | (.refused k, s) => s.freezeUnit n (fcauseOf k) (c.unitAt c.lidx)
    | (.at_ pa _ _, s) =>
      let o := opmOwner pa
      if o = 0 ∨ (c.args.row0 ≠ 0 ∧ c.args.row0 ≠ o) then s.freezeUnit n 6 (c.unitAt c.lidx)
      else
        let s := s.onCopy n fun c => { c with args := { c.args with row0 := o } }
        afterStore n m c (copyStore n c va bytes false s)

/-! ## Windows filled by a flow (R242, R243, R355) -/

/-- Bytes of a flow land in a window of a core, row after row; a row counts when it has landed whole. -/
def Core.flowLand (c : Core) (win : Nat) : Nat → List (BitVec 8) → Core
  | 0, _ => c
  | _ + 1, [] => c
  | k + 1, bytes =>
    let w := vget c.wins win Window.reset
    let m := min bytes.length (w.rowb - w.part)
    let a := w.rbase + w.rowb * (w.landed % w.slots) + w.part
    let full := w.part + m = w.rowb
    let c : Core := { c with
      spad := c.spad.store a (bytes.take m), spadBad := c.spadBad.filter fun b => b < a || a + m ≤ b }
    let c := c.modWin win fun w =>
      { w with part := if full then 0 else w.part + m, wm := if full then { w.wm with addr := w.wm.addr + 1 } else w.wm }
    if m = 0 then c else Core.flowLand c win k (bytes.drop m)

/-- The window is bound to the flow of a source (R355). -/
def Window.takes (w : Window) (src : FlowSource) : Bool := w.wm.act && w.flow == 2 && w.source == src

/-- Bytes of a remote flow reach a window of a core of this device: they land, or are refused. -/
def flowWrite (core : Nat) (win : Nat) (src : FlowSource) (bytes : List (BitVec 8)) (s : State) : Bool × State :=
  let w := vget (s.coreAt core).wins win Window.reset
  if w.takes src && w.landed < w.fetchable then (true, s.modCoreAt core fun c => c.flowLand win (bytes.length + 1) bytes)
  else (false, s)

/-- The target that x[XD] of a CXW names (R266). -/
def cxwTarget (v : BitVec 64) : WindowName := ⟨v.setWidth 6, v.extractLsb' 8 7, v.extractLsb' 16 3⟩

/-- The number under which a window write of a copy waits for its answer. -/
def windowKey : Nat := 2 ^ 60

/-- Credit of a channel for a window used up by bytes sent. -/
def Channel.spend (ch : Channel) (t : WindowName) (m : Nat) : Channel :=
  { ch with
    credits := ch.credits.map fun p => if p.1 = t then (t, p.2 - m) else p,
    sentTo := if ch.sentTo.contains t then ch.sentTo else t :: ch.sentTo }

/-- A write of a CXW (R266, R355, R356, R364): 64 bytes, once the channel holds credit for them. -/
def landWindow (n : Nat) (c : Copy) (s : State) : State :=
  let t := cxwTarget c.args.xa
  let src : FlowSource := ⟨s.devId, BitVec.ofNat 7 s.coreNo, BitVec.ofNat 3 n⟩
  let who := s.askerFor c
  let sent := (s.request .writeOnce who windowKey).isSome
  if !sent && (s.chan n).held t < 64 then s
  else if !sent && t.dev != s.devId && !s.mayMove 1 (s.copyClass c) then s.noteHold n c (some (8 + s.copyClass c))
  else
    match c.need (run c.lidx 64) with
    | .failing i fc => s.freezeUnit n fc (c.unitAt i)
    | .later => s
    | .have_ bytes =>
      if t.dev = s.devId then
        match flowWrite t.core.toNat t.win.toNat src bytes s with
        | (true, s) => (s.onChan n fun ch => ch.spend t 64).landedBytes n 64
        | (false, s) => s.freezeUnit n 4 c.args.xa.toNat
      else
        match ask .writeOnce who windowKey t.dev (.windowWrite t src bytes) s with
        | (.ready .., s) => s.landedBytes n 64
        | (.wait, s) =>
          if sent then s else ((s.onChan n fun ch => ch.spend t 64).move 1 (s.copyClass c) 64).noteHold n c none
        | (.fail k _, s) => s.freezeUnit n (fcauseOf k) c.args.xa.toNat

/-- A landing write of a CSCAN's entries into its window (R272); a failing line freezes it before the write that needs it. -/
def landScan (n : Nat) (c : Copy) (s : State) : State :=
  let w := vget s.core.wins c.args.win.toNat Window.reset
  let a := w.rbase + w.rowb * (w.landed % w.slots) + w.part
  let m := min (w.rowb - w.part) (64 - a % 64)
  let avail := (c.buf.filter fun p => c.lidx ≤ p.1).length
  if !w.wm.act || w.fetchable ≤ w.landed then s
  else if avail < m then
    match c.failed with
    | (line, fc) :: _ => s.freezeUnit n fc (128 * line)
    | [] => s
  else (s.modCore fun k => k.flowLand c.args.win.toNat (m + 1) ((run c.lidx m).map c.byteAt)).landedBytes n m

/-! ## Line operations and signals (R273, R277, R318) -/

/-- A write to another device that `start` sends on someone's behalf is waited for until home holds the data (log entry 118). -/
def untilHome (who : Asker) (pa : Nat) (start : State → Reply × State) (s : State) : Reply × State :=
  match s.request .writeOnce who pa with
  | some r => r.reply s
  | none => start s

/-- A CZIP that finds a line which may be compressed goes on with `store`. -/
def zipWith (c : Copy) (pa : Nat) (ca : BitVec 2) (store : BitVec 1024 → State → Reply × State) (s : State) : Reply × State :=
  match lineRead (s.askerFor c) pa ca c.args.asid s with
  | (.ready d p, s) => if compressible d then store d s else (.ready d p, s)
  | r => r

/-- CZIP on a line of HBM: a raw line that may be compressed is stored compressed, as a store of its own value, which is no poison
(R320); done when the store has reached home. At home, and for an uncached line of another device, the store takes the value that the
line has in its turn; a cached line of another device is owned first, with its data (R297, log entry 142). -/
def zipLine (c : Copy) (pa : Nat) (ca : BitVec 2) (s : State) : Reply × State :=
  let who := s.askerFor c
  let line := lineOf pa
  let home := devOf pa
  if home = s.devId then
    match s.request (.home true) who line with
    | some r => r.reply s
    | none =>
      if compressed (s.metaWord (localLine line)) && s.sliceState line != some .d then (.ready 0 false, s)
      else zipWith c pa ca (fun _ s => homeAccess (.home true) who line .zip (ca == 0) s) s
  else
    untilHome who pa (fun s =>
      let sent (r : Reply × State) : Reply × State :=
        match r with
        | (.ready .., s) => (.wait, s.awaits .writeOnce who pa home none)
        | r => r
      zipWith c pa ca (fun _ s =>
        if ca ≠ 0 then ask .writeOnce who pa home (.uncached home pa none 128 true) s
        else
          match remoteOwn line s with
          | (.ready d p, s) => if compressible d then sent (remoteStore who line d true s) else (.ready d p, s)
          | r => r) s) s

/-- CWB on a line: what this device's slice holds modified is written to home and kept clean; done when home holds the data. -/
def writeHome (c : Copy) (pa : Nat) (s : State) : Reply × State :=
  let who := s.askerFor c
  untilHome who pa (fun s =>
    match s.sliceLine (lineOf pa) with
    | none => (.ready 0 false, s)
    | some x =>
      let s' := cleanLine (lineOf pa) false s
      let r := rangeOf (localOf pa)
      if x.st == .tierD && s.portDown.contains (s.portOf r x.asid) then (.fail (portCause r) none, s)
      else if x.st != .m && x.st != .o then (.ready x.data x.poison, s')
      else
        match s.fabricCause (devOf pa) with
        | some k => (.fail k none, s)
        | none => (.wait, s'.awaits .writeOnce who pa (devOf pa) none)) s

/-- CINV on a line: as CWB, then the copy in this device's slice is dropped; a copy that an Upg holds is dropped after it (R314). -/
def dropLine (c : Copy) (pa : Nat) (s : State) : Reply × State :=
  let line := lineOf pa
  let r := rangeOf (localOf pa)
  match s.sliceLine line with
  | none => (.ready 0 false, s)
  | some x =>
    if x.st == .tierD && s.portDown.contains (s.portOf r x.asid) then (.fail (portCause r) none, s)
    else if x.st == .s && s.upgrading line then (.wait, s)
    else (.ready x.data x.poison, cleanLine line true s)

/-- A line done, not yet, or failed, as an attempt at it answers. -/
def Reply.outcome : Reply × State → CopyWrite × State
  | (.ready .., s) => (.done, s)
  | (.wait, s) => (.busy, s)
  | (.fail k _, s) => (.refused (fcauseOf k), s)

/-- A clean copy of a poisoned line that CPRF has fetched is not kept (R273). -/
def skipPoisoned (line : Nat) (s : State) : State :=
  if (s.sliceLine line).any fun x => x.poison && (x.st == .c || x.st == .s || x.st == .tierC) then evictLine line s else s

/-- The slice holds a line modified. -/
def State.modified (s : State) (line : Nat) : Bool :=
  match s.sliceState line with
  | some .d | some .m | some .o | some .tierD => true
  | _ => false

/-- A line operation moves the line (R345): CPRF one that the slice lacks, CWB and CINV one that it holds modified, CZIP any. -/
def State.opMoves (s : State) (c : Copy) (pa : Nat) : Bool :=
  match c.code with
  | 0x13 => true
  | 0x14 => (s.sliceLine (lineOf pa)).isNone
  | _ => s.modified (lineOf pa)

/-- One line of a line operation under the budget of its class: a line that it moves is held, and counted once done. -/
def budgeted (n : Nat) (c : Copy) (pa : Nat) (f : State → CopyWrite × State) (s : State) : CopyWrite × State :=
  if !s.opMoves c pa then f s
  else if !s.budgetOk c pa then (.busy, s.budgetHold n c pa)
  else
    match f s with
    | (.done, s) => (.done, s.budgetMove n c pa 128)
    | r => r

/-- One line of a line operation: done, or not yet, or a failure of a CZIP, CWB or CINV. -/
def lineOp (n : Nat) (c : Copy) (va : Nat) (s : State) : CopyWrite × State :=
  if c.code = 0x14 then
    match translateMarked (s.askerFor c) c.args.asid va true false s with
    | (.leaf pa ca disc, s) =>
      if disc || deviceAddr pa || ca != 0 || (devOf pa != s.devId && rangeOf (localOf pa) != .hbm) then (.done, s)
      else
        budgeted n c pa (fun s =>
          match lineRead (s.askerFor c) pa ca c.args.asid s with
          | (.wait, s) => (.busy, s)
          | (_, s) => (.done, skipPoisoned (lineOf pa) s)) s
    | (.wait, s) => (.busy, s)
    | (_, s) => (.done, s)
  else
    match copyWalk n c va (c.code == 0x13) true s with
    | (.busy, s) => (.busy, s)
    | (.refused k, s) => (.refused (fcauseOf k), s)
    | (.at_ pa ca disc, s) =>
      if disc || deviceAddr pa || ca == 2 || (ca != 0 && c.code != 0x13) then (.done, s)
      else if c.code = 0x13 then
        if rangeOf (localOf pa) != .hbm then (.done, s) else budgeted n c pa (fun s => Reply.outcome (zipLine c pa ca s)) s
      else budgeted n c pa (fun s => Reply.outcome (if c.code = 0x15 then writeHome c pa s else dropLine c pa s)) s

/-- The next line of a line operation. -/
def landLine (n : Nat) (c : Copy) (s : State) : State :=
  let va := (regionLines c.args.desc c.args.coord c.args.ext).getD (c.lidx / 128) 0 * 128
  match lineOp n c va s with
  | (.done, s) => s.landedBytes n 128
  | (.busy, s) => s
  | (.refused fc, s) => s.freezeUnit n fc va

/-- The store of a CSIG: what it releases has performed when it becomes current (R230, R277, R324); what host
agents are to see is sent first (R55). -/
def landSignal (n : Nat) (c : Copy) (s : State) : State :=
  let s := match c.op with | .c _ (.kg f) => if hostScope f.scope then flushHost s else s | _ => s
  afterStore n c.total c (copyStore n c c.args.xa.toNat (leBytes c.total c.args.xb.toNat) false s)

/-- A copy that a CABT ends has no landing write in flight (R271). -/
def State.copyEnds (s : State) (c : Copy) : Bool := c.ending && !s.storing (s.askerFor c)

/-- The next landing write of a channel's current copy. -/
def landNext (n : Nat) (s : State) : State :=
  match (s.chan n).cur with
  | none => s
  | some c =>
    if !(s.chan n).runs || s.copyEnds c then s
    else if c.code = 0x12 then (if c.closed && c.total ≤ c.lidx then s else landScan n c s)
    else if c.total ≤ c.lidx then s
    else if c.toTensor then landTensor n c s
    else if c.onLines then landLine n c s
    else if c.isFetch then landFetch n c s
    else
      match c.code with
      | 0x04 => landOpm n c s
      | 0x05 => landWindow n c s
      | 0x17 | 0x18 => s
      | 0x19 => landSignal n c s
      | _ => landScratch n c s

/-- COPY_LANDING_WRITE (R234, R247): the channel's landing sequencer lands its next write, or freezes at it. -/
def execCopyLandingWrite (ch : BitVec 3) (s : State) : Out := .next (landNext ch.toNat s)

/-! ## Completion (R232, R275, R276) -/

/-- A channel holds an operation issued before number `num`. -/
def Channel.earlier (ch : Channel) (num : Nat) : Bool := (ch.cur.any fun c => c.num < num) || ch.queue.any fun c => c.num < num

/-- The current copy of channel `n` may complete. -/
def completes (n : Nat) (c : Copy) (s : State) : Bool :=
  match c.op with
  | .c 0x17 _ => true
  | .c 0x18 (.km f) => (List.range 8).all fun k => k == n || !f.mask.getLsbD k || !(s.chan k).earlier c.num
  | .c 0x12 _ => c.closed && c.total ≤ c.lidx
  | _ => c.total ≤ c.lidx

/-- COPY_COMPLETE (R232): the channel's current copy completes and the next begins; one that a CABT ends does so without completing
(R271). -/
def execCopyComplete (ch : BitVec 3) (s : State) : Out :=
  let n := ch.toNat
  match (s.chan n).cur with
  | none => .next s
  | some c =>
    if s.copyEnds c then .next ((s.dropAsker (s.askerFor c)).modCore fun k => k.abortChan n)
    else if (s.chan n).runs && completes n c s then
      .next (s.onChan n fun h =>
        ({ h with wm := if c.tracks then { h.wm with addr := BitVec.ofNat 22 c.hi } else h.wm } : Channel).finish)
    else .next s

/-! ## CLDM and CSCAN (R274, R294, R295) -/

/-- A line's metadata word read at its home, in the line's queue (R335); poison stands for an uncorrectable word at another device. -/
def wordRead (who : Asker) (pa : Nat) (s : State) : Reply × State :=
  if devOf pa = s.devId then homeAccess (.home false) who (lineOf pa) .word false s
  else ask .metadata who (lineOf pa) (devOf pa) (.metaRead (devOf pa) (lineOf pa)) s

/-- METADATA_READ (R274, R335): a line's metadata word is read at its home for the channel's CLDM, in the line's queue. -/
def execMetadataRead (ch : BitVec 3) (s : State) : Out :=
  let n := ch.toNat
  match (s.chan n).cur with
  | none => .next s
  | some c =>
    if c.code ≠ 0x1A || !(s.chan n).runs then .next s
    else
      let lines := regionLines c.args.desc c.args.coord c.args.ext
      let (k, s) := chooseFrom (lines.length - c.lidx / 4) (fun k => c.outstanding (4 * (c.lidx / 4 + k))) s
      let j := c.lidx / 4 + k.getD 0
      let idx := run (4 * j) 4
      let give (w : BitVec 32) (s : State) : Out :=
        .next (s.onCopy n fun c => c.takeUnit idx (.bytes (idx.map fun i => (i, w.extractLsb' (8 * (i % 4)) 8))))
      let fail (fc : BitVec 4) (s : State) : Out := .next (s.onCopy n fun c => c.takeUnit idx (.fails fc))
      if c.has (4 * j) || (c.failOf (4 * j)).isSome || lines.length ≤ j then .next s
      else
        match copyWalk n c (lines.getD j 0 * 128) false true s with
        | (.busy, s) => .next s
        | (.refused k, s) => fail (metaFcause k) s
        | (.at_ pa _ _, s) =>
          if rangeOf (localOf pa) ≠ .hbm then give 0xFFFFFFFF s
          else if !s.budgetOk c pa then .next (s.budgetHold n c pa)
          else
            match wordRead (s.askerFor c) pa s with
            | (.ready w false, s) => give (w.setWidth 32) (s.budgetMove n c pa 4)
            | (.ready _ true, s) => fail 3 s
            | (.wait, s) => .next s
            | (.fail k _, s) => fail (metaFcause k) s

/-- A value of an element format as a number, none for a NaN; infinities as the format orders them. -/
def scanValue (efmt : Nat) (bits : Nat) : Option Rat :=
  let ieee (w e : Nat) : Option Rat :=
    let m := w - 1 - e
    let bias : Int := 2 ^ (e - 1) - 1
    let x := bits / 2 ^ m % 2 ^ e
    let f := bits % 2 ^ m
    let sgn : Rat := if bits / 2 ^ (w - 1) % 2 = 1 then -1 else 1
    if x = 2 ^ e - 1 then (if f = 0 then some (sgn * 2 ^ (2 ^ e)) else none)
    else if x = 0 then some (sgn * f * (2 : Rat) ^ (1 - bias - m))
    else some (sgn * (2 ^ m + f : Nat) * (2 : Rat) ^ ((x : Int) - bias - m))
  match efmt with
  | 0 => ieee 32 8
  | 2 => ieee 16 8
  | 3 => ieee 16 5
  | 6 => some (signedNat 32 bits)
  | 7 => some (signedNat 16 bits)
  | _ => some (signedNat 8 bits)

/-- The test of a CSCAN (R272): a NaN passes only .NE. -/
def scanTest (cmp efmt x t : Nat) : Bool :=
  match scanValue efmt x, scanValue efmt t with
  | some a, some b =>
    match cmp with
    | 0 => b < a
    | 1 => b ≤ a
    | 2 => b < |a|
    | _ => a != b
  | _, _ => cmp == 3

/-- An 8-byte entry of a scan. -/
def scanEntry (w0 w1 : Nat) : List (BitVec 8) := leBytes 4 w0 ++ leBytes 4 w1

/-- One past the last result byte that a scan has put. -/
def Copy.bufEnd (c : Copy) : Nat := match c.buf.getLast? with | some p => p.1 + 1 | none => c.lidx

/-- A scan's results grow by bytes; the next element follows. -/
def Copy.put (c : Copy) (bytes : List (BitVec 8)) (next : Nat) : Copy :=
  { c with buf := c.buf ++ (bytes.zipIdx.map fun p => (c.bufEnd + p.2, p.1)), args := { c.args with row0 := next } }

/-- The end entry, and 0xFF bytes to the end of its row of `rowb` bytes, of which `part` have been landed (R272). -/
def Copy.close (c : Copy) (rowb part : Nat) : Copy :=
  let n := c.bufEnd
  let c := c.put (scanEntry 0xFFFFFFFF (n / 8)) c.args.row0
  let at_ := part + (c.bufEnd - c.lidx)
  let pad := if rowb = 0 then 0 else (rowb - at_ % rowb) % rowb
  let c := c.put (List.replicate pad 0xFF) c.args.row0
  { c with closed := true, total := c.bufEnd }

/-- Elements `e` to `e + m − 1` of a line scanned. -/
def scanLine (c : Copy) (cmp e m : Nat) (byte : Nat → BitVec 8) : Copy :=
  let sz := TDesc.esz c.args.desc
  let bytes := (run e m).flatMap fun j =>
    let x := leNat ((List.range sz).map fun k => byte (j * sz + k))
    if scanTest cmp (TDesc.efmt c.args.desc) x (c.args.xa.toNat % 2 ^ (8 * sz)) then scanEntry (j % 2 ^ 31) x else []
  c.put bytes (e + m)

/-- The lines of a scan from element `e` of `count` on, each as its first element and its number of elements; an element belongs to the
line of its first byte. -/
def scanSegs (va : Nat → Nat) (sz count : Nat) : Nat → Nat → List (Nat × Nat)
  | 0, _ => []
  | k + 1, e =>
    if count ≤ e then []
    else
      let m := ((run e (min 128 (count - e))).takeWhile fun j => va (j * sz) / 128 == va (e * sz) / 128).length
      (e, m) :: scanSegs va sz count k (e + max 1 m)

/-- The address of a byte of a scan's tensor. -/
def Copy.scanVa (c : Copy) (i : Nat) : Nat := regionVa c.args.desc c.args.coord c.args.ext i

/-- The lines that a scan has still to put into its results. -/
def Copy.scanLeft (c : Copy) : List (Nat × Nat) :=
  let count := c.args.ext.foldl (· * ·) 1
  scanSegs c.scanVa (TDesc.esz c.args.desc) count (count - c.args.row0) c.args.row0

/-- The lines, as addresses over 128, that the elements of a segment lie in: one, or two where the last element lies in both. -/
def Copy.segLines (c : Copy) (e m : Nat) : List Nat :=
  let a := c.scanVa (e * TDesc.esz c.args.desc) / 128
  let b := c.scanVa ((e + m) * TDesc.esz c.args.desc - 1) / 128
  if a = b then [a] else [a, b]

/-- The lines that the elements left to a scan lie in, in their order. -/
def Copy.scanLines (c : Copy) : List Nat := c.scanLeft.flatMap fun p => c.segLines p.1 p.2

/-- The read of a line noted: a failure, or its data, none where it stays unscanned. -/
def Copy.noteLine (line : Nat) (fc : BitVec 4) (data : Option (BitVec 1024)) (c : Copy) : Copy :=
  { c with lines := ⟨line, fc, data⟩ :: c.lines }

/-- What a scan has read of a line. -/
def Copy.readLine (c : Copy) (line : Nat) : Option ScanRead := c.lines.find? fun r => r.line == line

/-- An unscanned entry for `m` elements from `e` on (R272). -/
def Copy.putUnscanned (c : Copy) (e m : Nat) : Copy := c.put (scanEntry (2 ^ 31 + e % 2 ^ 31) m) (e + m)

/-- The scan's next line, where what its elements lie in has been read, put into the results: a failure, an unscanned entry, or what the
elements give; after the last line the end entry. DESIGN CHOICE: of an element that lies in two lines, of which the second alone is
unscanned, an entry of its own says so (log entry 137). -/
def Copy.drainLine (cmp rowb part : Nat) (c : Copy) : Copy :=
  match c.scanLeft with
  | [] => c.close rowb part
  | (e, m) :: _ =>
    let ls := c.segLines e m
    let rs := ls.filterMap c.readLine
    if rs.length < ls.length then c
    else
      match rs.find? fun r => r.fcause != 0 with
      | some r => { c with failed := [(r.line, r.fcause)] }
      | none =>
        let sz := TDesc.esz c.args.desc
        let byte (i : Nat) : BitVec 8 := match (c.readLine (c.scanVa i / 128)).bind (·.data) with
          | some d => d.extractLsb' (8 * (c.scanVa i % 128)) 8
          | none => 0
        let open_ (i : Nat) : Bool := ((c.readLine (c.scanVa i / 128)).bind (·.data)).isNone
        let c' : Copy :=
          if open_ (e * sz) then c.putUnscanned e m
          else if open_ ((e + m) * sz - 1) then (scanLine c cmp e (m - 1) byte).putUnscanned (e + m - 1) 1
          else scanLine c cmp e m byte
        let next := match c'.scanLeft with | p :: _ => c'.segLines p.1 p.2 | [] => []
        { c' with lines := c'.lines.filter fun r => next.contains r.line || !ls.contains r.line }

/-- A line of a CSCAN of channel `n` read at home, in the line's queue (R294, R295): the slice's modified copy, DRAM in home state I or S,
after a Recall in E; in M and O it stays unscanned. -/
def scanRead (n : Nat) (c : Copy) (at_ : Nat) (s : State) : State :=
  let note (fc : BitVec 4) (d : Option (BitVec 1024)) (s : State) : State := s.onCopy n (Copy.noteLine at_ fc d)
  match copyWalk n c (128 * at_) false true s with
  | (.busy, s) => s
  | (.refused k, s) => note (fcauseOf k) none s
  | (.at_ _ _ true, s) => note 0 (some 0) s
  | (.at_ pa _ false, s) =>
    if devOf pa ≠ s.devId ∨ rangeOf (localOf pa) ≠ .hbm then note 6 none s
    else if !s.budgetOk c pa then s.budgetHold n c pa
    else
      match homeAccess (.home false) (s.askerFor c) (lineOf pa) .scan false s with
      | (.ready d p, s) => note (if p then 2 else 0) (some d) (s.budgetMove n c pa 128)
      | (.wait, s) => s
      | (.fail 0 _, s) => note 0 none s
      | (.fail k _, s) => note (fcauseOf k) none s

/-- GANDER_SCAN (R294, R295): a line of the channel's CSCAN that has not been read, openly chosen, is read; reads of different lines
are unordered, their results follow the elements. -/
def execGanderScan (ch : BitVec 3) (s : State) : Out :=
  let n := ch.toNat
  match (s.chan n).cur with
  | none => .next s
  | some c =>
    match c.op with
    | .c 0x12 (.kc f) =>
      if c.closed || !c.failed.isEmpty || !(s.chan n).runs then .next s
      else
        let lines := c.scanLines
        let s := match chooseFrom lines.length (fun i => (c.readLine (lines.getD i 0)).isNone) s with
          | (some i, s) => scanRead n c (lines.getD i 0) s
          | (none, s) => s
        let w := vget s.core.wins c.args.win.toNat Window.reset
        .next (s.onCopy n (Copy.drainLine f.cmp.toNat w.rowb w.part))
    | _ => .next s

/-! ## Flows from other devices (R265, R355, R356) -/

/-- CREDIT_GRANT (R356): credit for rows of a window reaches the sending channel. -/
def execCreditGrant (ch : BitVec 3) (target : WindowName) (rows : Nat) (rowb : BitVec 16) (s : State) : Out :=
  .next (s.onChan ch.toNat fun c => c.credit target (rows * rowb.toNat))

/-- REMOTE_FLOW_WRITE (R355): bytes of a CXW of another device reach a window of the core in focus, and land or are refused,
as they are from a device that this one does not answer (R352); outside a domain the device answers nothing (R351). -/
def execRemoteFlowWrite (w : BitVec 3) (src : FlowSource) (bytes : List (BitVec 8)) (s : State) : Out :=
  match (if s.admits src.dev then flowWrite s.coreNo w.toNat src bytes s else (false, s)) with
  | (true, s) => .next s
  | (false, s) => .next (if s.inDomain then s.send (.refused src ⟨s.devId, BitVec.ofNat 7 s.coreNo, w⟩) else s)

/-- REMOTE_OPM_WRITE (R265, R285, R354): bytes of a CXR of another device land in a core's OPM window, after that device's earlier accesses
of device memory, or are refused (R352). -/
def execRemoteOpmWrite (core : RemoteCore) (off : BitVec 26) (bytes : List (BitVec 8)) (s : State) : Out :=
  let k := core.core.toNat
  let la := 0x3F0000000000 + k * 2 ^ 26 + off.toNat
  .next (if !s.admits core.dev then s.turnAway core.dev (lineBase s.devId + la / 128)
    else if s.hostOps.any (·.dev == some core.dev) then
      { s with hostOps := s.hostOps ++ [⟨some core.dev, 0, la, bytes.length, some bytes⟩] }
    else s.opmWrite k off.toNat bytes)

/-- REFUSED_WRITE (R355): the channel's CXW freezes with FCAUSE 4. -/
def execRefusedWrite (ch : BitVec 3) (s : State) : Out :=
  let n := ch.toNat
  match (s.chan n).cur with
  | some c =>
    if c.code = 0x05 ∧ (s.chan n).runs ∧ (s.request .writeOnce (s.askerFor c) windowKey).isSome then
      .next ((s.dropRequest .writeOnce (s.askerFor c) windowKey).freezeUnit n 4 c.args.xa.toNat)
    else .next s
  | none => .next s

end Sys2Proof.Machine
end

