-- ==== Sys2Proof/Machine/Coherence.lean ====
section
/-! DEFINITION. The coherence messages that reach this device as home and as holder, evictions, the rebuild of a metadata word,
uncached accesses of other devices, layer migration and demotion (spec/21 R312 to R324; spec/19 R292, R299 to R301; spec/25 R352). -/
namespace Sys2Proof.Machine

/-! ## Requests of other devices (R317, R352) -/

/-- A line of this device's HBM. -/
def State.homeLine (s : State) (line : Nat) : Bool := devOf (128 * line) == s.devId && rangeOf (localOf (128 * line)) == .hbm

/-- A request of another device joins the line's queue. -/
def homeRequest (y : BitVec 6) (line : Nat) (e : HomeEvent) (s : State) : State :=
  if !s.admits y then s.turnAway y line else if s.homeLine line then s.enqueueTx line e else s

/-- RDS (R317). -/
def execRds (y : BitVec 6) (line : Nat) (s : State) : Out := .next (homeRequest y line (.rds y) s)
/-- RDX (R317). -/
def execRdx (y : BitVec 6) (line : Nat) (full : Bool) (s : State) : Out := .next (homeRequest y line (.rdx y full) s)
/-- UPG (R317). -/
def execUpg (y : BitVec 6) (line : Nat) (s : State) : Out := .next (homeRequest y line (.upg y) s)

/-- WBD (R315, R317, R318, R320): the recorded owner's data goes to DRAM, with Z as the sector of a compressed line, whatever it
holds (R296); from any other device it is dropped. -/
def execWbd (x : BitVec 6) (line : Nat) (keep z poison : Bool) (data : BitVec 1024) (s : State) : Out :=
  let l := localLine line
  let w := s.metaWord l
  let h := hst w
  if !s.admits x then .next (s.turnAway x line)
  else if !s.homeLine line || h < 2 || own w != x then .next s
  else
    let s := if z then s.setSector l data else s.setDram l data false
    let w := s.metaWord l
    let w := match keep, h with
      | false, 4 => wordState w 1 0 (shr w)
      | false, _ => wordState w 0 0 0
      | true, 4 => wordState w 1 0 (shr w ||| s.shrBit x)
      | true, _ => wordState w 2 x 0
    .next ((s.setMeta l (wordPoison w poison)).monTouch line)

/-- EVC (R317): the owner drops an E copy. -/
def execEvc (x : BitVec 6) (line : Nat) (s : State) : Out :=
  let l := localLine line
  let w := s.metaWord l
  if !s.admits x then .next (s.turnAway x line)
  else .next (if s.homeLine line && hst w == 2 && own w == x then s.setMeta l (wordState w 0 0 0) else s)

/-- ACK (R317, R321, R351): a holder answers an Inv or a Recall of the line's transaction, which was sent under the configuration that it
met. One that owes both answers the Inv first (R316). An owner that no longer holds the line has written it back or dropped it (R315). -/
def execAck (x : BitVec 6) (line : Nat) (dirty notHeld : Bool) (data : Option (BitVec 1024)) (s : State) : Out :=
  match s.homeTx.find? fun t => t.line == line && t.active with
  | none => .next s
  | some t =>
    let shares := t.invs.contains x
    let owner := !shares && t.owes == some x
    if !shares && !owner then .next s
    else
      let w := s.metaWord (localLine line)
      let brings := dirty && (owner || t.event == .rebuild)
      let t' : HomeTx :=
        { t with
          invs := t.invs.filter (· != x), owes := if owner then none else t.owes,
          dirty := t.dirty || brings, data := if brings && data.isSome then data else t.data,
          dead := t.dead || (owner && notHeld && 2 ≤ hst w && own w == x) }
      .next (settleTx t' (s.setTx t t'))

/-! ## Messages to a holder (R313, R314, R317) -/

/-- INV (R313): the S copy is dropped; a device without one answers as well. -/
def execInv (line : Nat) (s : State) : Out :=
  let home := devOf (128 * line)
  if !s.admits home then .next (s.turnAway home line)
  else
    let s := if s.sliceState line = some .s then (s.dropSlice line).monTouch line else s
    .next (s.send (.ack home line false false none))

/-- RECALL (R317): the owner keeps an S copy (O where it was modified and the data is forwarded) or drops its copy, forwards the data
where home names a requester, and says whether the copy was modified; any other copy goes where K = 0, and is not held. Data forwarded
to this device itself, an O holder that asked for ownership, makes its copy the owned one. Poisoned data that is to come home comes as a
WbD with P, since an Ack has none (R320, log entry 140). -/
def execRecall (line : Nat) (keep : Bool) (fwd : Option (BitVec 6)) (s : State) : Out :=
  let home := devOf (128 * line)
  if !s.admits home then .next (s.turnAway home line)
  else
    match s.sliceLine line with
    | none => .next (s.send (.ack home line false true none))
    | some x =>
      let dirty := x.st == .m || x.st == .o
      if !dirty && x.st != .e then
        .next ((if keep then s else (s.dropSlice line).monTouch line).send (.ack home line false true none))
      else if dirty && x.poison && fwd.isNone then
        .next ((((s.dropSlice line).monTouch line).send (.wbd home line false false true x.data)).send (.ack home line false true none))
      else if fwd = some s.devId then
        let s := { s with requests := s.requests.filter fun r => !(r.wanting && r.line == line) }
        .next ((s.setSlice { x with st := if dirty then .m else .e }).send (.ack home line dirty false none))
      else
        let s := if keep then s.setSlice { x with st := if dirty && fwd.isSome then .o else .s } else s.dropSlice line
        let s := s.monTouch line
        let s := match fwd with
          | some y => s.send (.dat y line (if keep then .s else if dirty then .m else .e) x.poison false x.data)
          | none => s
        .next (s.send (.ack home line dirty false (if dirty && fwd.isNone then some x.data else none)))

/-- The holder state of a grant. -/
def grantState : Grant → SliceState
  | .s => .s | .e => .e | .m => .m

/-- The first request that meets a test takes an answer. -/
def answerFirst (f : Request → Bool) (a : BitVec 1024 × Bool) : List Request → List Request
  | [] => []
  | r :: rs => if f r && r.open_ then { r with answer := some a } :: rs else r :: answerFirst f a rs

/-- A line granted to this device for a copy that it asked for: the copy is placed; a line to be written whole is written (R318), which
answers the one that asked. -/
def takeGrant (r : Request) (x : SliceLine) (s : State) : State :=
  match r.store with
  | some (d, z) =>
    let s := { s with requests := s.requests.map fun q => if q = r then { q with answer := some (0, false) } else q }
    s.storeWhole r.line d z
  | none => { s with requests := s.requests.filter (· != r) }.fillSlice x

/-- DAT (R317, R318): data arrives with a grant for a copy that this device asked for, as a compressed sector or raw; or it answers an
uncached read of the line, or the read of its metadata word. -/
def execDat (line : Nat) (grant : Grant) (poison : Bool) (body : DatBody) (s : State) : Out :=
  let d := body.data
  let answer (k : ReqKind) : Out :=
    .next { s with requests := answerFirst (fun r => r.kind == k && r.line == line) (d, poison) s.requests }
  match body.form with
  | .plain => answer .readOnce
  | .word => answer .metadata
  | form =>
    match s.requests.find? fun r => r.wanting && r.line == line with
    | some r => .next (takeGrant r ⟨line, grantState grant, if form = .sector then unpackLine d else d, poison, 0⟩ s)
    | none => .next s

/-- CMP (R317): ownership without data for an Upg, whose copy becomes E or M, a poisoned one M, so that its poison reaches home (log
entry 143); or for a line to be written whole. Grant S stands for none: an uncached or window write has performed (log entry 118), as
does one that no request for a copy meets. -/
def execCmp (line : Nat) (grant : Grant) (s : State) : Out :=
  let done : Out := .next { s with
    requests := answerFirst (fun r => r.kind == .writeOnce && (r.line == line || r.line / 128 == line)) (0, false) s.requests }
  match grant, s.requests.find? (fun r => r.wanting && r.line == line), s.sliceLine line with
  | .s, _, _ => done
  | _, none, _ => done
  | g, some r, some x => .next (takeGrant r { x with st := if x.poison then .m else grantState g } s)
  | g, some r, none =>
    if r.store.isSome then .next (takeGrant r ⟨line, grantState g, 0, false, 0⟩ s)
    else
      let (d, s) := s.openValue 1024
      .next (takeGrant r ⟨line, grantState g, d, false, 0⟩ s)

/-! ## Accesses at home (R317) -/

/-- HOME_LOCAL_READ (R317): the home slice takes a clean copy. -/
def execHomeLocalRead (line : Nat) (s : State) : Out :=
  .next (if s.homeLine line && (s.sliceLine line).isNone then s.enqueueTx line .localRead else s)

/-- HOME_LOCAL_WRITE (R317): the home slice takes the line in state D. -/
def execHomeLocalWrite (line : Nat) (s : State) : Out := .next (if s.homeLine line then s.enqueueTx line .localWrite else s)

/-- The failure that an access of the CXL tier or the host window meets here (R369, R370). -/
def State.tierCause (s : State) (r : Range) (line : Nat) : Option (BitVec 8) :=
  if s.portDown.contains (s.portOf r 0) || s.tierBad.contains (localLine line) then some (portCause r) else none

/-- UNCACHED_READ (R317, R288, R283): another device reads bytes at their home; a read of device memory waits its turn among the
accesses of that device. -/
def execUncachedRead (y : BitVec 6) (line : LineSpan) (s : State) : Out :=
  let addr := line.addr
  let n := line.n
  let line := lineOf addr
  let la := localOf addr
  if !s.admits y then .next (s.turnAway y line)
  else if devOf addr != s.devId then .next s
  else
    match rangeOf la with
    | .hbm => .next (s.enqueueTx line (.uncachedRead y))
    | .opm | .control => .next { s with hostOps := s.hostOps ++ [⟨some y, 0, la, n, none⟩] }
    | .unassigned => .next s
    | r =>
      match s.sliceLine line, s.tierCause r line with
      | some x, _ => .next (s.send (.uncachedData y line x.poison x.data))
      | none, some c => .next (s.send (.denied y line c))
      | none, none => .next (s.send (.uncachedData y line (s.tierPoison.contains (localLine line)) (s.tierData r (localLine line))))

/-- UNCACHED_WRITE (R317, R318, R288, R354): another device writes at the home of an address; of device memory in the order of that
device's accesses. No bytes with Z ask home to compress the line as it stands (R273). -/
def execUncachedWrite (y : BitVec 6) (addr : Nat) (bytes : WriteBody) (s : State) : Out :=
  let z := bytes.z
  let bytes := bytes.bytes
  let line := lineOf addr
  let la := localOf addr
  if !s.admits y then .next (s.turnAway y line)
  else if devOf addr != s.devId then .next s
  else
    match rangeOf la with
    | .hbm => .next (s.enqueueTx line (.uncachedWrite y addr bytes z))
    | .opm | .control => .next { s with hostOps := s.hostOps ++ [⟨some y, 0, la, bytes.length, some bytes⟩] }
    | .unassigned => .next s
    | r =>
      match s.sliceLine line, s.tierCause r line with
      | some _, _ => .next (s.pokeSlice line (addr % 128) bytes)
      | none, some c => .next (s.send (.denied y line c))
      | none, none =>
        let s := (s.setTier r (s.portOf r 0) la bytes).monTouch line
        .next (if bytes.length = 128 then s.poisonTier (localLine line) false else s)

/-- HOME_SLICE_EVICT (R317): the home slice gives up a line; a modified one goes to DRAM raw. -/
def execHomeSliceEvict (line : Nat) (s : State) : Out := .next (if s.homeLine line then evictLine line s else s)

/-- SLICE_EVICTION (R288, R314): a slice gives up a line of another device or of a tier; an S copy stays while an Upg is
outstanding. -/
def execSliceEviction (line : Nat) (s : State) : Out := .next (if s.homeLine line then s else evictLine line s)

/-! ## The rebuild of a metadata word (R321) -/

/-- Bytes that a firmware engine of a class moves in this device's HBM may be moved now (R345). -/
def State.mayRepair (s : State) : Bool := s.mayMove 0 5

/-- The other devices of the domain that can be reached. -/
def State.reached (s : State) : List (BitVec 6) :=
  if s.inDomain then ((List.range 64).map (BitVec.ofNat 6)).filter fun d => d != s.devId && (s.fabricCause d).isNone else []

/-- METADATA_REBUILD (R321), under the repair budget: firmware recalls the line from every device of the domain and from the home slice;
what comes back makes the line. -/
def execMetadataRebuild (line : Nat) (s : State) : Out :=
  if !s.homeLine line || !s.mayRepair || !s.metaError (localLine line) || s.homeTx.any (fun t => t.line == line && t.active) then .next s
  else
    let others := s.reached
    let t : HomeTx := ⟨line, .rebuild, others, none, none, false, none, false, true, s.tick + s.tmo⟩
    let s := others.foldl (fun s d => s.send (.recall d line false none)) { (s.move 0 5 128) with homeTx := t :: s.homeTx }
    .next (settleTx t s)

/-! ## Layer migration (R291 to R293, R380) -/

/-- The number under which errors that span rows are counted (R291): past the rows of a layer. -/
def spanRow : Nat := 2 ^ 20

/-- A failing layer of a stack: one with 16 lasting rows, or with a lasting error that spans rows (R291). -/
def failingLayer (r : Repair) : Option Nat :=
  (List.range 16).find? fun l => r.lasting.contains (l, spanRow) || 16 ≤ (r.lasting.filter fun p => p.1 == l).length

/-- LAYER_MIGRATION (R292, R293): firmware begins to migrate a failing layer, moves its next row of 4 KiB under the repair
budget, or notes a further one; the last row ends it (log entry 28 for the number of rows). -/
def execLayerMigration (stack : BitVec 3) (s : State) : Out :=
  let r := vget s.repairs stack.toNat ⟨0, 0, 0, [], []⟩
  let put (r : Repair) (s : State) : State := { s with repairs := vset s.repairs stack.toNat r }
  match r.state.toNat with
  | 0 =>
    match failingLayer r with
    | some l => .next (put { r with state := 1, layer := BitVec.ofNat 4 l, bound := 0 } s)
    | none => .next s
  | 1 =>
    if !s.mayRepair then .next s
    else if r.bound = BitVec.allOnes 20 then
      .next (((put { r with state := 2 } s).move 0 5 4096).logError 3 0 (stack.setWidth 16) (r.layer.setWidth 64))
    else .next ((put { r with bound := r.bound + 1 } s).move 0 5 4096)
  | 2 =>
    match failingLayer { r with lasting := r.lasting.filter fun e => e.1 != r.layer.toNat } with
    | some _ => .next (put { r with state := 3 } s)
    | none => .next s
  | _ => .next s

/-! ## Demotion (R299 to R301) -/

/-- The 256 KiB frames of a page. -/
def PageOwner.frames (o : PageOwner) : Nat := 2 ^ (levelShift o.level - 18)

/-- A frame lies in a page. -/
def PageOwner.covers (o : PageOwner) (frame : Nat) : Bool := o.frame ≤ frame && frame < o.frame + o.frames

/-- Lines of a page, as lines of this device. -/
def State.pageLines (s : State) (o : PageOwner) : List Nat := run (lineBase s.devId + o.frame * 2048) (2048 * o.frames)

/-- Firmware as the one that moves a page. -/
def PageOwner.asker (o : PageOwner) : Asker := .front (2 ^ 20 + 64 * o.frame)

/-- Firmware as the one that has another device drop a page. -/
def PageOwner.tells (o : PageOwner) (d : BitVec 6) : Asker := .front (2 ^ 20 + 64 * o.frame + 1 + d.toNat)

/-- Firmware's write of a page-table word of this device (R301), which performs at home: bits cleared and set; true once it has. -/
def pokeEntry (who : Asker) (pa : Nat) (clear set : BitVec 64) (s : State) : Bool × State :=
  match homeAccess (.home true) who (lineOf pa) (.mark (pa % 128) clear set) false s with
  | (.ready .., s) => (true, s)
  | (_, s) => (false, s)

/-- The clock hand over a tier's pages from `hand`: those passed over lose their access bit; the first page without one is the
victim (R300). -/
def sweep (access : List Nat) : List Nat → List Nat × Option Nat
  | [] => (access, none)
  | p :: ps => if access.contains p then sweep (access.filter (· != p)) ps else (access, some p)

/-- No access of a core that was translated through a page's entry is still to perform (R308). -/
def Core.leaves (c : Core) (dev : BitVec 6) (o : PageOwner) : Bool :=
  (c.bankA.accesses ++ c.bankB.accesses).all fun a =>
    match a.phase with
    | .ready pa _ => devOf pa != dev || !o.covers (localOf pa / 2 ^ 18)
    | _ => true

/-- No access of this device through a page's entry is still to perform. -/
def State.leaves (s : State) (o : PageOwner) : Bool :=
  s.core.leaves s.devId o && (s.others.all fun p => p.2.leaves s.devId o) &&
    s.requests.all fun r => r.kind != .port || !o.covers (localLine r.line / 2048)

/-- A page replaced in the list of those that move. -/
def State.setMove (s : State) (m m' : Move) : State := { s with moving := s.moving.map fun x => if x = m then m' else x }

/-- Steps 1 and 2 of R301: the page's entry is marked as migrating; this device's translation caches drop it, and the other devices of the
domain are to. -/
def markPage (m : Move) (s : State) : State :=
  let o := m.page
  match pokeEntry o.asker o.pteAddr (1#64 <<< 63) (1#64 <<< 53) s with
  | (false, s) => s
  | (true, s) =>
    { (s.setMove m { m with marked := true, invalid := s.reached.map fun d => (d, 0) }) with
      tlb := s.tlb.filter fun x => !(o.covers ((x.pte.extractLsb' 18 28).toNat) && x.pte.extractLsb' 46 6 == s.devId) }

/-- Another device drops the page (R301, R308): its XINVA is written, then its XINVC, then it is asked until BUSY is 0; one that cannot be
reached is passed over. -/
def tellDevice (m : Move) (d : BitVec 6) (step : Nat) (s : State) : State :=
  let o := m.page
  let who := o.tells d
  let pa (off : Nat) : Nat := d.toNat * 2 ^ 46 + 0x3E0000210000 + off
  let go (n : Option Nat) (s : State) : State :=
    { s with moving := s.moving.map fun x =>
        if x.page = o then { x with invalid := x.invalid.filterMap fun p => if p.1 = d then n.map fun n => (d, n) else some p } else x }
  let write (off : Nat) (w : BitVec 64) : Reply × State :=
    ask .writeOnce who (pa off) d (.uncached d (pa off) (some (leBytes 8 w.toNat)) 8 false) s
  match step with
  | 0 =>
    match write 0 (BitVec.ofNat 64 (o.va / 2 ^ 18 * 2 ^ 18)) with
    | (.ready .., s) => go (some 1) s
    | (.wait, s) => s
    | (.fail .., s) => go none s
  | 1 =>
    match write 8 ((1#64 <<< 63) ||| BitVec.ofNat 64 (2 * 256 + o.asid.toNat)) with
    | (.ready .., s) => go (some 2) s
    | (.wait, s) => s
    | (.fail .., s) => go none s
  | _ =>
    match ask .readOnce who (lineOf (pa 8)) d (.uncached d (pa 8) none 8 false) s with
    | (.ready w _, s) => go (if (BitVec.ofNat 64 (leNat (peekLine w (pa 8 % 128) 8))).getLsbD 62 then some 2 else none) s
    | (.wait, s) => s
    | (.fail .., s) => go none s

/-- Step 3 of R301 for a line: this device's copy is written back and dropped, copies of other devices are recalled. -/
def recallLine (line : Nat) (s : State) : State :=
  let s := cleanLine line true s
  if s.homeLine line && hst (s.metaWord (localLine line)) != 0 && !s.txBusy line then
    s.enqueueTx line (.uncachedWrite s.devId 0 [] false)
  else s

/-- No device holds a line. -/
def State.lineFree (s : State) (line : Nat) : Bool :=
  (s.sliceLine line).isNone && !s.txBusy line && (!s.homeLine line || hst (s.metaWord (localLine line)) == 0)

/-- One line of step 4 of R301: copied to the next tier with its poison; the write is one that monitors see (R68). -/
def moveLine (r : Range) (asid : BitVec 8) (src dst : Nat) (s : State) : State :=
  let s := s.settleData src
  let (d, p) := if rangeOf (128 * src) = .hbm then (s.dram src, psn (s.metaWord src))
    else (s.tierData (rangeOf (128 * src)) src, s.tierPoison.contains src || s.tierBad.contains src)
  ((s.setTier r (s.portOf r asid) (128 * dst) (peekLine d 0 128)).poisonTier dst p).monTouch (lineBase s.devId + dst)

/-- The resources through which a tier's pages leave it and reach the next: HBM and the CXL tier, the CXL tier and PCIe (R299, R345). -/
def tierResources (tier : BitVec 1) : Nat × Nat := if tier = 0 then (0, 3) else (3, 2)

/-- Pages may be moved now under the page-migration budget (R299, R345). -/
def State.mayDemote (s : State) (tier : BitVec 1) : Bool := s.mayMove (tierResources tier).1 1 && s.mayMove (tierResources tier).2 1

/-- Step 4 of R301: lines of a page from line `k` on copied, as far as the budget goes; the number copied. -/
def copyLines (tier : BitVec 1) (o : PageOwner) (target : Nat) : Nat → Nat → State → Nat × State
  | 0, k, s => (k, s)
  | n + 1, k, s =>
    if 2048 * o.frames ≤ k || !s.mayDemote tier then (k, s)
    else
      let s := moveLine (rangeOf (target * 2 ^ 18)) o.asid (o.frame * 2048 + k) (target * 2048 + k) s
      copyLines tier o target n (k + 1) ((s.move (tierResources tier).1 1 128).move (tierResources tier).2 1 128)

/-- Step 5 of R301: the page's entry names its frames in the next tier and is valid again; the tiers' pages follow. -/
def finishMove (tier : BitVec 1) (m : Move) (target : Nat) (s : State) : State :=
  let o := m.page
  match pokeEntry o.asker o.pteAddr 0x0C2FFFFFFFFC0000 ((1#64 <<< 63) ||| ((tier.setWidth 64 + 1) <<< 58) |||
      BitVec.ofNat 64 ((s.devId.toNat * 2 ^ 28 + target) * 2 ^ 18)) s with
  | (false, s) => s
  | (true, s) =>
    let t (k : Nat) := vget s.tiers k Tier.reset
    let s := { s with
      tiers := vset s.tiers tier.toNat { t tier.toNat with pages := (t tier.toNat).pages.filter fun p => !o.covers p },
      moving := s.moving.filter (· != m), owners := (s.owners.filter (· != o)) ++ [{ o with frame := target }] }
    if tier = 0 then
      { s with tiers := vset s.tiers 1 { t 1 with pages := (run target o.frames).foldl (fun l f => insertNat f l) (t 1).pages } }
    else s

/-- A frame of the next tier takes a page: every frame of it lies there, at the page's alignment, and no page is in it. -/
def State.fitsPage (s : State) (tier : BitVec 1) (o : PageOwner) (frame : Nat) : Bool :=
  let inside (f : Nat) : Bool := match rangeOf (f * 2 ^ 18) with | .cxl _ => tier == 0 | .host => tier == 1 | _ => false
  frame % o.frames == 0 && inside frame && inside (frame + o.frames - 1) &&
    s.owners.all fun q => frame + o.frames ≤ q.frame || q.frame + q.frames ≤ frame

/-- A page that moves goes on (R301): marked, dropped from the translation caches of the domain, recalled once no access of this device
uses its old entry, copied, mapped. -/
def goOnMoving (tier : BitVec 1) (frame : Nat) (m : Move) (s : State) : State :=
  let o := m.page
  if !m.marked then markPage m s
  else if !m.invalid.isEmpty then m.invalid.foldl (fun s p => tellDevice m p.1 p.2 s) s
  else if !s.leaves o then s
  else
    match m.target with
    | none =>
      let lines := s.pageLines o
      let s := lines.foldl (fun s l => recallLine l s) s
      if s.fitsPage tier o frame && lines.all s.lineFree then s.setMove m { m with target := some frame } else s
    | some target =>
      if m.done < 2048 * o.frames then
        let r := copyLines tier o target (2048 * o.frames) m.done s
        r.2.setMove m { m with done := r.1 }
      else finishMove tier m target s

/-- TIER_DEMOTION (R299 to R301): once the tier's pages have passed HIGH and until they fall to LOW, firmware takes the page that the
clock hand finds, whole, and moves it to frames of the next tier from `frame` on, under the page-migration budget (log entry 29). -/
def execTierDemotion (tier : BitVec 1) (frame : Nat) (s : State) : Out :=
  let k := tier.toNat
  let t := vget s.tiers k Tier.reset
  let on := t.high < t.pages.length || (t.active && t.low < t.pages.length)
  let t := { t with active := on }
  let s := { s with tiers := vset s.tiers k t }
  match s.moving.find? fun m => (rangeOf (m.page.frame * 2 ^ 18) == .hbm) == (tier == 0) with
  | some m => .next (goOnMoving tier frame m s)
  | none =>
    if !on then .next s
    else
      let pages := (t.pages.filter fun p => t.hand ≤ p) ++ t.pages.filter fun p => p < t.hand
      match sweep t.access (pages ++ pages) with
      | (access, some p) =>
        let s := { s with tiers := vset s.tiers k { t with access := access, hand := p + 1 } }
        match s.owners.find? fun o => o.covers p with
        | none => .next s
        | some o => .next { s with moving := s.moving ++ [⟨o, false, [], none, 0⟩] }
      | (access, none) => .next { s with tiers := vset s.tiers k { t with access := access } }

end Sys2Proof.Machine
end

