-- ==== Sys2Proof/Machine/Fabric.lean ====
section
/-! DEFINITION. The wire ports' frames, link errors and timeouts of the fabric (spec/25 R352, R353, R358, R360 to R363; spec/27
R380). -/
namespace Sys2Proof.Machine

/-! ## Received frames (R360, R361) -/

/-- A field of a frame, most significant byte first. -/
def frameField (f : List (BitVec 8)) (o n : Nat) : Nat := ((f.drop o).take n).foldl (fun v b => v * 256 + b.toNat) 0

/-- A frame carries a VLAN tag (IEEE 802.1Q). -/
def tagged (f : List (BitVec 8)) : Bool := frameField f 12 2 == 0x8100

/-- EtherType after any tag. -/
def etherType (f : List (BitVec 8)) : Nat := if tagged f then frameField f 16 2 else frameField f 12 2

/-- A FLOW 3 window's filter matches a frame (Table 25.5; log entry 30 for the byte order of the MAC). -/
def Window.matches_ (w : Window) (port : BitVec 1) (f : List (BitVec 8)) : Bool :=
  let c := w.ident
  w.wm.act && w.flow == 3 && c.getLsbD 0 == port.getLsbD 0 &&
    (!c.getLsbD 1 || (tagged f && frameField f 14 2 % 4096 == (c.extractLsb' 16 12).toNat)) &&
    (!c.getLsbD 2 || etherType f == (c.extractLsb' 128 16).toNat) &&
    (!c.getLsbD 3 || frameField f 0 6 == (c.extractLsb' 64 48).toNat)

/-- The window that a frame lands in: lowest core, then lowest window. -/
def State.frameWindow (s : State) (port : BitVec 1) (f : List (BitVec 8)) : Option (Nat × Nat) :=
  (List.range 136).findSome? fun n =>
    ((List.range 8).find? fun w => (vget (s.coreAt n).wins w Window.reset).matches_ port f).map fun w => (n, w)

/-- The row of a frame: its bytes, zeros, and the trailer of R361. -/
def frameRow (rowb : Nat) (f : List (BitVec 8)) (ns : Nat) : List (BitVec 8) :=
  f ++ List.replicate (rowb - 16 - f.length) 0 ++ leBytes 2 f.length ++ [if tagged f then 1 else 0, 0] ++
    leBytes 4 (ptpSplit ns).2.toNat ++ leBytes 6 (ptpSplit ns).1.toNat ++ leBytes 2 0

/-- FRAME_RECEIVE (R361): a frame without its FCS lands as a row of the window that it matches, or is dropped and counted; a length
that the port does not accept is dropped uncounted. -/
def execFrameReceive (port : BitVec 1) (frame : List (BitVec 8)) (fcsGood : Bool) (s : State) : Out :=
  if frame.length < 60 ∨ 9212 < frame.length then .next s
  else if !fcsGood then .next (s.modWire port fun p => { p with dfcs := p.dfcs + 1 })
  else
    match s.frameWindow port frame with
    | none => .next (s.modWire port fun p => { p with dnone := p.dnone + 1 })
    | some (n, k) =>
      let w := vget (s.coreAt n).wins k Window.reset
      if w.rowb < frame.length + 16 then .next (s.modWire port fun p => { p with dlong := p.dlong + 1 })
      else if w.b.toNat + w.slots ≤ w.landed then .next (s.modWire port fun p => { p with dfull := p.dfull + 1 })
      else .next (s.modCoreAt n fun c => c.flowLand k (w.rowb + 1) (frameRow w.rowb frame s.ptpNs))

/-! ## Sent frames (R362) -/

/-- One bit of the CRC-32 of IEEE 802.3, least significant bit first. -/
def crcBit (c : BitVec 32) : BitVec 32 := if c.getLsbD 0 then (c >>> 1) ^^^ 0xEDB88320 else c >>> 1

/-- The FCS of a frame. -/
def frameCrc (f : List (BitVec 8)) : BitVec 32 :=
  ~~~(f.foldl (fun c b => (List.range 8).foldl (fun c _ => crcBit c) (c ^^^ b.setWidth 32)) (BitVec.allOnes 32))

/-- The bytes that a port reads from a scratchpad; a byte beyond it is open. -/
def readFrame (c : Core) (a : Nat) : Nat → State → List (BitVec 8) × State
  | 0, s => ([], s)
  | k + 1, s =>
    if a < c.spadSize then
      let (l, s) := readFrame c (a + 1) k s
      (c.spad.read a :: l, s)
    else
      let (v, s) := s.openValue 8
      let (l, s) := readFrame c (a + 1) k s
      (v :: l, s)

/-- The number of aligned 16-byte granules of the frame that a TXQ word names. -/
def granulesOf (w : BitVec 64) : Nat :=
  let a := (w.extractLsb' 0 22).toNat
  (a + (w.extractLsb' 22 14).toNat + 15) / 16 - a / 16

/-- A granule of a frame read by the port (R362). -/
def readGranule (w : BitVec 64) (g : Nat) (s : State) : List (BitVec 8) × State :=
  let a := (w.extractLsb' 0 22).toNat
  let lo := max a (16 * (a / 16 + g))
  let hi := min (a + (w.extractLsb' 22 14).toNat) (16 * (a / 16 + g + 1))
  readFrame (s.coreAt (w.extractLsb' 36 7).toNat) lo (hi - lo) s

/-- The bytes of a frame: the granules that the port has read, and the others as they stand now. -/
def frameBytes (w : BitVec 64) (got : List (Nat × List (BitVec 8))) : List Nat → State → List (BitVec 8) × State
  | [], s => ([], s)
  | g :: gs, s =>
    let (l, s) := match got.find? (·.1 == g) with
      | some p => (p.2, s)
      | none => readGranule w g s
    let (r, s) := frameBytes w got gs s
    (l ++ r, s)

/-- The port reads an open granule of an open entry of its transmit queue (R362). -/
def portReads (port : BitVec 1) (s : State) : State :=
  let p := vget s.wires port.toNat WirePort.reset
  let (k, s) := s.choose p.txq.length
  match p.txq[k]? with
  | none => s
  | some w =>
    let (g, s) := s.choose (granulesOf w)
    if (p.got.getD k []).any (·.1 == g) then s
    else
      let (l, s) := readGranule w g s
      s.modWire port fun p => { p with got := p.got.modify k fun r => (g, l) :: r }

/-- FRAME_TRANSMIT (R362, R363): the oldest entry of the transmit queue is sent. -/
def execFrameTransmit (port : BitVec 1) (s : State) : Out :=
  let p := vget s.wires port.toNat WirePort.reset
  match p.txq with
  | [] => .next s
  | w :: rest =>
    let (bytes, s) := frameBytes w (p.got.headD []) (List.range (granulesOf w)) s
    let f := bytes ++ List.replicate (60 - bytes.length) 0
    let s := s.modWire port fun p =>
      { p with
        txq := rest, got := p.got.tail, sent := p.sent + 1, txs := (ptpSplit s.ptpNs).1.setWidth 32, txn := (ptpSplit s.ptpNs).2 }
    .next (s.send (.frame port (f ++ leBytes 4 (frameCrc f).toNat)))

/-! ## Links and timeouts (R353, R358, R380) -/

/-- A request to another device has had no answer. -/
def Request.unanswered (r : Request) : Bool :=
  r.open_ && (match r.kind with | .port | .home _ | .table => false | _ => true)

/-- The holders that owe the transactions of this home an answer, each with its transaction. -/
def State.owed (s : State) : List (HomeTx × BitVec 6) :=
  (s.homeTx.filter (·.active)).flatMap fun t => (t.invs ++ t.owes.toList).map fun d => (t, d)

/-- The messages that wait for an answer of another device, by number: requests, then Invs and Recalls; the device and the tick at which
the answer is overdue. -/
def State.awaited (s : State) : List (Option (BitVec 6 × Nat)) :=
  (s.requests.map fun r => if r.unanswered then some (r.dst, r.due) else none) ++ s.owed.map fun p => some (p.2, p.1.due)

/-- The message of a number fails: a request with a cause; a holder that owes an answer gives none (R322). -/
def failAt (i : Nat) (cause : BitVec 8) (s : State) : State :=
  if i < s.requests.length then
    { s with requests := s.requests.mapIdx fun k q => if k = i && q.unanswered then { q with failed := some cause } else q }
  else
    match s.owed[i - s.requests.length]? with
    | some (t, d) => abandon t d s
    | none => s

/-- A port that is not there. -/
def FabricPort.none_ : FabricPort := ⟨false, 0, false, none⟩

/-- The messages under way whose next device was reached by a link that has gone down, and now is by none (R353). -/
def State.stranded (s : State) (l : FabricPort) : List Nat :=
  (List.range s.awaited.length).filter fun i =>
    match s.awaited[i]? with
    | some (some (d, _)) => (s.nextOf d).any fun n => l.leadsTo n && !s.linkUp n
    | _ => false

/-- FLIT_CRC_ERROR (R353): a flit is replayed; the sixteenth failed replay of one flit takes the link down; its traffic moves to another up
link towards the same next device, and where there is none the flit's request fails with 0x94. Whether the flit is a new one or the one
replayed, and whose it is, is open (log entry 3). -/
def execFlitCrcError (port : BitVec 4) (s : State) : Out :=
  let l := vget s.links port.toNat FabricPort.none_
  let put (l : FabricPort) (s : State) : State := { s with links := vset s.links port.toNat l }
  if !l.up then .next s
  else
    let (k, s) := s.choose 2
    if k = 1 then .next (put { l with replays := 0 } s)
    else if l.replays < 15 then .next (put { l with replays := l.replays + 1 } s)
    else
      let s := put { l with up := false, replays := 0 } s
      let lost := s.stranded l
      let (i, s) := s.choose (lost.length + 1)
      .next (match lost[i]? with | some i => failAt i 0x94 s | none => s)

/-- FABRIC_TIMEOUT (R322, R351, R358): the message of a number has had no answer within the TMO that it met. -/
def execFabricTimeout (i : Nat) (s : State) : Out :=
  .next (match s.awaited[i]? with
    | some (some (_, due)) => if due ≤ s.tick then failAt i 0x91 s else s
    | _ => s)

/-- A device that has left the domain, or has come back: what waits for it fails with 0x90, holders give no answer (R322, R358). -/
def leaveDomain (d : BitVec 6) (s : State) : State :=
  let s := { s with away := s.away ||| (1#64 <<< d.toNat) }
  (List.range s.awaited.length).reverse.foldl (fun s i =>
    match s.awaited[i]? with
    | some (some (e, _)) => if e = d then failAt i 0x90 s else s
    | _ => s) s

/-- A lasting lane of a Uliden port. -/
def State.lastingLane (s : State) (port : BitVec 4) : Option Place := s.lasting.find? fun p => p.unit == 3 && p.index == port.setWidth 16

/-- LANE_RETRAIN (R380): a port with a lasting lane is retrained and runs at 4 lanes; the repair is logged. -/
def execLaneRetrain (port : BitVec 4) (s : State) : Out :=
  let l := vget s.links port.toNat FabricPort.none_
  match s.lastingLane port with
  | some p => .next (if l.half then s else
      { s with links := vset s.links port.toNat { l with half := true } }.logError 3 3 (port.setWidth 16) p.at_)
  | none => .next s

end Sys2Proof.Machine
end

