-- ==== Sys2Proof/Machine/HostPort.lean ====
section
/-! DEFINITION. Accesses of the host through BAR2, and the failures of host and CXL ports (spec/27 R367 to R370). -/
namespace Sys2Proof.Machine

/-- What an attempt at a host access answers. -/
inductive HostDone where
  | done (bytes : List (BitVec 8))
  | later
  | unsupported
  deriving DecidableEq, Repr

/-- On whose behalf the lines of an access are asked for: a host port, or the other device. -/
def HostOp.asker (h : HostOp) : Asker :=
  match h.dev with
  | none => .front (520 + h.port.toNat)
  | some y => .front (528 + y.toNat)

/-- A host read of `n` bytes from a local address, line by line (R368). -/
def hostRead (who : Asker) (la n : Nat) : Nat → List (BitVec 8) → State → HostDone × State
  | 0, acc, s => (.done acc, s)
  | k + 1, acc, s =>
    if n ≤ acc.length then (.done acc, s)
    else
      let a := la + acc.length
      let m := min (128 - a % 128) (n - acc.length)
      match rangeOf a with
      | .opm => hostRead who la n k (acc ++ s.opmRead (opmTarget a).1 (opmTarget a).2 m) s
      | .control =>
        if devSizeOk la n then
          match devRead la n s with
          | (some l, s) => (.done l, s)
          | (none, s) => (.later, s)
        else (.unsupported, s)
      | .unassigned => (.unsupported, s)
      | _ =>
        match lineRead who (s.devId.toNat * 2 ^ 46 + a) 1 0 s with
        | (.ready d _, s) => hostRead who la n k (acc ++ peekLine d (a % 128) m) s
        | (.wait, s) => (.later, s)
        | (.fail .., s) => (.unsupported, s)

/-- What one attempt does of a host write: the bytes of the first line. A control block takes 4 and 8 bytes at their natural alignment
(R283, R375). -/
def hostWriteLine (who : Asker) (port : BitVec 1) (la : Nat) (bytes : List (BitVec 8)) (s : State) : HostDone × State :=
  match rangeOf la with
  | .opm => (.done [], s.opmWrite (opmTarget la).1 (opmTarget la).2 bytes)
  | .control => if devSizeOk la bytes.length then (.done [], devWrite (.host port) la bytes s) else (.unsupported, s)
  | .unassigned => (.unsupported, s)
  | _ =>
    match lineWrite who (s.devId.toNat * 2 ^ 46 + la) 1 0 bytes s with
    | (.ready .., s) => (.done [], s)
    | (.wait, s) => (.later, s)
    | (.fail .., s) => (.unsupported, s)

/-- The bytes that an access of another device reads, in their line (R283). -/
def HostOp.line (h : HostOp) (bytes : List (BitVec 8)) : BitVec 1024 := pokeLine 0 (h.la % 128) bytes

/-- A read that has performed is answered: through the host port, or to the other device. -/
def HostOp.answer (h : HostOp) (bytes : List (BitVec 8)) (s : State) : OutMsg :=
  match h.dev with
  | none => .hostRead h.port h.len bytes
  | some y => .uncachedData y (lineBase s.devId + h.la / 128) false (h.line bytes)

/-- An access goes on by one line; true where it moved. -/
def hostStep (h : HostOp) (s : State) : Bool × State :=
  let drop (s : State) : State := { s with hostOps := s.hostOps.erase h }
  match h.data with
  | none =>
    match hostRead h.asker h.la h.len (h.len + 1) [] s with
    | (.done l, s) => (true, (drop s).send (h.answer l s))
    | (.later, s) => (false, s)
    | (.unsupported, s) => (true, if h.dev.isSome then drop s else (drop s).send (.unsupported h.port))
  | some bytes =>
    let m := if rangeOf h.la == .control then bytes.length else min bytes.length (128 - h.la % 128)
    match hostWriteLine h.asker h.port h.la (bytes.take m) s with
    | (.done _, s) =>
      if bytes.length ≤ m then (true, drop s)
      else (true, { s with hostOps := s.hostOps.map fun g =>
        if g = h then { h with la := h.la + m, data := some (bytes.drop m) } else g })
    | (.later, s) => (false, s)
    | (.unsupported, s) => (true, if h.dev.isSome then drop s else (drop s).send (.unsupported h.port))

/-- The accesses of one source, a host port or another device, that wait, performed in order as far as they can be (R283, R354, R368). -/
def pumpSource (mine : HostOp → Bool) : Nat → State → State
  | 0, s => s
  | k + 1, s =>
    match s.hostOps.find? mine with
    | none => s
    | some h =>
      match hostStep h s with
      | (true, s) => pumpSource mine k s
      | (false, s) => s

/-- An access comes through a host port. -/
def HostOp.fromPort (port : BitVec 1) (h : HostOp) : Bool := h.dev.isNone && h.port == port

/-- The host accesses of both ports, and the accesses of other devices, go on. -/
def State.pumpHost (s : State) : State :=
  let n := (s.hostOps.map fun h => h.len / 128 + 3).sum
  let s := pumpSource (HostOp.fromPort 1) n (pumpSource (HostOp.fromPort 0) n s)
  (s.hostOps.filterMap (·.dev)).eraseDups.foldl (fun s y => pumpSource (fun h => h.dev == some y) n s) s

/-- HOST_WINDOW_ACCESS (R366 to R368): an access through BAR2 maps a local address of this device; with EN = 0, or in an unassigned
range, it completes with Unsupported Request. DESIGN CHOICE: so does one of more than the 512 bytes of a payload or the 4,096 of a read
request (log entry 145). -/
def execHostWindowAccess (port : BitVec 1) (off : BitVec 36) (len : Nat) (data : Option (List (BitVec 8))) (s : State) : Out :=
  let w := vget s.hap port.toNat 0
  let la := (w.extractLsb' 0 10).toNat * 2 ^ 36 + off.toNat
  let n := match data with | some l => l.length | none => len
  if !w.getLsbD 63 || rangeOf la == .unassigned || n = 0 || (if data.isSome then 512 else 4096) < n then .next (s.send (.unsupported port))
  else .next ({ s with hostOps := s.hostOps ++ [HostOp.mk none port la n data] }.pumpHost)

/-- A host read through BAR0 (R367): of a control block, after the earlier accesses of the port. -/
def barRead (port : BitVec 1) (off : BitVec 29) (len : Nat) (s : State) : State :=
  { s with hostOps := s.hostOps ++ [HostOp.mk none port (0x3E0000000000 + off.toNat) len none] }.pumpHost

/-- REGISTER_WRITE (R283, R367, R368): 4 or 8 bytes at their natural alignment; any other write of a control block is not accepted. One
of a host port performs after the earlier accesses of the port. -/
def execRegisterWrite (who : Writer) (off : BitVec 46) (size : Nat) (val : BitVec 64) (s : State) : Out :=
  if rangeOf off.toNat ≠ .control ∨ ¬ (size = 4 ∨ size = 8) ∨ off.toNat % size ≠ 0 then .next s
  else
    let now : State := regWrite who (off.toNat - 0x3E0000000000) size val s
    match who with
    | .host port =>
      .next (if s.hostOps.any (HostOp.fromPort port) then
          { s with hostOps := s.hostOps ++ [HostOp.mk none port off.toNat size (some (leBytes size val.toNat))] }.pumpHost
        else now)
    | _ => .next now

/-- PORT_LINK_DOWN (R369, R370): a port's link goes down. -/
def execPortLinkDown (port : Port) (s : State) : Out :=
  .next (if s.portDown.contains port then s else { s with portDown := port :: s.portDown })

/-- COMPLETION_TIMEOUT (R366, R370): a request through a port has had no completion; a host port reports it as an uncorrectable error
(log entry 146). -/
def execCompletionTimeout (i : Nat) (s : State) : Out :=
  let s' : State := { s with requests := s.requests.mapIdx fun k r =>
    if k = i ∧ r.kind = .port then
      { r with failed := some (match r.port with | some .p0 | some .p1 => 0x84 | _ => 0x83) }
    else r }
  .next (match s.requests[i]? with
    | some r => if r.kind = .port ∧ (r.port = some .p0 ∨ r.port = some .p1) then s'.send (.aer (r.port.getD .p0) false) else s'
    | none => s')

end Sys2Proof.Machine
end

