-- ==== Sys2Proof/Machine/Page.lean ====
section
/-! DEFINITION. Responses to page requests and the launch's fault bound (spec/20 R309 to R311; spec/24 R344). -/
namespace Sys2Proof.Machine

/-- The number of a response code (log entry 31). -/
def PageCode.number : PageCode → Nat
  | .success => 0
  | .invalidRequest => 1
  | .responseFailure => 15

/-- An access of a bank ends its wait with a cause of Table 20.7: a deferred trap; the access is kept for the replay (R311). -/
def waitFails (isB : Bool) (id : Nat) (cause : BitVec 8) (d0 d1 : BitVec 64) (s : State) : State :=
  match (s.bankOf isB).accesses.find? fun a => a.id == id with
  | some a => s.trapIn isB cause .s a.pc a.rep a.va d0 d1
  | none => s

/-- An address lies in a page. -/
def inPage (page va : Nat) : Bool := va / 2 ^ 18 * 2 ^ 18 == page

/-- The source address that a landing index of a copy needs: for CLDM that of its line. -/
def Copy.needAt (c : Copy) (lines : List Nat) (i : Nat) : Nat := if c.code = 0x1A then lines.getD (i / 4) 0 * 128 else c.tensorVa i

/-- A copy's units that lie in a page fail with FCAUSE 5 (R247, R311); a copy with a replica reads that first, and its replica's units
in the page leave the primary's failure standing (R261); a scan's lines in the page are read as failed. -/
def Copy.failIn (page : Nat) (c : Copy) : Copy :=
  if c.code = 0x12 then
    (c.scanLines.filter fun l => inPage page (128 * l) && (c.readLine l).isNone).foldl (fun c l => c.noteLine l 5 none) c
  else
    let lines := if c.code = 0x1A then regionLines c.args.desc c.args.coord c.args.ext else []
    let all := (run c.fetchFrom (c.total - c.fetchFrom)).filter fun i => !c.has i
    let first := all.filter fun i => (c.failOf i).isNone && inPage page (c.needAt lines i)
    let second := if c.code = 0x1F then all.filter fun i => (c.failOf i).any (8 ≤ ·) && inPage page (c.replicaVa i) else []
    let c := c.takeReplica second (.fails 5)
    { c with failed := c.failed ++ first.map fun i => (i, if c.code = 0x1F then 13 else 5) }

/-- A copy whose wait has ended with a cause: what it reads in the page fails; one that waits at its landing write freezes there. -/
def copyFails (ch : BitVec 3) (page : Nat) (s : State) : State :=
  let n := ch.toNat
  let s := s.onChan n fun h => { h with state := if h.state = 2 then 1 else h.state }
  match (s.chan n).cur with
  | none => s
  | some c =>
    if c.fromTensor || c.code == 0x1A then s.onCopy n (Copy.failIn page)
    else s.freezeUnit n 5 (c.unitAt c.lidx)

/-- The virtual address of a WAITV's word in a page. -/
def WaitV.wordIn (w : WaitV) (page : Nat) : Nat :=
  match w.conds.find? fun c => c.kind == 4 && c.va / 2 ^ 18 * 2 ^ 18 == page with | some c => c.va | none => page

/-- A WAITV of a bank ends with a cause of Table 20.7 for its word in a page. -/
def waitvFails (isB : Bool) (id page : Nat) (cause : BitVec 8) (d0 d1 : BitVec 64) (s : State) : State :=
  match (s.bankOf isB).tracked.find? fun t => match t.kind with | .waitv w => w.id == id | _ => false with
  | some t =>
    match t.kind with
    | .waitv w => s.trapIn isB cause .s t.pc t.rep (BitVec.ofNat 64 (w.wordIn page)) d0 d1
    | _ => s
  | none => s

/-- A response reaches a waiter (R310, R344). -/
def answerWaiter (r : PageReq) (code : PageCode) (s : State) (w : Waiter) : State :=
  let ok := code == .success
  let d0 := BitVec.ofNat 64 (PageCode.number code)
  let d1 := BitVec.ofNat 64 r.tag
  match w with
  | .access n isB id =>
    s.onCore n fun s =>
      if ok then
        (s.modBankOf isB (Bank.mapAccesses fun a => if a.id = id then a.replayed else a)).bankWakes isB
      else waitFails isB id 0x70 d0 d1 s
  | .copy n ch =>
    s.onCore n fun s =>
      if !ok then copyFails ch r.page s
      else if s.waitsOnPage w then s
      else s.onChan ch.toNat fun h => { h with state := if h.state = 2 then 1 else h.state }
  | .waitv n isB id => if ok then s else s.onCore n (waitvFails isB id r.page 0x70 d0 d1)
  | .trap n =>
    s.onCore n fun s =>
      if s.core.run != .frozen then s else if ok then s.resume else recordTrap s
  | .launch q seq =>
    if ok then s
    else if q = 512 then
      { s with feWrites := match s.feWrites with | f :: rest => { f with bytes := [] } :: rest | [] => [] }
    else
      match s.waiting.find? fun l => l.queue == q && l.seq == seq with
      | some l => refuseRecord q seq l.tag 3 { s with waiting := s.waiting.filter (· != l) }
      | none => { s with taking := s.taking.map fun t => if t.queue = q ∧ t.seq = seq then { t with failed := true } else t }

/-- PAGE_RESPONSE (R310): the waiters of a tag are served in fault order; after a Response Failure no request is sent through the
port until PRI Stopped is cleared. -/
def execPageResponse (tag : BitVec 8) (code : PageCode) (s : State) : Out :=
  match s.pageReqs.find? fun r => r.tag == tag.toNat with
  | none => .next s
  | some r =>
    let s := { s with
      pageReqs := s.pageReqs.filter (· != r),
      priStopped := if code = .responseFailure then s.priStopped ||| (1#2 <<< (s.asidPort r.asid).toNat) else s.priStopped }
    let s := r.waiters.foldl (answerWaiter r code) s
    .next (pumpPages (s.pageWait.length + 1) s)

/-- PRI_STOPPED_CLEAR (R310): requests of the port are sent again. -/
def execPriStoppedClear (port : BitVec 1) (s : State) : Out :=
  let s := { s with priStopped := s.priStopped &&& ~~~(1#2 <<< port.toNat) }
  .next (pumpPages (s.pageWait.length + 1) s)

/-! ## The fault bound (R311) -/

/-- The bound is reached. -/
def Core.boundHit (c : Core) (waited : Nat) : Bool := c.faultB != 0 && c.faultB.toNat ≤ waited

/-- A page on which a waiter of the device waits. -/
def State.waitPage (s : State) (w : Waiter) : Nat :=
  match (s.pageReqs ++ s.pageWait).find? fun r => r.waiters.contains w with | some r => r.page | none => 0

/-- The operation of a waiter has waited for the fault bound while a fault of it still waits: 0x74. -/
def boundFails (w : Waiter) (waited : Nat) (s : State) : State :=
  if !s.core.boundHit waited || !s.waitsOnPage w then s
  else
    let d0 := BitVec.ofNat 64 waited
    let d1 := BitVec.ofNat 64 (s.tagOf w)
    let page := s.waitPage w
    let s := s.dropWaiter w
    match w with
    | .access _ isB id => waitFails isB id 0x74 d0 d1 s
    | .copy _ ch => copyFails ch page s
    | .waitv _ isB id => waitvFails isB id page 0x74 d0 d1 s
    | .trap _ => if s.core.run == .frozen then recordTrap s else s
    | .launch .. => s

/-- FAULT_BOUND_EXPIRY (R311, R344): the operation of an index of the core in focus: a tracked operation of the active bank, then a
posted access, then a channel, then the policy's request. -/
def execFaultBoundExpiry (i : Nat) (s : State) : Out :=
  let b := s.bank
  let isB := s.core.cur
  let nt := b.tracked.length
  let np := b.posted.length
  match b.tracked[i]? with
  | some t =>
    match t.kind with
    | .access a => .next (boundFails (.access s.coreNo isB a.id) a.waited s)
    | .waitv w => .next (boundFails (.waitv s.coreNo isB w.id) w.waited s)
    | _ => .next s
  | none =>
    match b.posted[i - nt]? with
    | some a => .next (boundFails (.access s.coreNo isB a.id) a.waited s)
    | none =>
      let n := i - nt - np
      if n < 8 then
        match (s.chan n).cur with
        | some c => .next (boundFails (.copy s.coreNo (BitVec.ofNat 3 n)) c.waited s)
        | none => .next s
      else .next (boundFails (.trap s.coreNo) (s.tick - s.core.polAt) s)

end Sys2Proof.Machine
end

