-- ==== Sys2Proof/Machine/Firmware.lean ====
section
/-! DEFINITION. The instructions that only Collie cores execute (spec/24 R350, Table 24.7). -/
namespace Sys2Proof.Machine

/-- The value that QPOLL writes for a queue. -/
def qpollValue (q : Nat) (s : State) : BitVec 64 :=
  let d := s.queueAt q
  if 272 ≤ q then 1#64 <<< 63
  else (0 : BitVec 1) ++ bit (!d.en) ++ (0 : BitVec 14) ++ d.head.setWidth 16 ++ (d.tail - d.head)

/-- QPOLL (Table 24.7). -/
def execQpoll (f : FmtFW) (s : State) : Out :=
  guarded f.g s fun s =>
    let q := (s.readX f.a).toNat % 512
    let v := qpollValue q s
    let d := s.queueAt q
    let s := if f.sub.getLsbD 0 && q < 272 && d.tail != d.head then
        s.modQueue q fun d => d.setWord 3 ((d.head + 1).setWidth 64) else s
    s.track [s.xRef f.d] (v.setWidth 512) 32

/-- QPOST (Table 24.7): the 64 bytes go to a ring of the queue; it lands when they are written. A number that names no queue writes
nothing and lands an open value (log entry 32). DESIGN CHOICE: its read of scratchpad waits for no watermark (log entry 135). -/
def execQpost (f : FmtFW) (s : State) : Out :=
  guarded f.g s fun s =>
    let a := (s.readX f.b).toNat
    let q := (s.readX f.a).toNat % 512
    if s.core.spadSize < a + 64 then s.trapAddr 0x30 (BitVec.ofNat 64 (max a s.core.spadSize))
    else if a % 64 ≠ 0 then s.trapAddr 0x31 (BitVec.ofNat 64 a)
    else
      match (run a 64).find? s.core.spadBad.contains with
      | some b => s.trapSpad .s s.ctx.entry.pc s.ctx.entry.rep b
      | none =>
        if 272 ≤ q then
          let (v, s) := s.openValue 64
          s.track [s.xRef f.d] (v.setWidth 512) 32
        else
          let d := s.queueAt q
          let k := if f.sub.getLsbD 0 then 7 else 5
          let ctl := d.word k
          let va := ((d.word (k - 1)).toNat + 64 * ((ctl.extractLsb' 0 32).toNat % 2 ^ (ctl.extractLsb' 32 5).toNat)) % 2 ^ 64
          let (j, s) := s.ringRecord q (f.sub.getLsbD 0) (s.core.spad.bytes a 64)
          s.modBank fun b =>
            { b with tracked := b.tracked ++
                [⟨[s.xRef f.d], .qpost d.asid va j, 0, s.ctx.entry.pc, s.ctx.entry.rep, s.ctx.entry.seq, .s⟩] }

/-- RBLD and RBST at a physical address (Table 24.7, R283). -/
def deviceAccess (op : Nat) (kind : GKind) (f : FmtGM) (s : State) : State :=
  let pa := s.readX f.a + 8 * f.off.signExtend 64
  if pa.toNat % 8 ≠ 0 then s.trapAtIssue 0x60 pa (BitVec.ofNat 64 op) 0
  else if 2 ^ 52 ≤ pa.toNat ∨ !deviceAddr pa.toNat then s.trapAtIssue 0x61 pa (BitVec.ofNat 64 op) pa
  else
    let e := s.ctx.entry
    s.startAccess s.core.cur
      { id := 0, kind := kind, word := (View.s op (.gm f)).encode.setWidth 32, va := pa, n := 8, data := (s.readX f.d).setWidth 128,
        cmp := 0, dst := pairOf (physReg e.rotb f.d) (physReg e.rotb (f.d + 1)), pc := e.pc, rep := e.rep, seq := e.seq,
        phase := .ready pa.toNat 2, waited := 0, counted := 0, born := 0 }

/-- RBLD (Table 24.7). -/
def execRbld (f : FmtGM) (s : State) : Out := guarded f.g s (deviceAccess 0x5B .load f)

/-- RBST (Table 24.7). -/
def execRbst (f : FmtGM) (s : State) : Out := guarded f.g s (deviceAccess 0x5C .store f)

/-- The number of the Collie core in focus. -/
def State.collieNo (s : State) : BitVec 3 := BitVec.ofNat 3 (s.coreNo - 128)

/-- The holder of a semaphore. -/
def State.holder (s : State) (n : Nat) : Sema := (s.semas.find? fun p => p.1 == n).map (·.2)

/-- SEMA acquire (Table 24.7). -/
def execSemaAcquire (f : FmtFW) (s : State) : Out :=
  guarded f.g s fun s =>
    let n := (s.readX f.a).toNat % 32
    let free := (s.holder n).isNone
    let s := if free then { s with semas := Sparse.put s.semas n s.collieNo } else s
    s.track [s.xRef f.d] (if free then 1 else 0) 32

/-- SEMA release (Table 24.7). -/
def execSemaRelease (f : FmtFW) (s : State) : Out :=
  guarded f.g s fun s =>
    let n := (s.readX f.a).toNat % 32
    let mine := s.holder n = some s.collieNo
    let s := if mine then { s with semas := Sparse.drop s.semas n } else s
    s.track [s.xRef f.d] (if mine then 1 else 0) 32

/-- SEMA query (Table 24.7). -/
def execSemaQuery (f : FmtFW) (s : State) : Out :=
  guarded f.g s fun s =>
    let v := match s.holder ((s.readX f.a).toNat % 32) with | some k => k.toNat + 1 | none => 0
    s.track [s.xRef f.d] (BitVec.ofNat 512 v) 32

/-- WDOG (Table 24.7): the ticks left, then a restart at x[a][31:0] ticks. -/
def execWdog (f : FmtFW) (s : State) : Out :=
  guarded f.g s fun s =>
    let left := match s.core.wdog with | some t => t - s.tick | none => 0
    let n := (s.readX f.a).toNat % 2 ^ 32
    let s := s.modCore fun c => { c with wdog := if n = 0 then none else some (s.tick + n) }
    s.track [s.xRef f.d] (BitVec.ofNat 512 left) 32

/-- FCLK (Table 24.7): it lands at the next frame tick. -/
def execFclk (f : FmtFW) (s : State) : Out :=
  guarded f.g s fun s =>
    let missed := match s.core.lastFrame with | some n => n + 1 < s.frameNo | none => false
    s.modBank fun b =>
      { b with tracked := b.tracked ++
          [⟨[s.xRef f.d], .fclk missed, 0, s.ctx.entry.pc, s.ctx.entry.rep, s.ctx.entry.seq, .s⟩] }

end Sys2Proof.Machine
end

