-- ==== Sys2Proof/Machine/Events.lean ====
section
/-! DEFINITION. Events of the sequencer: dispatch, idle entries, results that land, single-step (spec/03 R23, R24, R31; spec/06
R74). -/
namespace Sys2Proof.Machine

/-- BUNDLE_DISPATCH (R23, R37, R63): dispatch takes one bundle issue, where it may. -/
def execBundleDispatch (s : State) : Out := .next (dispatch s)

/-- IDLE_ENTRY (R24): an idle entry at the head of a slot's queue takes its issue cycle and does nothing. -/
def execIdleEntry (slot : Slot) (s : State) : Out :=
  match s.bank.queue slot with
  | e :: q => .next (if e.op.isNone && slotReady s slot then s.modBank fun b => b.setQueue slot q else s)
  | [] => .next s

/-- RESULT_LAND (R31, R33): the result in flight at an index lands, after every earlier one of its register. -/
def execResultLand (i : Nat) (s : State) : Out :=
  match s.bank.inflight[i]? with
  | some f =>
    if (s.bank.inflight.take i).any fun g => g.reg == f.reg then .next s
    else .next ((s.modBank fun b => { b with inflight := b.inflight.eraseIdx i }).modCore fun c => c.landResult f)
  | none => .next s

/-- A single-stepped bundle's last repetition has been dispatched, every entry of it has issued, and what dispatch takes next is
known (R74). -/
def stepDue (s : State) : Bool :=
  let b := s.bank
  b.singleStep && s.core.run.issues && b.seqNext != b.stepSeq && b.rep == 0 && b.hold == .free && b.illegal.isNone &&
    b.queues.toList.all List.isEmpty

/-- SINGLE_STEP_TRAP (R74, Table 7.3): cause 0x17 after a bundle, naming the next one, with the IDs that the bundle took. -/
def execSingleStepTrap (s : State) : Out :=
  if !stepDue s then .next s
  else
    let s := passEndIfDue s
    let b := s.bank
    let ids := b.stepIds
    let s := s.modBank fun b => { b with stepIds := 0, stepSeq := b.seqNext }
    .next (s.takeTrap ⟨0x17, .atIssue, 0, b.pc, b.rep, Config.unstated 0x17 0, ids.extractLsb' 0 64, ids.extractLsb' 64 64⟩)

end Sys2Proof.Machine
end

