-- ==== Sys2Proof/Machine/Engines.lean ====
section
/-! DEFINITION. What the engines of the core in focus do on their own in a cycle: mesh, copy channels, global accesses, waits,
freeze, banks, parking, bounds. An act whose moment the spec leaves open happens in this cycle or later, by an open choice
(log entry 3). -/
namespace Sys2Proof.Machine

/-- An act that is ready happens in this cycle, or may in a later one. -/
def attempt (ready : Bool) (f : State → State) (s : State) : State :=
  if !ready then s
  else
    let (k, s) := s.choose 2
    if k = 0 then f s else s

/-- An act that is ready happens by its bound: at the latest where it is `late`. -/
def attemptBy (late ready : Bool) (f : State → State) (s : State) : State := if ready && late then f s else attempt ready f s

/-- An event as an act. -/
def act (f : State → Out) (s : State) : State := Out.stateD s (f s)

/-- The cycle is the first of its tick. -/
def State.newTick (s : State) : Bool := s.tick != (s.cycle - 1) * 2 / 25

/-! ## The mesh -/

/-- The oldest push lands so that 72 cycles after its issue the landing shows, where its output bytes pass (R188). -/
def landWork (s : State) : State :=
  match s.core.mesh.pipe with
  | p :: _ => if 71 ≤ p.age then landPush s else attempt (landReady s) landPush s
  | [] => s

/-- The plane unit goes on: its oldest operation acts within its bound, counted from when it waits for nothing (R208; log entry
106). -/
def unitWork (s : State) : State :=
  if !unitReady s then s
  else
    match s.core.mesh.unit with
    | o :: os =>
      if o.left ≤ 1 then act execPlaneUnitOperation s
      else attempt true (act execPlaneUnitOperation) (s.modMesh fun m => { m with unit := { o with left := o.left - 1 } :: os })
    | [] => s

/-- Every MSTAT that has nothing left to wait for lands, in issue order (R218, R224). -/
def mstatWork (s : State) : State :=
  s.core.mstats.foldl (fun s m =>
    if !s.core.mesh.frz && mstatReady s.core.mesh m.cyc then
      (landMstat m.isB m.t m.clr s).modBankOf m.isB fun b => { b with tracked := b.tracked.filter (· != m.t) }
    else s) s

/-- The mesh in a cycle (R188): an MSTAT reads what stands before a later plane-unit operation acts. -/
def meshWork (s : State) : State := mstatWork (unitWork (mstatWork (landWork (advancePipe s))))

/-! ## Copy channels -/

/-- A channel in a cycle: a copy that software has written takes its operands, fragments return, its next write lands, its copy
completes. -/
def channelWork (n : Nat) (s : State) : State :=
  let s := captureCopy n s
  match (s.chan n).cur with
  | none => s
  | some c =>
    let k := BitVec.ofNat 3 n
    let s := attempt (c.code == 0x1A) (act (execMetadataRead k)) s
    let s := attempt (c.code == 0x12) (act (execGanderScan k)) s
    let s := attempt (c.fromSpad || c.fromTensor || !(s.chan n).queue.isEmpty) (act (execFragmentReturn k)) s
    let s := attempt (s.chan n).runs (act (execCopyLandingWrite k)) s
    attempt ((s.chan n).cur.any fun c => s.copyEnds c || ((s.chan n).runs && completes n c s)) (act (execCopyComplete k)) s

/-- The copy channels in a cycle. -/
def copyWork (s : State) : State :=
  if s.core.chans.toList.all Channel.idle then s else (List.range 8).foldl (fun s n => channelWork n s) s

/-- The schedule's next entry is released where it may be, from the cycle after its release on (R270). -/
def scheduleWork (s : State) : State :=
  if s.core.sched.isEmpty || s.core.run == .halted || s.core.run == .parked then s else act execScheduleEntryRelease s

/-! ## Global accesses -/

/-- A physical address is a range-claim register of this device (R343). -/
def State.claims (s : State) (pa : Nat) : Bool :=
  devOf pa == s.devId && 0x3E0000300000 ≤ localOf pa && localOf pa < 0x3E0000300100 && pa % 0x40 == 0

/-- An access of a bank has been under way for a number of cycles, and its address translates to a range-claim register. -/
def State.claimLate (s : State) (isB : Bool) (a : GAccess) (n : Nat) : Bool :=
  a.born + n ≤ s.cycle &&
    match a.phase with
    | .ready pa _ => s.claims pa
    | _ =>
      match (translate (s.askerOf isB a) (s.bankOf isB).asid a.va.toNat a.needs.1 a.needs.2 s).1 with
      | .leaf pa .. => s.claims pa
      | _ => false

/-- An access of a bank is translated, or performs; a migration mark is read again within 16 ticks (R306); a replay issues when its bank
runs (R102, R107); a claim lands within 400 cycles (R343). -/
def driveAccess (isB : Bool) (s : State) (id : Nat) : State :=
  match (s.bankOf isB).accesses.find? fun a => a.id == id with
  | none => s
  | some a =>
    match a.phase with
    | .walk => attemptBy (s.claimLate isB a 398) true (walkAccess isB a) s
    | .replay => if isB == s.core.cur && s.core.run.issues then walkAccess isB a s else s
    | .migrating seen => if seen + 16 ≤ s.tick then walkAccess isB a s else attempt true (walkAccess isB a) s
    | .ready .. => attemptBy (s.claimLate isB a 399) (!(s.bankOf isB).blocked a) (performAccess isB a) s
    | _ => s

/-- The global accesses of a bank, its fences and its monitor in a cycle. -/
def accessWork (isB : Bool) (s : State) : State :=
  let s := ((s.bankOf isB).accesses.map (·.id)).foldl (driveAccess isB) s
  if s.core.run.issues then (s.settleFences isB).watch isB else s

/-- A QPOST of the active bank whose record is written lands. -/
def qpostWork (s : State) : State :=
  match s.bank.tracked.findIdx? fun t => match t.kind with | .qpost .. => true | _ => false with
  | some i => attempt true (act (execTrackedResultLand i)) s
  | none => s

/-! ## Waits -/

/-- Every WAITV of a bank is evaluated in every cycle, which satisfies R93. -/
def waitvWork (isB : Bool) (s : State) : State := evaluateAll isB Tracked.isWaitv s

/-- A SYNC whose joins have ended arrives; a sleeping MWAIT that may return does; a task that halted ends. -/
def waitWork (s : State) : State :=
  if !s.core.run.issues then s
  else
    let s := attempt (s.bank.syncWait.any (!·.arrived)) (act execSyncArrival) s
    let s := if s.bank.mwait then act execMwaitReturn s else s
    attempt s.bank.ending (act execTaskEnd) s

/-! ## Freeze, banks, parking -/

/-- A freeze completes in the first cycle in which it may (R99); the core returns to bank A at a pre-emption point of bank B at once,
else at some time (R108). -/
def freezeWork (s : State) : State :=
  let s := act execFreezeComplete s
  let due := switchBackDue s.core && s.core.run.issues
  let s := if due && s.core.point then act execBankSwitchBack s else attempt due (act execBankSwitchBack) s
  s.modCore fun c => { c with point := false }

/-- A drained bank gives way to the other; a drained core aborts copies at its drain bound and parks once they rest (R111). -/
def parkWork (s : State) : State :=
  if s.core.run != .draining then s else act execTaskParked (act execDrainBoundExpiry (drainTurn s))

/-! ## What ticks count (R311, R114, R340) -/

/-- A tick in which an access waits on a fault is counted. -/
def GAccess.age (tick : Nat) (a : GAccess) : GAccess := if a.faulting then a.count tick else a

/-- The waits of a bank on translation have lasted into a further tick. -/
def ageBank (isB : Bool) (s : State) : State :=
  s.modBankOf isB fun b =>
    { b with
      posted := b.posted.map (GAccess.age s.tick),
      tracked := b.tracked.map fun t =>
        match t.kind with
        | .access a => { t with kind := .access (a.age s.tick) }
        | .waitv w => if s.waitsOnPage (.waitv s.coreNo isB w.id) then { t with kind := .waitv (w.count s.tick) } else t
        | _ => t }

/-- The copies that wait on translation have waited into a further tick. -/
def ageCopies (s : State) : State :=
  (List.range 8).foldl (fun s n =>
    if s.waitsOnPage (.copy s.coreNo (BitVec.ofNat 3 n)) then s.onCopy n (Copy.count s.tick) else s) s

/-- The fault bound of every wait of the core in focus, by the ticks that have ended (R311, R344). -/
def boundWork (s : State) : State :=
  if s.core.faultB = 0 ∨ !s.newTick then s
  else
    let s := [false, true].foldl (fun s isB =>
      let s := (s.bankOf isB).accesses.foldl (fun s a => boundFails (.access s.coreNo isB a.id) a.waited s) s
      (s.bankOf isB).tracked.foldl (fun s t =>
        match t.kind with
        | .waitv w => boundFails (.waitv s.coreNo isB w.id) w.waited s
        | _ => s) s) s
    let s := (List.range 8).foldl (fun s n =>
      match (s.chan n).cur with
      | some c => boundFails (.copy s.coreNo (BitVec.ofNat 3 n)) c.waited s
      | none => s) s
    boundFails (.trap s.coreNo) (s.tick - s.core.polAt) s

/-- What the core in focus counts at the first cycle of a tick. -/
def tickWork (s : State) : State :=
  if !s.newTick then s
  else
    let s := ageCopies (ageBank true (ageBank false s))
    let s := if s.core.preReq.any fun t => s.tick == t + s.core.preB.toNat then act execPreemptionEscalation s else s
    act execWatchdogExpiry s

/-! ## A cycle -/

/-- The engines' progress in a cycle of the core in focus. -/
def engines (s : State) : State :=
  let s := meshWork s
  let s := copyWork s
  let s := qpostWork (accessWork true (accessWork false s))
  let s := waitWork (waitvWork true (waitvWork false s))
  let s := if stepDue s then act execSingleStepTrap s else s
  let s := tickWork s
  parkWork (freezeWork s)

end Sys2Proof.Machine
end

