-- ==== Sys2Proof/Machine/Duties.lean ====
section
/-! DEFINITION. What the device does on its own once in every cycle: rings, host accesses, launches, periods, background engines.
An act whose moment the spec leaves open happens in this cycle or later, by an open choice (log entry 3). -/
namespace Sys2Proof.Machine

/-! ## The front end -/

/-- A queue has a record posted that has not been taken. -/
def State.hasPosted (s : State) (q : Nat) : Bool :=
  s.served q && (if q < 256 then (s.queueAt q).head != (s.queueAt q).tail else s.devPosts.any (·.queue == q))

/-- A queue has a record being read, or one that waits for its cores. -/
def State.hasTaken (s : State) (q : Nat) : Bool := s.taking.any (·.queue == q) || s.waiting.any (·.queue == q)

/-- A core's saved context may return: no record of a higher class that waits, and no launch of one that has not completed, names the
core, and the stores of another launch have performed (R339, log entry 122). -/
def State.mayReturn (s : State) (p : Nat × Core) : Bool :=
  !(s.coreAt p.1).storesLeft &&
    !(s.waiting ++ s.launches.map (·.record)).any fun r => r.coreList.contains p.1 && (s.classOf p.2).any fun k => k < r.cls

/-- Queues are polled, once in every frame, and their records go on; saved contexts return. -/
def launchWork (s : State) : State :=
  let qs := s.queues.map (·.1)
  let s := qs.foldl (fun s q => attempt (s.hasPosted q && !s.hasPolled q) (takeRecord q) s) s
  let s := qs.foldl (fun s q => attempt (s.hasTaken q) (startQueue q) s) s
  (s.saved.filter s.mayReturn).foldl (fun s p => attempt true (fun s => s.onCore p.1 (act execContextResume)) s) s

/-- A frame ends: the queues that have had no poll slot in it have it now, and the next frame's slots begin (R339). -/
def frameWork (s : State) : State :=
  let s := (s.queues.map (·.1)).foldl (fun s q => takeRecord q s) s
  act execFrameTick { s with polled := [] }

/-- The budget period of 100 ticks, and the grace of what is held (R345). -/
def budgetWork (s : State) : State :=
  if s.tick % 100 ≠ 0 ∨ s.budgets.isEmpty then s
  else
    let s := act execBudgetPeriod s
    ((s.coreNo, s.core) :: s.others).foldl (fun s p =>
      (p.2.chans.toList.filterMap fun h => h.cur.bind (·.heldOn)).eraseDups.foldl (fun s i =>
        s.onCore p.1 (act (execBudgetGraceExpiry (BitVec.ofNat 2 (i / 8)) (BitVec.ofNat 3 (i % 8))))) s) s

/-- Frame ticks, Collie watchdogs, budget periods, and what has had no answer (R345, R349, R350, R357, R358). -/
def periodWork (s : State) : State :=
  if !s.newTick then s
  else
    let s := if s.frame ≠ 0 ∧ s.tick % s.frame.toNat = 0 then frameWork s else s
    let s := (List.range 8).foldl (fun s k => act (execCollieWatchdogExpiry (BitVec.ofNat 3 k)) s) s
    let s := budgetWork s
    let s := (List.range s.awaited.length).reverse.foldl (fun s i => act (execFabricTimeout i) s) s
    rootWork 3 (rootWork 2 s)

/-! ## Background engines -/

/-- The marked walks whose entry has not been read for 16 ticks read it again (R306). -/
def State.rewalk (s : State) (m : Mark) : State :=
  if s.tick < m.seen + 16 then s
  else
    let f (s : State) : State := (translateMarked m.who m.asid m.va m.rd m.wr s).2
    match m.who with
    | .copy n _ => s.onCore n f
    | _ => f s

/-- Demotion of tier pages to an open frame of the next tier, rebuilds of metadata words that were reported, and layer repair (R292,
R300, R301, R321). -/
def memoryWork (s : State) : State :=
  let s := [(0 : BitVec 1), 1].foldl (fun s k =>
    let t := vget s.tiers k.toNat Tier.reset
    attempt (!s.moving.isEmpty || t.active || t.high < t.pages.length) (fun s =>
      let (f, s) := s.choose (2 ^ 28)
      act (execTierDemotion k f) s) s) s
  let s := s.metaTold.foldl (fun s l => attempt true (act (execMetadataRebuild (lineBase s.devId + l))) s) s
  (List.range 8).foldl (fun s k =>
    let r := vget s.repairs k ⟨0, 0, 0, [], []⟩
    attempt (r.state == 1 || !r.lasting.isEmpty) (act (execLayerMigration (BitVec.ofNat 3 k))) s) s

/-- Firmware's own work: invalidation, pattern tests, updates and reports within their bounds (R375, R377, R397), ports retrained, frames
read and sent. -/
def serviceWork (s : State) : State :=
  let s := attempt s.xbusy (act execInvalidationDone) s
  let s := (s.phys.map (·.1)).foldl (fun s ch =>
    attemptBy ((s.phy ch).since + 4999 ≤ s.tick) (s.phy ch).running (fun s =>
      let (w, s) := s.openValue 32
      act (execPatternTestDone (BitVec.ofNat 8 ch) w.toNat) s) s) s
  let s := attemptBy (s.fw.since + 499999999 ≤ s.tick) s.fw.busy (fun s => let (k, s) := s.choose 2; act (execFirmwareUpdateDone (k == 1)) s) s
  let s := attempt s.fw.fuse (act execFirmwareUpdateFuse) s
  let s := attemptBy (s.attest.since + 24999999 ≤ s.tick) s.attest.busy (fun s => let (k, s) := s.choose 2; act (execAttestationReport (k == 1)) s) s
  let s := s.lasting.foldl (fun s p =>
    let port : BitVec 4 := p.index.setWidth 4
    attempt (p.unit == 3 && !(vget s.links port.toNat FabricPort.none_).half) (act (execLaneRetrain port)) s) s
  [(0 : BitVec 1), 1].foldl (fun s p =>
    if (vget s.wires p.toNat WirePort.reset).txq.isEmpty then s
    else
      let (n, s) := s.choose 1024
      attempt true (act (execFrameTransmit p)) ((List.range n).foldl (fun s _ => portReads p s) s)) s

/-- The beginning of a cycle, before any core has its turn in it: launches whose release tick has come begin, and so do cores whose
context has returned (R14, R113, R341). -/
def cycleStart (s : State) : State :=
  let s := { s with hsemAsk := false }
  let s := s.launches.foldl (fun s l => if l.released || s.tick < l.rt then s else releaseLaunch l s) s
  ((s.coreNo, s.core) :: s.others).foldl (fun s p =>
    if p.2.releaseAt.any fun t => t ≤ s.tick then s.onCore p.1 releaseContext else s) s

/-- The device's own work of a cycle. -/
def deviceWork (s : State) : State :=
  let s := if s.feWrites.isEmpty then s else s.pumpRings
  let s := if s.hostOps.isEmpty then s else s.pumpHost
  let s := s.marks.foldl State.rewalk s
  serviceWork (memoryWork (periodWork (launchWork s)))

end Sys2Proof.Machine
end

