-- ==== Sys2Proof/Machine/Scalar.lean ====
section
/-! DEFINITION. The S-slot arithmetic, compares and predicate logic (spec/06 R76 to R82). -/
namespace Sys2Proof.Machine

/-! ## Values (R76 to R78) -/

/-- The shift amount of a register: bits [5:0] (R76). -/
def shamt (b : BitVec 64) : Nat := b.toNat % 64

/-- Signed high product (R76). -/
def mulhs (a b : BitVec 64) : BitVec 64 := BitVec.ofInt 64 ((a.toInt * b.toInt) / 2 ^ 64)
/-- Unsigned high product (R76). -/
def mulhu (a b : BitVec 64) : BitVec 64 := BitVec.ofNat 64 (a.toNat * b.toNat / 2 ^ 64)
/-- Unsigned quotient; all ones for a zero divisor (R77). -/
def divu (a b : BitVec 64) : BitVec 64 := if b = 0 then BitVec.allOnes 64 else BitVec.ofNat 64 (a.toNat / b.toNat)
/-- Unsigned remainder; the dividend for a zero divisor (R77). -/
def remu (a b : BitVec 64) : BitVec 64 := if b = 0 then a else BitVec.ofNat 64 (a.toNat % b.toNat)
/-- Signed quotient truncated towards zero, with the borderline results of R77. -/
def divs (a b : BitVec 64) : BitVec 64 := if b = 0 then BitVec.allOnes 64 else BitVec.ofInt 64 (a.toInt.tdiv b.toInt)
/-- Signed remainder, of the dividend's sign (R77). -/
def rems (a b : BitVec 64) : BitVec 64 := if b = 0 then a else BitVec.ofInt 64 (a.toInt.tmod b.toInt)
/-- Number of leading zero bits (R78). -/
def clz (a : BitVec 64) : BitVec 64 := BitVec.ofNat 64 (((List.range 64).reverse.takeWhile fun i => !a.getLsbD i).length)
/-- Number of one bits (R78). -/
def popc (a : BitVec 64) : BitVec 64 := BitVec.ofNat 64 (((List.range 64).filter fun i => a.getLsbD i).length)
/-- The bits of `a` where the mask `b` has a one, packed downwards (R78). -/
def bext (a b : BitVec 64) : BitVec 64 :=
  ((List.range 64).foldl (fun (acc : Nat × BitVec 64) i =>
    if b.getLsbD i then (acc.1 + 1, if a.getLsbD i then acc.2 ||| (1#64 <<< acc.1) else acc.2) else acc) (0, 0)).2
/-- The low bits of `a` placed where the mask `b` has a one (R78). -/
def bdep (a b : BitVec 64) : BitVec 64 :=
  ((List.range 64).foldl (fun (acc : Nat × BitVec 64) i =>
    if b.getLsbD i then (acc.1 + 1, if a.getLsbD acc.1 then acc.2 ||| (1#64 <<< i) else acc.2) else acc) (0, 0)).2

/-! ## Shared shapes -/

/-- An RR operation of bound `bound` with value `v` (R76 to R78). -/
def aluRR (bound : Nat) (v : BitVec 64 → BitVec 64 → BitVec 64) (f : FmtRR) (s : State) : Out :=
  guarded f.g s fun s => s.landX f.d (v (s.readX f.a) (s.readX f.b)) bound

/-- An RI operation with value `v` of the register and the extended immediate (R79). -/
def aluRI (imm : BitVec 64) (v : BitVec 64 → BitVec 64 → BitVec 64) (f : FmtRI) (s : State) : Out :=
  guarded f.g s fun s => s.landX f.d (v (s.readX f.a) imm) 1

/-- A compare that writes a predicate (R81). -/
def compare (g : Guard) (d : BitVec 6) (r : BitVec 64 → BitVec 64 → Bool) (a : BitVec 6) (b : State → BitVec 64)
    (s : State) : Out :=
  guarded g s fun s => s.landP d.toNat (r (s.readX a) (b s)) 1

/-- A predicate operation on two optionally inverted sources (R82). -/
def predLogic (v : Bool → Bool → Bool) (f : FmtPL) (s : State) : Out :=
  guarded f.g s fun s =>
    s.landP f.d.toNat (v (s.readP f.a.toNat != f.na) (s.readP f.b.toNat != f.nb)) 1


/-- ADD (R76), bound 1. -/
def execAdd (f : FmtRR) (s : State) : Out := aluRR 1 (fun a b => a + b) f s

/-- SUB (R76), bound 1. -/
def execSub (f : FmtRR) (s : State) : Out := aluRR 1 (fun a b => a - b) f s

/-- AND (R76), bound 1. -/
def execAnd (f : FmtRR) (s : State) : Out := aluRR 1 (fun a b => a &&& b) f s

/-- OR (R76), bound 1. -/
def execOr (f : FmtRR) (s : State) : Out := aluRR 1 (fun a b => a ||| b) f s

/-- XOR (R76), bound 1. -/
def execXor (f : FmtRR) (s : State) : Out := aluRR 1 (fun a b => a ^^^ b) f s

/-- SHL (R76), bound 1. -/
def execShl (f : FmtRR) (s : State) : Out := aluRR 1 (fun a b => a <<< shamt b) f s

/-- SHR (R76), bound 1. -/
def execShr (f : FmtRR) (s : State) : Out := aluRR 1 (fun a b => a >>> shamt b) f s

/-- SHA (R76), bound 1. -/
def execSha (f : FmtRR) (s : State) : Out := aluRR 1 (fun a b => a.sshiftRight (shamt b)) f s

/-- MUL (R76), bound 3. -/
def execMul (f : FmtRR) (s : State) : Out := aluRR 3 (fun a b => a * b) f s

/-- MULHS (R76), bound 3. -/
def execMulhs (f : FmtRR) (s : State) : Out := aluRR 3 (mulhs) f s

/-- MULHU (R76), bound 3. -/
def execMulhu (f : FmtRR) (s : State) : Out := aluRR 3 (mulhu) f s

/-- DIVS (R77), bound 20. -/
def execDivs (f : FmtRR) (s : State) : Out := aluRR 20 (divs) f s

/-- DIVU (R77), bound 20. -/
def execDivu (f : FmtRR) (s : State) : Out := aluRR 20 (divu) f s

/-- REMS (R77), bound 20. -/
def execRems (f : FmtRR) (s : State) : Out := aluRR 20 (rems) f s

/-- REMU (R77), bound 20. -/
def execRemu (f : FmtRR) (s : State) : Out := aluRR 20 (remu) f s

/-- MINS (R76), bound 1. -/
def execMins (f : FmtRR) (s : State) : Out := aluRR 1 (fun a b => if a.toInt ≤ b.toInt then a else b) f s

/-- MAXS (R76), bound 1. -/
def execMaxs (f : FmtRR) (s : State) : Out := aluRR 1 (fun a b => if a.toInt ≤ b.toInt then b else a) f s

/-- MINU (R76), bound 1. -/
def execMinu (f : FmtRR) (s : State) : Out := aluRR 1 (fun a b => if a.toNat ≤ b.toNat then a else b) f s

/-- MAXU (R76), bound 1. -/
def execMaxu (f : FmtRR) (s : State) : Out := aluRR 1 (fun a b => if a.toNat ≤ b.toNat then b else a) f s

/-- CLZ (R78), bound 1. -/
def execClz (f : FmtRR) (s : State) : Out := aluRR 1 (fun a _ => clz a) f s

/-- POPC (R78), bound 1. -/
def execPopc (f : FmtRR) (s : State) : Out := aluRR 1 (fun a _ => popc a) f s

/-- BEXT (R78), bound 2. -/
def execBext (f : FmtRR) (s : State) : Out := aluRR 2 (bext) f s

/-- BDEP (R78), bound 2. -/
def execBdep (f : FmtRR) (s : State) : Out := aluRR 2 (bdep) f s

/-- SEL (R78), bound 1: x[d] is read as the bit mask before it is written. -/
def execSel (f : FmtRR) (s : State) : Out :=
  guarded f.g s fun s =>
    let k := s.readX f.d
    s.landX f.d ((s.readX f.a &&& k) ||| (s.readX f.b &&& ~~~k)) 1

/-- ADDI (R79), bound 1. -/
def execAddi (f : FmtRI) (s : State) : Out := aluRI (f.imm.signExtend 64) (fun a b => a + b) f s

/-- ANDI (R79), bound 1. -/
def execAndi (f : FmtRI) (s : State) : Out := aluRI (f.imm.signExtend 64) (fun a b => a &&& b) f s

/-- ORI (R79), bound 1. -/
def execOri (f : FmtRI) (s : State) : Out := aluRI (f.imm.setWidth 64) (fun a b => a ||| b) f s

/-- XORI (R79), bound 1. -/
def execXori (f : FmtRI) (s : State) : Out := aluRI (f.imm.setWidth 64) (fun a b => a ^^^ b) f s

/-- SHLI (R79), bound 1. -/
def execShli (f : FmtRI) (s : State) : Out := aluRI (f.imm.setWidth 64) (fun a b => a <<< shamt b) f s

/-- SHRI (R79), bound 1. -/
def execShri (f : FmtRI) (s : State) : Out := aluRI (f.imm.setWidth 64) (fun a b => a >>> shamt b) f s

/-- SHAI (R79), bound 1. -/
def execShai (f : FmtRI) (s : State) : Out := aluRI (f.imm.setWidth 64) (fun a b => a.sshiftRight (shamt b)) f s

/-- LI (R80), bound 1. -/
def execLi (f : FmtLI) (s : State) : Out := guarded f.g s fun s => s.landX f.d (f.imm.signExtend 64) 1
/-- LIS (R80), bound 1. -/
def execLis (f : FmtLI) (s : State) : Out :=
  guarded f.g s fun s => s.landX f.d ((s.readX f.d <<< 14) ||| f.imm.setWidth 64) 1

/-- CMP.EQ (R81), bound 1. -/
def execCmpEq (f : FmtRR) (s : State) : Out :=
  compare f.g f.d (fun a b => a == b) f.a (fun s => s.readX f.b) s

/-- CMP.NE (R81), bound 1. -/
def execCmpNe (f : FmtRR) (s : State) : Out :=
  compare f.g f.d (fun a b => a != b) f.a (fun s => s.readX f.b) s

/-- CMP.LTS (R81), bound 1. -/
def execCmpLts (f : FmtRR) (s : State) : Out :=
  compare f.g f.d (fun a b => decide (a.toInt < b.toInt)) f.a (fun s => s.readX f.b) s

/-- CMP.LES (R81), bound 1. -/
def execCmpLes (f : FmtRR) (s : State) : Out :=
  compare f.g f.d (fun a b => decide (a.toInt ≤ b.toInt)) f.a (fun s => s.readX f.b) s

/-- CMP.LTU (R81), bound 1. -/
def execCmpLtu (f : FmtRR) (s : State) : Out :=
  compare f.g f.d (fun a b => decide (a.toNat < b.toNat)) f.a (fun s => s.readX f.b) s

/-- CMP.LEU (R81), bound 1. -/
def execCmpLeu (f : FmtRR) (s : State) : Out :=
  compare f.g f.d (fun a b => decide (a.toNat ≤ b.toNat)) f.a (fun s => s.readX f.b) s

/-- CMPI.EQ (R81), bound 1. -/
def execCmpiEq (f : FmtRI) (s : State) : Out :=
  compare f.g f.d (fun a b => a == b) f.a (fun _ => f.imm.signExtend 64) s

/-- CMPI.NE (R81), bound 1. -/
def execCmpiNe (f : FmtRI) (s : State) : Out :=
  compare f.g f.d (fun a b => a != b) f.a (fun _ => f.imm.signExtend 64) s

/-- CMPI.LTS (R81), bound 1. -/
def execCmpiLts (f : FmtRI) (s : State) : Out :=
  compare f.g f.d (fun a b => decide (a.toInt < b.toInt)) f.a (fun _ => f.imm.signExtend 64) s

/-- CMPI.LTU (R81), bound 1. -/
def execCmpiLtu (f : FmtRI) (s : State) : Out :=
  compare f.g f.d (fun a b => decide (a.toNat < b.toNat)) f.a (fun _ => f.imm.setWidth 64) s

/-- PAND (R82), bound 1. -/
def execPand (f : FmtPL) (s : State) : Out := predLogic (fun a b => a && b) f s

/-- POR (R82), bound 1. -/
def execPor (f : FmtPL) (s : State) : Out := predLogic (fun a b => a || b) f s

/-- PXOR (R82), bound 1. -/
def execPxor (f : FmtPL) (s : State) : Out := predLogic (fun a b => a != b) f s

/-- PNOT (R82), bound 1. -/
def execPnot (f : FmtPL) (s : State) : Out := predLogic (fun a _ => !a) f s


end Sys2Proof.Machine
end

