-- ==== Sys2Proof/Machine/Vector.lean ====
section
/-! DEFINITION. Vector arithmetic, compares, integer operations, conversions and block scaling (spec/10 R151 to R163, R176,
R177). -/
namespace Sys2Proof.Machine

/-! ## Values -/

/-- VRINT: rounded to an integral value; INX with the X mode when the result differs (R152). -/
def roundToInt (rm : Rm) (x : Bool) (a : FVal) : Flagged FVal :=
  match a with
  | .fin n m e =>
    if 0 ≤ e then ⟨.fin n m e, 0⟩
    else let r := roundInt rm n m e false; ⟨.fin n r.1 0, flagIf (x && r.2) fINX⟩
  | v => ⟨v, 0⟩

/-- The class bits of an encoding (Table 10.3). -/
def classOf (f : FloatFmt) (bits : Nat) : Nat :=
  match f.decode bits with
  | .nan g => if g then 2 ^ 8 else 2 ^ 9
  | .inf n => if n then 2 ^ 0 else 2 ^ 7
  | .fin n m _ =>
    if m = 0 then (if n then 2 ^ 3 else 2 ^ 4)
    else if m < 2 ^ f.fbits then (if n then 2 ^ 2 else 2 ^ 5)
    else (if n then 2 ^ 1 else 2 ^ 6)

/-- An integer modulo 2^w. -/
def wrapInt (w : Nat) (i : Int) : Nat := (i % (2 ^ w : Nat)).toNat

/-- An integer operation under a saturation mode: 0 wraps, 1 saturates signed, 2 unsigned (R157). -/
def satMode (w mode : Nat) (op : Int → Int → Int) (a b : Nat) : Flagged Nat :=
  match mode with
  | 1 => (intFmt w).sat (op (signedNat w a) (signedNat w b))
  | 2 => (IntFmt.mk w false 0).sat (op a b)
  | _ => ⟨wrapInt w (op a b), 0⟩

/-- VSHL of an element. -/
def shlEl (w a n : Nat) : Nat := if w ≤ n then 0 else a * 2 ^ n % 2 ^ w
/-- VSHR of an element. -/
def shrEl (w a n : Nat) : Nat := if w ≤ n then 0 else a / 2 ^ n
/-- VSHA of an element: w − 1 sign copies for an amount of w or more. -/
def shaEl (w a n : Nat) : Nat := wrapInt w (signedNat w a / (2 ^ min n (w - 1) : Nat))

/-- A shift by b's element, or by IMM[4:0] where IMM[15] is 1 (R157). -/
def vShift (f : VOp) (g : Nat → Nat → Nat → Nat) (s : State) : Out :=
  if f.imm.getLsbD 15 then vEl1 f 2 (fun _ a => ⟨g (tyWidth f.ty) a (f.imm.toNat % 32), 0⟩) s
  else vEl2 f 2 (fun _ a b => ⟨g (tyWidth f.ty) a b, 0⟩) s

/-! ## Compares (R155) -/

/-- A mask register with the bits of the enabled lanes replaced. -/
def maskMerge (mask old new : BitVec 128) : BitVec 128 := (old &&& ~~~mask) ||| (new &&& mask)

/-- A mask register written with bound `bound`; a write to m0 is discarded (R58). -/
def State.landM (s : State) (d : Nat) (v : BitVec 128) (bound : Nat) : State :=
  s.land ⟨.m, d⟩ (v.setWidth 4096) 0 bound

/-- A compare: the relation on each enabled lane, every other bit of the mask as it was (R155). -/
def vCmp (f : VOp) (rel : VIn → BitVec 32 → BitVec 32 → Flagged Bool) (s : State) : Out :=
  guarded f.g s fun s =>
    vIssue f [f.a, f.b] false (fun _ => .none) (fun v _ =>
      let r := (List.range 128).map fun i => rel v (v.a.lane i) (v.b.lane i)
      let bits := BitVec.ofNat 128 (r.foldr (fun x acc => acc * 2 + x.val.toNat) 0)
      ⟨maskFlags v.mask (zipFlags v.srcFlags (r.map (·.fl))),
       fun s => s.landM (f.d.toNat % 8) (maskMerge v.mask (s.readM (f.d.toNat % 8)) bits) 2⟩) s

/-- A floating compare; `inv` says when INV is raised. -/
def vCmpF (f : VOp) (rel inv : FVal → FVal → Bool) (s : State) : Out :=
  vCmp f (fun v a b =>
    let x := v.num fp32 a.toNat
    let y := v.num fp32 b.toNat
    ⟨rel x y, flagIf (inv x y) fINV⟩) s

/-- An integer compare. -/
def vCmpI (f : VOp) (rel : BitVec 32 → BitVec 32 → Bool) (s : State) : Out := vCmp f (fun _ a b => ⟨rel a b, 0⟩) s

/-! ## Lane-low values (R158, R159) -/

/-- The format of a conversion code under FMT, and its shift within the lane (Table 10.7). -/
def lowFmt (fmt : BitVec 4) (code : Nat) : EFmt × Nat × Nat :=
  match code with
  | 0 => (.float fp32, 0, 32) | 1 => (.float lf24, 8, 24) | 2 => (.float bf16, 0, 16) | 3 => (.float fp16, 0, 16)
  | 4 => (.float e4m3, 0, 8) | 5 => (.float e5m2, 0, 8) | 6 => (.int (intFmt 32), 0, 32) | 7 => (.int (intFmt 16), 0, 16)
  | _ => (.int (n8Of fmt), 0, (n8Of fmt).width)

/-- A value read from its lane-low position. -/
def lowRead (fmt : BitVec 4) (code : Nat) (x : BitVec 32) : Nat :=
  x.toNat / 2 ^ (lowFmt fmt code).2.1 % 2 ^ (lowFmt fmt code).2.2

/-- A value written in its lane-low position, every other bit zero. -/
def lowWrite (fmt : BitVec 4) (code : Nat) (v : Nat) : BitVec 32 :=
  BitVec.ofNat 32 (v % 2 ^ (lowFmt fmt code).2.2 * 2 ^ (lowFmt fmt code).2.1)

/-- A conversion to the same code: copied, but a signalling NaN becomes the canonical one (R159). -/
def sameCode (t : EFmt) (bits : Nat) : Flagged Nat :=
  match t with
  | .float f => if (f.decode bits).isSig then ⟨f.nan, fINV⟩ else ⟨bits, 0⟩
  | .int _ => ⟨bits, 0⟩

/-- A conversion of lane-low values between two codes (R159). -/
def convLow (fmt : BitVec 4) (rm : Rm) (ftz : Bool) (src dst : Nat) (x : BitVec 32) : Flagged (BitVec 32) :=
  let v := lowRead fmt src x
  let r := if src = dst then sameCode (lowFmt fmt src).1 v else convert (lowFmt fmt src).1 (lowFmt fmt dst).1 rm ftz v
  ⟨lowWrite fmt dst r.val, r.fl⟩

/-- An instruction on one value per lane. -/
def vLow (f : VOp) (bound : Nat) (g : VIn → BitVec 32 → Flagged (BitVec 32)) (s : State) : Out :=
  vLanes f [f.a] false bound (fun v i => g v (v.a.lane i)) s

/-! ## The instructions -/

/-- VADD (R151), bound 4. -/
def execVadd (f : VOp) (s : State) : Out :=
  vEl2 f 4 (fun v a b => v.rnd (tyFloat f.ty) (fAdd v.rm (v.num (tyFloat f.ty) a) (v.num (tyFloat f.ty) b))) s

/-- VSUB (R151), bound 4. -/
def execVsub (f : VOp) (s : State) : Out :=
  vEl2 f 4 (fun v a b => v.rnd (tyFloat f.ty) (fAdd v.rm (v.num (tyFloat f.ty) a) (v.num (tyFloat f.ty) b).negate)) s

/-- VMUL (R151), bound 4. -/
def execVmul (f : VOp) (s : State) : Out :=
  vEl2 f 4 (fun v a b => v.rnd (tyFloat f.ty) (fMul (v.num (tyFloat f.ty) a) (v.num (tyFloat f.ty) b))) s

/-- VFMA (R151), bound 5: a·b + c. -/
def execVfma (f : VOp) (s : State) : Out :=
  vEl3 f 5 (fun v a b c => v.rnd (tyFloat f.ty) (fFma v.rm (v.num (tyFloat f.ty) a) (v.num (tyFloat f.ty) b) (v.num (tyFloat f.ty) c))) s

/-- VFMS (R151), bound 5: a·b − c. -/
def execVfms (f : VOp) (s : State) : Out :=
  vEl3 f 5 (fun v a b c => v.rnd (tyFloat f.ty) (fFma v.rm (v.num (tyFloat f.ty) a) (v.num (tyFloat f.ty) b) (v.num (tyFloat f.ty) c).negate)) s

/-- VFNMA (R151), bound 5: c − a·b. -/
def execVfnma (f : VOp) (s : State) : Out :=
  vEl3 f 5 (fun v a b c => v.rnd (tyFloat f.ty) (fFma v.rm (v.num (tyFloat f.ty) a).negate (v.num (tyFloat f.ty) b) (v.num (tyFloat f.ty) c))) s

/-- VMIN (R152), bound 2. -/
def execVmin (f : VOp) (s : State) : Out :=
  vEl2 f 2 (fun v a b => v.rnd (tyFloat f.ty) (fMinMax false (v.num (tyFloat f.ty) a) (v.num (tyFloat f.ty) b))) s

/-- VMAX (R152), bound 2. -/
def execVmax (f : VOp) (s : State) : Out :=
  vEl2 f 2 (fun v a b => v.rnd (tyFloat f.ty) (fMinMax true (v.num (tyFloat f.ty) a) (v.num (tyFloat f.ty) b))) s

/-- VABS (R152), bound 2: the sign bit cleared, no flag. -/
def execVabs (f : VOp) (s : State) : Out :=
  vEl1 f 2 (fun _ a => ⟨a % 2 ^ (tyFloat f.ty).signBit, 0⟩) s

/-- VNEG (R152), bound 2: the sign bit inverted, no flag. -/
def execVneg (f : VOp) (s : State) : Out :=
  vEl1 f 2 (fun _ a => ⟨a ^^^ 2 ^ (tyFloat f.ty).signBit, 0⟩) s

/-- VCPYS (R152), bound 2: a with the sign bit of b, no flag. -/
def execVcpys (f : VOp) (s : State) : Out :=
  vEl2 f 2 (fun _ a b => ⟨(tyFloat f.ty).signed (b.testBit (tyFloat f.ty).signBit) (a % 2 ^ (tyFloat f.ty).signBit), 0⟩) s

/-- VDIV (R131, R154), bound 16. -/
def execVdiv (f : VOp) (s : State) : Out :=
  vEl2 f 16 (fun v a b => fDiv (tyFloat f.ty) v.rm v.ftz (v.num (tyFloat f.ty) a) (v.num (tyFloat f.ty) b)) s

/-- VSQRT (R131, R154), bound 16. -/
def execVsqrt (f : VOp) (s : State) : Out :=
  vEl1 f 16 (fun v a => fSqrt (tyFloat f.ty) v.rm v.ftz (v.num (tyFloat f.ty) a)) s

/-- VRCP (R131, R154), bound 24. -/
def execVrcp (f : VOp) (s : State) : Out :=
  vEl1 f 24 (fun v a => fRcp (tyFloat f.ty) v.rm v.ftz (v.num (tyFloat f.ty) a)) s

/-- VRSQ (R131, R154), bound 24. -/
def execVrsq (f : VOp) (s : State) : Out :=
  vEl1 f 24 (fun v a => fRsq (tyFloat f.ty) v.rm v.ftz (v.num (tyFloat f.ty) a)) s

/-- VEXP2 (R131, R154), bound 24. -/
def execVexp2 (f : VOp) (s : State) : Out :=
  vEl1 f 24 (fun v a => fExp2 (tyFloat f.ty) v.rm v.ftz (v.num (tyFloat f.ty) a)) s

/-- VLOG2 (R131, R154), bound 24. -/
def execVlog2 (f : VOp) (s : State) : Out :=
  vEl1 f 24 (fun v a => fLog2 (tyFloat f.ty) v.rm v.ftz (v.num (tyFloat f.ty) a)) s

/-- VRINT (R152), bound 4. -/
def execVrint (f : VOp) (s : State) : Out :=
  vEl1 f 4 (fun v a => v.rnd (tyFloat f.ty) (roundToInt v.rm (f.imm.getLsbD 0) (v.num (tyFloat f.ty) a))) s

/-- VCLASS (R152, Table 10.3), bound 2. -/
def execVclass (f : VOp) (s : State) : Out :=
  vEl1 f 2 (fun _ a => ⟨classOf (tyFloat f.ty) a, 0⟩) s

/-- VCMP.EQ (R155), bound 2. -/
def execVcmpEq (f : VOp) (s : State) : Out :=
  vCmpF f (fun a b => fEq a b) (fun a b => a.isSig || b.isSig) s

/-- VCMP.NE (R155), bound 2. -/
def execVcmpNe (f : VOp) (s : State) : Out :=
  vCmpF f (fun a b => !fEq a b) (fun a b => a.isSig || b.isSig) s

/-- VCMP.LT (R155), bound 2. -/
def execVcmpLt (f : VOp) (s : State) : Out :=
  vCmpF f (fun a b => fLt a b) (fun a b => a.isNan || b.isNan) s

/-- VCMP.LE (R155), bound 2. -/
def execVcmpLe (f : VOp) (s : State) : Out :=
  vCmpF f (fun a b => fLt a b || fEq a b) (fun a b => a.isNan || b.isNan) s

/-- VCMP.UN (R155), bound 2. -/
def execVcmpUn (f : VOp) (s : State) : Out :=
  vCmpF f (fun a b => a.isNan || b.isNan) (fun a b => a.isSig || b.isSig) s

/-- VCMP.OD (R155), bound 2. -/
def execVcmpOd (f : VOp) (s : State) : Out :=
  vCmpF f (fun a b => !(a.isNan || b.isNan)) (fun a b => a.isSig || b.isSig) s

/-- VSEL (R156), bound 2: whole lanes by mask register C. -/
def execVsel (f : VOp) (s : State) : Out :=
  vLanes f [f.a, f.b] false 2 (fun v i =>
    ⟨if (s.readM (f.c.toNat % 8)).getLsbD i then v.a.lane i else v.b.lane i, 0⟩) s

/-- VIADD (R157), bound 2. -/
def execViadd (f : VOp) (s : State) : Out :=
  vEl2 f 2 (fun _ a b => satMode (tyWidth f.ty) (f.imm.toNat % 4) (fun x y => x + y) a b) s

/-- VISUB (R157), bound 2. -/
def execVisub (f : VOp) (s : State) : Out :=
  vEl2 f 2 (fun _ a b => satMode (tyWidth f.ty) (f.imm.toNat % 4) (fun x y => x - y) a b) s

/-- VIMUL (R157), bound 4. -/
def execVimul (f : VOp) (s : State) : Out :=
  vEl2 f 4 (fun _ a b => ⟨a * b, 0⟩) s

/-- VIMULH (R157), bound 4. -/
def execVimulh (f : VOp) (s : State) : Out :=
  vEl2 f 4 (fun _ a b => ⟨if f.imm.getLsbD 0 then a * b / 2 ^ (tyWidth f.ty) else wrapInt (tyWidth f.ty) (signedNat (tyWidth f.ty) a * signedNat (tyWidth f.ty) b / 2 ^ (tyWidth f.ty)), 0⟩) s

/-- VAND (R157), bound 2. -/
def execVand (f : VOp) (s : State) : Out :=
  vEl2 f 2 (fun _ a b => ⟨a &&& b, 0⟩) s

/-- VOR (R157), bound 2. -/
def execVor (f : VOp) (s : State) : Out :=
  vEl2 f 2 (fun _ a b => ⟨a ||| b, 0⟩) s

/-- VXOR (R157), bound 2. -/
def execVxor (f : VOp) (s : State) : Out :=
  vEl2 f 2 (fun _ a b => ⟨a ^^^ b, 0⟩) s

/-- VNOT (R157), bound 2. -/
def execVnot (f : VOp) (s : State) : Out :=
  vEl1 f 2 (fun _ a => ⟨2 ^ (tyWidth f.ty) - 1 - a, 0⟩) s

/-- VSHL (R157), bound 2. -/
def execVshl (f : VOp) (s : State) : Out :=
  vShift f shlEl s

/-- VSHR (R157), bound 2. -/
def execVshr (f : VOp) (s : State) : Out :=
  vShift f shrEl s

/-- VSHA (R157), bound 2. -/
def execVsha (f : VOp) (s : State) : Out :=
  vShift f shaEl s

/-- VIMIN (R157), bound 2. -/
def execVimin (f : VOp) (s : State) : Out :=
  vEl2 f 2 (fun _ a b => ⟨if signedNat (tyWidth f.ty) a ≤ signedNat (tyWidth f.ty) b then a else b, 0⟩) s

/-- VIMAX (R157), bound 2. -/
def execVimax (f : VOp) (s : State) : Out :=
  vEl2 f 2 (fun _ a b => ⟨if signedNat (tyWidth f.ty) a ≤ signedNat (tyWidth f.ty) b then b else a, 0⟩) s

/-- VIMINU (R157), bound 2. -/
def execViminu (f : VOp) (s : State) : Out :=
  vEl2 f 2 (fun _ a b => ⟨if a ≤ b then a else b, 0⟩) s

/-- VIMAXU (R157), bound 2. -/
def execVimaxu (f : VOp) (s : State) : Out :=
  vEl2 f 2 (fun _ a b => ⟨if a ≤ b then b else a, 0⟩) s

/-- VICMP.EQ (R155), bound 2. -/
def execVicmpEq (f : VOp) (s : State) : Out :=
  vCmpI f (fun a b => a == b) s

/-- VICMP.LT (R155), bound 2. -/
def execVicmpLt (f : VOp) (s : State) : Out :=
  vCmpI f (fun a b => a.slt b) s

/-- VICMP.LTU (R155), bound 2. -/
def execVicmpLtu (f : VOp) (s : State) : Out :=
  vCmpI f (fun a b => a.ult b) s

/-- VCVTF (R159), bound 4. -/
def execVcvtf (f : VOp) (s : State) : Out :=
  vLow f 4 (fun v => convLow v.fmt v.rm v.ftz (f.imm.toNat % 16) (f.imm.toNat / 16 % 16)) s

/-- VCVTI (R159), bound 4. -/
def execVcvti (f : VOp) (s : State) : Out :=
  vLow f 4 (fun v => convLow v.fmt v.rm v.ftz (f.imm.toNat % 16) (f.imm.toNat / 16 % 16)) s

/-- VCVTIF (R159), bound 4. -/
def execVcvtif (f : VOp) (s : State) : Out :=
  vLow f 4 (fun v => convLow v.fmt v.rm v.ftz (f.imm.toNat % 16) (f.imm.toNat / 16 % 16)) s

/-- VPACK (R160), bound 3. -/
def execVpack (f : VOp) (s : State) : Out :=
  vLanes f [f.a, f.b] false 3 (fun v i =>
    let a := v.a.lane i
    let b := v.b.lane i
    ⟨if f.imm.getLsbD 0 then b.extractLsb' 16 8 ++ b.extractLsb' 0 8 ++ a.extractLsb' 16 8 ++ a.extractLsb' 0 8
      else b.extractLsb' 0 16 ++ a.extractLsb' 0 16, 0⟩) s

/-- VUNPK.LO and VUNPK.HI of a lane: the half `hi`, in 16-bit or 8-bit parts, sign- or zero-extended (R160). -/
def unpack (hi : Bool) (imm : BitVec 16) (a : BitVec 32) : BitVec 32 :=
  let h : BitVec 16 := if hi then a.extractLsb' 16 16 else a.extractLsb' 0 16
  let sx := imm.getLsbD 2
  if imm.getLsbD 0 then
    let p : BitVec 8 := h.extractLsb' 8 8
    let q : BitVec 8 := h.extractLsb' 0 8
    if sx then p.signExtend 16 ++ q.signExtend 16 else p.setWidth 16 ++ q.setWidth 16
  else if sx then h.signExtend 32 else h.setWidth 32

/-- VUNPK.LO (R160), bound 3. -/
def execVunpkLo (f : VOp) (s : State) : Out := vLow f 3 (fun _ a => ⟨unpack false f.imm a, 0⟩) s

/-- VUNPK.HI (R160), bound 3. -/
def execVunpkHi (f : VOp) (s : State) : Out := vLow f 3 (fun _ a => ⟨unpack true f.imm a, 0⟩) s

/-- A lane's scale: FP32, or E8 with IMM[0] = 1 (R161). -/
def laneScale (v : VIn) (f : VOp) (x : BitVec 32) : FVal :=
  if f.imm.getLsbD 0 then e8Scale (x.setWidth 8) else v.num fp32 x.toNat

/-- VQNT (R161), bound 8. -/
def execVqnt (f : VOp) (s : State) : Out :=
  vLanes f [f.a, f.b] false 8 (fun v i =>
    let q := quantInt (n8Of v.fmt) v.rm (v.num fp32 (v.a.lane i).toNat) (laneScale v f (v.b.lane i))
    ⟨lowWrite v.fmt 8 q.val, q.fl⟩) s

/-- VDQT (R161), bound 4. -/
def execVdqt (f : VOp) (s : State) : Out :=
  vLanes f [f.a, f.b] false 4 (fun v i =>
    let sc := laneScale v f (v.b.lane i)
    let q : Flagged Nat :=
      if sc.isNan then ⟨fp32.nan, fNBS⟩
      else ((n8Of v.fmt).decode (lowRead v.fmt 8 (v.a.lane i))).bind fun n => dequantVal fp32 v.ftz (intVal n) sc
    ⟨BitVec.ofNat 32 q.val, q.fl⟩) s

/-- The block scale of VBSC for the enabled lanes' values (R162). -/
def blockScale (fmt : BitVec 4) (f32s : Bool) (l : List FVal) : Flagged Nat :=
  let t := n8Of fmt
  let qmax : Nat := if t.sgn then 2 ^ (t.width - 1) - 1 else 2 ^ t.width - 1
  if l.any fun x => x.isNan || x.isInf then ⟨if f32s then fp32.nan else 0xFF, fINV⟩
  else
    let big := l.foldl (fun m x => if fLess (FVal.withSign false m) (x.withSign false) then x.withSign false else m)
      (.fin false 0 0)
    match big with
    | .fin _ m e =>
      if f32s then
        if m = 0 then ⟨0x3F800000, 0⟩
        else let (q, x, st) := divMag m e qmax 0; fp32.round .rup false false q x st
      else
        match (List.range 255).find? fun (k : Nat) =>
          !fLess (.fin false qmax ((k : Int) - 127)) (.fin false m e) with
        | some k => ⟨k, 0⟩
        | none => ⟨0xFE, fSAT⟩
    | _ => ⟨0, 0⟩

/-- VBSC (R162), bound 8. DESIGN CHOICE: a block's flag counts in DETAIL0 and DETAIL1 for every enabled lane of the block (log
entry 132). -/
def execVbsc (f : VOp) (s : State) : Out :=
  guarded f.g s fun s =>
    vIssue f [f.a] false (fun _ => .none) (fun v us =>
      let b := 2 ^ (f.imm.toNat % 8 + 2)
      let scales := (List.range (128 / b)).map fun k =>
        blockScale v.fmt (f.imm.getLsbD 3)
          (((List.range b).filter fun j => v.on (b * k + j)).map fun j => v.num fp32 (v.a.lane (b * k + j)).toNat)
      vWrite f v us 8 ((List.range 128).map fun i =>
        let q := scales.getD (i / b) ⟨0, 0⟩
        ⟨BitVec.ofNat 32 q.val, if v.on i then q.fl else 0⟩) s.core.spad) s

/-- VPSD (R163), bound 4. -/
def execVpsd (f : VOp) (s : State) : Out :=
  vLow f 4 (fun _ a =>
    let n := ps8Value (a.extractLsb' (8 * (f.imm.toNat % 4)) 8)
    ⟨BitVec.ofNat 32 (fp32.round .rne false (decide (n < 0)) n.natAbs (-6) false).val, 0⟩) s

/-- VCLAMP (R152), bound 2: the maximum with b, then the minimum with c. -/
def execVclamp (f : VOp) (s : State) : Out :=
  vEl3 f 2 (fun v a b c =>
    v.rnd (tyFloat f.ty) ((fMinMax true (v.num (tyFloat f.ty) a) (v.num (tyFloat f.ty) b)).bind fun m =>
      fMinMax false m (v.num (tyFloat f.ty) c))) s

/-- VLERP (R151, R152), bound 5: a + c·(b − a), one rounding. -/
def execVlerp (f : VOp) (s : State) : Out :=
  vEl3 f 5 (fun v a b c =>
    let x := v.num (tyFloat f.ty) a
    v.rnd (tyFloat f.ty) ((fAdd v.rm (v.num (tyFloat f.ty) b) x.negate).bind fun d =>
      (fMul (v.num (tyFloat f.ty) c) d).bind fun p => fAdd v.rm x p)) s

/-- VRELU of a value (R153). -/
def relu (imm : BitVec 16) (a : FVal) : Flagged FVal :=
  match a with
  | .nan g => ⟨.nan false, flagIf g fINV⟩
  | a =>
    if a.isZero then ⟨.fin false 0 0, 0⟩
    else if !a.neg then ⟨a, 0⟩
    else if !imm.getLsbD 8 then ⟨.fin false 0 0, 0⟩
    else ps8Mul (imm.setWidth 8) a

/-- VRELU (R153), bound 2. -/
def execVrelu (f : VOp) (s : State) : Out :=
  vEl1 f 2 (fun v a => v.rnd (tyFloat f.ty) (relu f.imm (v.num (tyFloat f.ty) a))) s

/-- VEXP (R131, R154), bound 24. -/
def execVexp (f : VOp) (s : State) : Out :=
  vEl1 f 24 (fun v a => fExp (tyFloat f.ty) v.rm v.ftz (v.num (tyFloat f.ty) a)) s

/-- VLN (R131, R154), bound 24. -/
def execVln (f : VOp) (s : State) : Out :=
  vEl1 f 24 (fun v a => fLn (tyFloat f.ty) v.rm v.ftz (v.num (tyFloat f.ty) a)) s

/-- VTANH (R131, R154), bound 24. -/
def execVtanh (f : VOp) (s : State) : Out :=
  vEl1 f 24 (fun v a => fTanh (tyFloat f.ty) v.rm v.ftz (v.num (tyFloat f.ty) a)) s

/-- VERF (R131, R154), bound 24. -/
def execVerf (f : VOp) (s : State) : Out :=
  vEl1 f 24 (fun v a => fErf (tyFloat f.ty) v.rm v.ftz (v.num (tyFloat f.ty) a)) s

/-- VSIN (R131, R154), bound 24. -/
def execVsin (f : VOp) (s : State) : Out :=
  vEl1 f 24 (fun v a => fTrig false (tyFloat f.ty) v.rm v.ftz (v.num (tyFloat f.ty) a)) s

/-- VCOS (R131, R154), bound 24. -/
def execVcos (f : VOp) (s : State) : Out :=
  vEl1 f 24 (fun v a => fTrig true (tyFloat f.ty) v.rm v.ftz (v.num (tyFloat f.ty) a)) s

/-- VATN2 (R131, R154), bound 24. -/
def execVatn2 (f : VOp) (s : State) : Out :=
  vEl2 f 24 (fun v a b =>
    fAtan2 (tyFloat f.ty) v.rm v.ftz (v.num (tyFloat f.ty) a) (v.num (tyFloat f.ty) b)) s

/-- VTURN (R176), bound 4. -/
def execVturn (f : VOp) (s : State) : Out :=
  vLow f 4 (fun v a => let k := toT16 v.rm (v.num fp32 a.toNat); ⟨k.val.setWidth 32, k.fl⟩) s

/-- VTCS (R177), bound 24. -/
def execVtcs (f : VOp) (s : State) : Out :=
  vLow f 24 (fun _ a =>
    let cs := expandCs (a.setWidth 16)
    let n := if f.imm.getLsbD 0 then cs.2 else cs.1
    ⟨if f.imm.getLsbD 1 then
        BitVec.ofNat 32 (fp32.round .rne false (decide (n.toInt < 0)) n.toInt.natAbs (-22) false).val
      else n.signExtend 32, 0⟩) s

/-- VHYP (R131, R154), bound 24. -/
def execVhyp (f : VOp) (s : State) : Out :=
  vEl2 f 24 (fun v a b =>
    fHyp (tyFloat f.ty) v.rm v.ftz (v.num (tyFloat f.ty) a) (v.num (tyFloat f.ty) b)) s

end Sys2Proof.Machine
end

