-- ==== Sys2Proof/Machine/VectorMove.lean ====
section
/-! DEFINITION. Reductions, lane movement, scalar and mask moves, scratchpad access, stream control and FMT (spec/10 R164 to
R175). -/
namespace Sys2Proof.Machine

/-! ## Reductions (R132, R164) -/

/-- A node of the tree: its value and the lanes whose elements it combines. -/
structure Node (α : Type) where
  val : α
  lanes : BitVec 128

/-- Flags a node raised, with the lanes they count for (R130). -/
abbrev NodeFlags := List (Flags × BitVec 128)

/-- One level of the pairwise tree; an absent input passes the other on. -/
def treeLevel (comb : α → α → Flagged α) (l : List (Option (Node α))) : List (Option (Node α)) × NodeFlags :=
  match l with
  | [] => ([], [])
  | [x] => ([x], [])
  | x :: y :: r =>
    let (ns, fl) := treeLevel comb r
    match x, y with
    | none, y => (y :: ns, fl)
    | x, none => (x :: ns, fl)
    | some a, some b =>
      let v := comb a.val b.val
      let ln := a.lanes ||| b.lanes
      (some ⟨v.val, ln⟩ :: ns, (v.fl, ln) :: fl)

/-- The tree to its root, at most `k` levels. -/
def tree (comb : α → α → Flagged α) : Nat → List (Option (Node α)) → Option (Node α) × NodeFlags
  | 0, l => (l.headD none, [])
  | k + 1, l =>
    let (l, fl) := treeLevel comb l
    let (r, fs) := tree comb k l
    (r, fl ++ fs)

/-- Node flags laid out lane by lane. -/
def nodeFlags (l : NodeFlags) : List Flags :=
  (List.range 128).map fun i => l.foldl (fun acc p => if p.2.getLsbD i then acc ||| p.1 else acc) 0

/-- The elements of the enabled lanes in index order, each with its lane (R132). -/
def leaves (v : VIn) (ty : BitVec 3) (a : VSrc) : List (Option (Node Nat)) :=
  ((List.range 128).map fun i =>
    (splitLane (tyWidth ty) (a.lane i)).map fun x => if v.on i then some ⟨x, 1#128 <<< i⟩ else none).flatten

/-- Leaves turned into nodes of another kind, with flags. -/
def mapLeaves (g : Nat → Flagged α) (l : List (Option (Node Nat))) : List (Option (Node α)) × NodeFlags :=
  (l.map fun o => o.map fun n => ⟨(g n.val).val, n.lanes⟩,
   l.filterMap fun o => o.map fun n => ((g n.val).fl, n.lanes))

/-- A packed element widened to FP32; an FP32 element read under FTZ, otherwise unchanged (R125, R132). -/
def widen (v : VIn) (t : FloatFmt) (x : Nat) : Flagged Nat :=
  if t = fp32 then
    match v.num fp32 x with
    | .fin n m _ => if m = 0 then ⟨fp32.signed n 0, 0⟩ else ⟨x, 0⟩
    | _ => ⟨x, 0⟩
  else fp32.encode .rne false (v.num t x)

/-- The value of an integer element, sign-extended. -/
def intLeaf (w x : Nat) : Int := signedNat w x

/-- The write of a reduction's result: FP32 in lane 0, or 64 bits in lanes 0 and 1 (R164). DESIGN CHOICE: an INT32 VRDOT's exact sum
is taken modulo 2^64 (log entry 133). -/
def reduceWrite (f : VOp) (bound : Nat) (v : VIn) (fl : NodeFlags) (r : Sum Nat Int) : VEffect :=
  ⟨zipFlags (maskFlags v.mask v.srcFlags) (nodeFlags fl), fun s =>
    match r with
    | .inl x => s.landV f.d (BitVec.ofNat 4096 x) 1 bound
    | .inr i => s.landV f.d ((BitVec.ofInt 64 i).setWidth 4096) 3 bound⟩

/-- A reduction of one source: how float nodes and integer nodes combine, and what a leaf becomes. -/
def vReduce (f : VOp) (fcomb : VIn → Nat → Nat → Flagged Nat) (icomb : Int → Int → Int) (fleaf : Nat → Nat)
    (ileaf : Int → Int) (s : State) : Out :=
  guarded f.g s fun s =>
    vIssue f [f.a] false (fun _ => .none) (fun v _ =>
      let l := leaves v f.ty v.a
      if f.ty.toNat ≤ 2 then
        let (n, fl) := mapLeaves (fun x => let r := widen v (tyFloat f.ty) x; ⟨fleaf r.val, r.fl⟩) l
        let (r, fs) := tree (fcomb v) 9 n
        reduceWrite f 8 v (fl ++ fs) (.inl ((r.map (·.val)).getD 0))
      else
        let (n, _) := mapLeaves (fun x => ⟨ileaf (intLeaf (tyWidth f.ty) x), 0⟩) l
        let (r, _) := tree (fun a b => ⟨icomb a b, 0⟩) 9 n
        reduceWrite f 8 v [] (.inr ((r.map (·.val)).getD 0))) s

/-- An FP32 sum node rounded under RM. -/
def sumNode (v : VIn) (a b : Nat) : Flagged Nat := v.rnd fp32 (fAdd v.rm (v.num fp32 a) (v.num fp32 b))

/-- VRSUM (R164), bound 8. -/
def execVrsum (f : VOp) (s : State) : Out := vReduce f sumNode (fun a b => a + b) id id s

/-- VRMAX (R164), bound 8. -/
def execVrmax (f : VOp) (s : State) : Out :=
  vReduce f (fun v a b => v.rnd fp32 (fMinMax true (v.num fp32 a) (v.num fp32 b))) max id id s

/-- VRMIN (R164), bound 8. -/
def execVrmin (f : VOp) (s : State) : Out :=
  vReduce f (fun v a b => v.rnd fp32 (fMinMax false (v.num fp32 a) (v.num fp32 b))) min id id s

/-- VRAMAX (R164), bound 8: |x| at each leaf. -/
def execVramax (f : VOp) (s : State) : Out :=
  vReduce f (fun v a b => v.rnd fp32 (fMinMax true (v.num fp32 a) (v.num fp32 b))) max (fun x => x % 2 ^ 31)
    (fun i => i.natAbs) s

/-- The level-1 nodes of VRDOT: fused, or one rounded product where the other is absent (R132). -/
def dotLevel (v : VIn) (t : FloatFmt) : List (Option (Node (Nat × Nat))) → List (Option (Node Nat)) × NodeFlags
  | x :: y :: r =>
    let (ns, fl) := dotLevel v t r
    let prod (n : Node (Nat × Nat)) := fMul (v.num t n.val.1) (v.num t n.val.2)
    match x, y with
    | none, none => (none :: ns, fl)
    | some a, none | none, some a =>
      let q := v.rnd fp32 (prod a)
      (some ⟨q.val, a.lanes⟩ :: ns, (q.fl, a.lanes) :: fl)
    | some a, some b =>
      let q := v.rnd fp32 ((prod a).bind fun p => (prod b).bind fun q => fAdd v.rm p q)
      let ln := a.lanes ||| b.lanes
      (some ⟨q.val, ln⟩ :: ns, (q.fl, ln) :: fl)
  | _ => ([], [])

/-- VRDOT (R132, R164), bound 8. -/
def execVrdot (f : VOp) (s : State) : Out :=
  guarded f.g s fun s =>
    vIssue f [f.a, f.b] false (fun _ => .none) (fun v _ =>
      let l := List.zipWith (fun (a b : Option (Node Nat)) =>
        match a, b with
        | some a, some b => some (Node.mk (a.val, b.val) a.lanes)
        | _, _ => none) (leaves v f.ty v.a) (leaves v f.ty v.b)
      if f.ty.toNat ≤ 2 then
        let (n, fl) := dotLevel v (tyFloat f.ty) l
        let (r, fs) := tree (sumNode v) 8 n
        reduceWrite f 8 v (fl ++ fs) (.inl ((r.map (·.val)).getD 0))
      else
        let w := tyWidth f.ty
        reduceWrite f 8 v [] (.inr ((l.filterMap fun o => o.map fun n => intLeaf w n.val.1 * intLeaf w n.val.2).sum))) s

/-- VPSUM lane by lane: the running value (none before the first enabled lane) and the results so far (R133, R165). -/
def prefixSum (v : VIn) (add : Nat → Nat → Flagged Nat) : List Nat → Option Nat → List (Flagged (BitVec 32))
  | [], _ => []
  | i :: is, acc =>
    if !v.on i then ⟨BitVec.ofNat 32 (acc.getD 0), 0⟩ :: prefixSum v add is acc
    else
      match acc with
      | none => ⟨v.a.lane i, 0⟩ :: prefixSum v add is (some (v.a.lane i).toNat)
      | some p =>
        let r := add p (v.a.lane i).toNat
        ⟨BitVec.ofNat 32 r.val, r.fl⟩ :: prefixSum v add is (some r.val)

/-- VPSUM (R165), bound 8: every lane is written. -/
def execVpsum (f : VOp) (s : State) : Out :=
  guarded f.g s fun s =>
    vIssueW true f [f.a] false (fun _ => .none) (fun v us =>
      let add := if f.ty = 0 then sumNode v else fun a b => ⟨a + b, 0⟩
      vWriteAll f v us 8 (prefixSum v add (List.range 128) none) s.core.spad) s

/-! ## Lane movement (R166, R167) -/

/-- A movement of whole lanes: lane `i` of the result from the sources read whole. -/
def vMove (f : VOp) (srcs : List (BitVec 7)) (g : VIn → Nat → BitVec 32) (s : State) : Out :=
  vLanes f srcs true 3 (fun v i => ⟨g v i, 0⟩) s

/-- VSHUF (R166), bound 3. -/
def execVshuf (f : VOp) (s : State) : Out :=
  vMove f [f.a, f.b] (fun v i =>
    let k := v.b.lane i
    if k.getLsbD 7 then 0 else v.a.lane (k.toNat % 128)) s

/-- VBCST (R166), bound 3. -/
def execVbcst (f : VOp) (s : State) : Out := vMove f [f.a] (fun v _ => v.a.lane (f.imm.toNat % 128)) s

/-- VLROT (R166), bound 3. -/
def execVlrot (f : VOp) (s : State) : Out := vMove f [f.a] (fun v i => v.a.lane ((i + f.imm.toNat) % 128)) s

/-- VSLIDE (R166), bound 3. -/
def execVslide (f : VOp) (s : State) : Out :=
  vMove f [f.a, f.b] (fun v i =>
    let j := i + f.imm.toNat % 128
    if j < 128 then v.a.lane j else v.b.lane (j - 128)) s

/-- VZIP (R166), bound 3. -/
def execVzip (f : VOp) (s : State) : Out :=
  vMove f [f.a, f.b] (fun v i =>
    let j := i / 2 + 64 * (f.imm.toNat % 2)
    if i % 2 = 0 then v.a.lane j else v.b.lane j) s

/-- VUZP (R166), bound 3. -/
def execVuzp (f : VOp) (s : State) : Out :=
  vMove f [f.a, f.b] (fun v i =>
    let o := f.imm.toNat % 2
    if i < 64 then v.a.lane (2 * i + o) else v.b.lane (2 * (i - 64) + o)) s

/-- VREV (R166), bound 3. -/
def execVrev (f : VOp) (s : State) : Out := vMove f [f.a] (fun v i => v.a.lane (127 - i)) s

/-- VCOMP (R167), bound 3: the mask selects; every lane is written. -/
def execVcomp (f : VOp) (s : State) : Out :=
  guarded f.g s fun s =>
    vIssueW true f [f.a] true (fun _ => .none) (fun v us =>
      let sel := ((List.range 128).filter v.on).map v.a.lane
      vWriteAll f v us 3 ((List.range 128).map fun i => ⟨sel.getD i 0, 0⟩) s.core.spad) s

/-! ## Scalar and mask moves (R168) -/

/-- VMVX (R168), bound 3. -/
def execVmvx (f : VOp) (s : State) : Out :=
  vLanes f [] false 3 (fun _ _ => ⟨(s.readX (f.a.setWidth 6)).setWidth 32, 0⟩) s

/-- VINS (R168), bound 3. -/
def execVins (f : VOp) (s : State) : Out :=
  guarded f.g s fun s =>
    let k := f.imm.toNat % 128
    s.landV f.d (((s.readX (f.a.setWidth 6)).setWidth 32).setWidth 4096 <<< (32 * k)) (1#128 <<< k) 3

/-- VEXT (R168), bound 3. -/
def execVext (f : VOp) (s : State) : Out :=
  vScalar f [f.a] true (fun v s =>
    let x := v.a.lane (f.imm.toNat % 128)
    s.landX f.d (if f.imm.getLsbD 7 then x.signExtend 64 else x.setWidth 64) 3) s

/-- VMVP (R168), bound 3. -/
def execVmvp (f : VOp) (s : State) : Out :=
  guarded f.g s fun s =>
    let m := s.readM (f.a.toNat % 8)
    s.landP (f.d.toNat % 16) (if f.imm.getLsbD 7 then m != 0 else m.getLsbD (f.imm.toNat % 128)) 3

/-- A mask operation, bound 1. -/
def maskOp (g : BitVec 128 → BitVec 128 → BitVec 128) (f : VOp) (s : State) : Out :=
  guarded f.g s fun s => s.landM (f.d.toNat % 8) (g (s.readM (f.a.toNat % 8)) (s.readM (f.b.toNat % 8))) 1

/-- MAND (R168), bound 1. -/
def execMand (f : VOp) (s : State) : Out := maskOp (fun a b => a &&& b) f s
/-- MOR (R168), bound 1. -/
def execMor (f : VOp) (s : State) : Out := maskOp (fun a b => a ||| b) f s
/-- MXOR (R168), bound 1. -/
def execMxor (f : VOp) (s : State) : Out := maskOp (fun a b => a ^^^ b) f s
/-- MNOT (R168), bound 1. -/
def execMnot (f : VOp) (s : State) : Out := maskOp (fun a _ => ~~~a) f s

/-- The number of one bits of a mask. -/
def maskCount (m : BitVec 128) : Nat := ((List.range 128).filter fun i => m.getLsbD i).length

/-- MPOPC (R168), bound 3. -/
def execMpopc (f : VOp) (s : State) : Out :=
  guarded f.g s fun s => s.landX f.d (BitVec.ofNat 64 (maskCount (s.readM (f.a.toNat % 8)))) 3

/-! ## Scratchpad access (R169 to R171) -/

/-- VLD (R169), bound 6. -/
def execVld (f : VOp) (s : State) : Out := vLanes f [f.a] false 6 (fun v i => ⟨v.a.lane i, 0⟩) s

/-- VST (R169): ordered. -/
def execVst (f : VOp) (s : State) : Out := vLanes f [f.a] false 1 (fun v i => ⟨v.a.lane i, 0⟩) s

/-- The address of VLDI, VSTI, VLDB and VSTC: x[a] + 4·sign_extend(IMM) (R170). -/
def immAddr (f : VOp) (s : State) : Nat := (s.readX (f.a.setWidth 6) + 4 * f.imm.signExtend 64).toNat

/-- The enabled lanes, rising. -/
def onLanes (mask : BitVec 128) : List Nat := (List.range 128).filter fun i => mask.getLsbD i

/-- Addresses of the enabled lanes of VLDI and VSTI. -/
def laneAddrs (f : VOp) (s : State) : List Int :=
  (onLanes (s.readM f.mask.toNat)).map fun i => ((immAddr f s + 4 * i : Nat) : Int)

/-- Addresses of VSTC: the enabled lanes packed (R170). -/
def packedAddrs (f : VOp) (s : State) : List Int :=
  (List.range (maskCount (s.readM f.mask.toNat))).map fun i => ((immAddr f s + 4 * i : Nat) : Int)

/-- A load of lanes from the addresses of the enabled lanes. -/
def loadLanes (m : Memory) (mask : BitVec 128) (addr : Nat → Nat) : BitVec 4096 :=
  ofLanes ((List.range 128).map fun i => if mask.getLsbD i then BitVec.ofNat 32 (m.num (addr i) 4) else 0)

/-- VLDI (R170), bound 6. -/
def execVldi (f : VOp) (s : State) : Out :=
  guarded f.g s fun s =>
    vIssue f [] false (fun s => ⟨laneAddrs f s, true, false, false⟩) (fun v _ =>
      ⟨[], fun s => s.landV f.d (loadLanes s.core.spad v.mask fun i => immAddr f s + 4 * i) v.mask 6⟩) s

/-- VLDB (R170), bound 6: one word in every enabled lane. -/
def execVldb (f : VOp) (s : State) : Out :=
  guarded f.g s fun s =>
    vIssue f [] false (fun s => ⟨if s.readM f.mask.toNat = 0 then [] else [((immAddr f s : Nat) : Int)], true, false, false⟩)
      (fun v _ => ⟨[], fun s => s.landV f.d (loadLanes s.core.spad v.mask fun _ => immAddr f s) v.mask 6⟩) s

/-- The bytes of words stored at addresses, in order. -/
def wordStores (l : List (Nat × BitVec 32)) : List (Nat × BitVec 8 × BitVec 8) :=
  l.flatMap fun p => wholeBytes p.1 (leBytes 4 p.2.toNat)

/-- VSTI (R170): ordered. -/
def execVsti (f : VOp) (s : State) : Out :=
  guarded f.g s fun s =>
    vIssue f [f.b] false (fun s => ⟨laneAddrs f s, false, true, false⟩) (fun v _ =>
      ⟨maskFlags v.mask v.srcFlags, fun s =>
        s.writeSpad (wordStores ((onLanes v.mask).map fun i => (immAddr f s + 4 * i, v.a.lane i)))⟩) s

/-- VSTC (R170): the enabled lanes in ascending order at consecutive words; ordered. -/
def execVstc (f : VOp) (s : State) : Out :=
  guarded f.g s fun s =>
    vIssue f [f.b] false (fun s => ⟨packedAddrs f s, false, true, false⟩) (fun v _ =>
      ⟨maskFlags v.mask v.srcFlags, fun s =>
        s.writeSpad (wordStores ((onLanes v.mask).zipIdx.map fun p => (immAddr f s + 4 * p.2, v.a.lane p.1)))⟩) s

/-- The limit L of VGTH and VSCT: IMM, 0 meaning 65,536 (R171). -/
def indexLimit (f : VOp) : Nat := if f.imm = 0 then 65536 else f.imm.toNat

/-- The addresses of VGTH and VSCT for index lanes (R171). -/
def indexAddr (f : VOp) (s : State) (b : VSrc) (i : Nat) : Nat := (s.readX (f.a.setWidth 6)).toNat + 4 * (b.lane i).toNat

/-- The index lanes of VGTH and VSCT, as they will be read; none where a descriptor or an exhausted stream traps first, or where
the index stream has a bad address or meets a frozen watermark (R150, R239; log entry 37). -/
def indexLanes (f : VOp) (srcs : List (BitVec 7)) (s : State) : Option VSrc :=
  let rs := vUseReqs f srcs
  if rs.any fun r => (s.zreg r.z).cause.isSome then none
  else
    match chainUses s.zreg rs with
    | none => none
    | some us =>
      let mask := s.readM f.mask.toNat
      let bad := isStream f.b && (us.head?.any fun u =>
        (u.badAddr s.core.spadSize).isSome || (s.core.frozenByte (spanBytes (u.readSpans (useOn false mask u)))).isSome)
      if bad then none
      else
        let (fmt, s) := s.fmtV
        (readSources s f false fmt mask srcs us).1[0]?

/-- The shape of VGTH and VSCT: the index limit before the addresses (R150), then `k` (R171). With a lane enabled, a misaligned
x[a] is reported (0x31) before a lane's address outside the scratchpad (log entry 102). -/
def indexed (f : VOp) (srcs : List (BitVec 7)) (wr : Bool) (k : VIn → List Use → VEffect) (s : State) : State :=
  let lanes := onLanes (s.readM f.mask.toNat)
  match indexLanes f srcs s with
  | none => vIssue f srcs false (fun _ => .none) k s
  | some b =>
    if lanes.any fun i => indexLimit f ≤ (b.lane i).toNat then s.trapPlain 0x35
    else if !lanes.isEmpty ∧ (s.readX (f.a.setWidth 6)).toNat % 4 ≠ 0 then s.trapAddr 0x31 (s.readX (f.a.setWidth 6))
    else vIssue f srcs false (fun s => ⟨lanes.map fun i => ((indexAddr f s b i : Nat) : Int), !wr, wr, true⟩) k s

/-- VGTH (R171), bound 8. -/
def execVgth (f : VOp) (s : State) : Out :=
  guarded f.g s fun s =>
    indexed f [f.b] false (fun v _ =>
      ⟨maskFlags v.mask v.srcFlags, fun s =>
        s.landV f.d (loadLanes s.core.spad v.mask fun i => indexAddr f s v.a i) v.mask 8⟩) s

/-- VSCT (R171): ordered; the highest enabled lane that names an address keeps it. -/
def execVsct (f : VOp) (s : State) : Out :=
  guarded f.g s fun s =>
    indexed f [f.b, f.c] true (fun v _ =>
      ⟨maskFlags v.mask v.srcFlags, fun s =>
        s.writeSpad (wordStores ((onLanes v.mask).map fun i => (indexAddr f s v.a i, v.b.lane i)))⟩) s

/-! ## Stream control and FMT (R172 to R175) -/

/-- Within how many cycles a stream register written by ZSET, ZRST or ZSTEP lands; the spec states none (log entry 22). -/
def streamBound : Nat := 24

/-- ZSET and ZRST at issue: 0x37, 0x30, frozen watermarks, a bad byte, then the descriptor's checks (R172). -/
def loadDesc (f : VOp) (g : Desc → Desc) (s : State) : State :=
  let n := descAddr f s
  let a := BitVec.ofNat 64 n
  if n % 64 ≠ 0 then s.trapAddr 0x37 a
  else if s.core.spadSize < n + 64 then s.trapAddr 0x30 a
  else
    match s.core.frozenAccess [spanBytes [(n, 64)]] with
    | some (x, w) => s.trapFrozenByte x w
    | none =>
      match s.badByte [(n, 64)] with
      | some x => s.trapSpad s.ctx.slot s.ctx.entry.pc s.ctx.entry.rep x
      | none =>
        let d := g (BitVec.ofNat 512 (s.core.spad.num n 64))
        match Desc.cause d with
        | some c => s.trapPlain c
        | none => s.track [⟨.z, f.d.toNat⟩] d streamBound

/-- ZSET (R172): tracked. -/
def execZset (f : VOp) (s : State) : Out := guarded f.g s fun s => loadDesc f id s

/-- ZRST (R172): tracked; the positions are cleared before the check. -/
def execZrst (f : VOp) (s : State) : Out := guarded f.g s fun s => loadDesc f Desc.rewound s

/-- ZSTEP (R173): tracked; the register steps when it lands, from where an aligned use of the same cycle has left it (log
entry 108). -/
def execZstep (f : VOp) (s : State) : Out :=
  guarded f.g s fun s =>
    let d := s.zreg f.d.toNat
    match d.cause with
    | some c => s.trapPlain c
    | none =>
      let n := f.imm.toNat
      if d.left < n then s.trapPlain 0x33
      else s.trackKind [⟨.z, f.d.toNat⟩] (.zstep n) streamBound

/-- ZGET (R174), bound 3. -/
def execZget (f : VOp) (s : State) : Out :=
  guarded f.g s fun s => s.landV f.d (BitVec.setWidth 4096 (s.zreg (f.a.toNat - 64))) (BitVec.allOnes 128) 3

/-- The value of ZCHK for a descriptor (R174). -/
def zchkValue (d : Desc) : BitVec 64 :=
  match d.cause with
  | some c => (0 : BitVec 24) ++ c ++ (0 : BitVec 32)
  | none => BitVec.ofNat 64 (min d.left (2 ^ 32 - 1))

/-- ZCHK (R174), bound 3. -/
def execZchk (f : VOp) (s : State) : Out :=
  guarded f.g s fun s => s.landX f.d (zchkValue (s.zreg (f.a.toNat - 64))) 3

/-- What earlier SFMTs left, without what no V entry from bundle issue `lo` on can see. -/
def dropPast (lo : Nat) : List (Nat × BitVec 4) → List (Nat × BitVec 4)
  | p :: q :: r => if q.1 ≤ lo then dropPast lo (q :: r) else p :: q :: r
  | l => l

/-- SFMTs with one more, of bundle issue `n`; it stands before the last where that one, of a later bundle issue, issues in the same
cycle and so lands over it (R33). -/
def addFmt (before : Bool) (p : Nat × BitVec 4) (l : List (Nat × BitVec 4)) : List (Nat × BitVec 4) :=
  if before then l.dropLast ++ p :: l.getLast?.toList else l ++ [p]

/-- SFMT (R119, R175): FMT for V entries of bundle issue n + 2 on; a write of bound 2 for every other reader. -/
def execSfmt (f : VOp) (s : State) : Out :=
  guarded f.g s fun s =>
    let v := fmtStored (f.imm.setWidth 4)
    let n := s.ctx.entry.seq
    let s := s.modBank fun b =>
      let lo := b.queues.toList.flatten.foldl (fun k e => min k e.seq) n
      let later := b.inflight.any fun f => f.reg == ⟨.sr, 0x042⟩ && f.slot != .s && f.cyc == s.cycle && n < f.seq
      { b with fmtNext := dropPast lo (addFmt later (n + 2, v) (if b.fmtNext.isEmpty then [(0, b.fmt)] else b.fmtNext)) }
    s.land ⟨.sr, 0x042⟩ (v.setWidth 4096) 0 2

end Sys2Proof.Machine
end

