-- ==== Sys2Proof/Machine/Run.lean ====
section
/-! DEFINITION. The meaning of an operation by slot, opcode and payload: what a slot queue issues. It is `exec` of the
operation's instruction (Laws/Run.lean). -/
namespace Sys2Proof.Machine

/-- The S operations of format RR, by opcode. -/
def runSRR (op : Nat) (f : FmtRR) (s : State) : Out :=
  match op with
  | 0x00 => execAdd f s
  | 0x01 => execSub f s
  | 0x02 => execAnd f s
  | 0x03 => execOr f s
  | 0x04 => execXor f s
  | 0x05 => execShl f s
  | 0x06 => execShr f s
  | 0x07 => execSha f s
  | 0x08 => execMul f s
  | 0x09 => execMulhs f s
  | 0x0A => execMulhu f s
  | 0x0B => execDivs f s
  | 0x0C => execDivu f s
  | 0x0D => execRems f s
  | 0x0E => execRemu f s
  | 0x0F => execMins f s
  | 0x10 => execMaxs f s
  | 0x11 => execMinu f s
  | 0x12 => execMaxu f s
  | 0x13 => execClz f s
  | 0x14 => execPopc f s
  | 0x15 => execBext f s
  | 0x16 => execBdep f s
  | 0x17 => execSel f s
  | 0x21 => execCmpEq f s
  | 0x22 => execCmpNe f s
  | 0x23 => execCmpLts f s
  | 0x24 => execCmpLes f s
  | 0x25 => execCmpLtu f s
  | 0x26 => execCmpLeu f s
  | _ => .refused .noOperation

/-- The S operations of format RI, by opcode. -/
def runSRI (op : Nat) (f : FmtRI) (s : State) : Out :=
  match op with
  | 0x18 => execAddi f s
  | 0x19 => execAndi f s
  | 0x1A => execOri f s
  | 0x1B => execXori f s
  | 0x1C => execShli f s
  | 0x1D => execShri f s
  | 0x1E => execShai f s
  | 0x27 => execCmpiEq f s
  | 0x28 => execCmpiNe f s
  | 0x29 => execCmpiLts f s
  | 0x2A => execCmpiLtu f s
  | _ => .refused .noOperation

/-- The S operations of format LI, by opcode. -/
def runSLI (op : Nat) (f : FmtLI) (s : State) : Out :=
  match op with
  | 0x1F => execLi f s
  | 0x20 => execLis f s
  | _ => .refused .noOperation

/-- The S operations of format PL, by opcode. -/
def runSPL (op : Nat) (f : FmtPL) (s : State) : Out :=
  match op with
  | 0x2B => execPand f s
  | 0x2C => execPor f s
  | 0x2D => execPxor f s
  | 0x2E => execPnot f s
  | _ => .refused .noOperation

/-- The S operations of format BO, by opcode. -/
def runSBO (op : Nat) (f : FmtBO) (s : State) : Out :=
  match op with
  | 0x2F => execBr f s
  | 0x31 => execCall f s
  | _ => .refused .noOperation

/-- The S operations of format LP, by opcode. -/
def runSLP (op : Nat) (f : FmtLP) (s : State) : Out :=
  match op with
  | 0x33 => execLoop f s
  | 0x34 => execLoopi f s
  | _ => .refused .noOperation

/-- The S operations of format SG, by opcode. -/
def runSSG (op : Nat) (f : FmtSG) (s : State) : Out :=
  match op with
  | 0x37 => execGets f s
  | _ => .refused .noOperation

/-- The S operations of format SR, by opcode. -/
def runSSR (op : Nat) (f : FmtSR) (s : State) : Out :=
  match op with
  | 0x38 => execSets f s
  | 0x39 => execSetsi f s
  | _ => .refused .noOperation

/-- The S operations of format WV, by opcode. -/
def runSWV (op : Nat) (f : FmtWV) (s : State) : Out :=
  match op with
  | 0x53 => execWaitv f s
  | _ => .refused .noOperation

/-- The S operations of format K, by opcode. -/
def runSK (op : Nat) (f : FmtK) (s : State) : Out :=
  match op with
  | 0x30 => execJmp f s
  | 0x32 => execRet f s
  | 0x35 => execLbrk f s
  | 0x36 => execPpt f s
  | 0x4F => execSync f s
  | 0x50 => execArrv f s
  | 0x54 => execHalt f s
  | 0x57 => execLnch f s
  | 0x58 => execTime f s
  | _ => .refused .noOperation

/-- The S operations of format TC, by opcode. -/
def runSTC (op : Nat) (f : FmtTC) (s : State) : Out :=
  match op with
  | 0x55 => execTrap f s
  | 0x56 => execBrk f s
  | _ => .refused .noOperation

/-- The S operations of format GM, by opcode. -/
def runSGM (op : Nat) (f : FmtGM) (s : State) : Out :=
  match op with
  | 0x3A => execLdgB f s
  | 0x3B => execLdgH f s
  | 0x3C => execLdgW f s
  | 0x3D => execLdgD f s
  | 0x3E => execLdgQ f s
  | 0x3F => execStgB f s
  | 0x40 => execStgH f s
  | 0x41 => execStgW f s
  | 0x42 => execStgD f s
  | 0x43 => execStgQ f s
  | 0x51 => execMon f s
  | 0x5B => execRbld f s
  | 0x5C => execRbst f s
  | _ => .refused .noOperation

/-- The S operations of format GA, by opcode. -/
def runSGA (op : Nat) (f : FmtGA) (s : State) : Out :=
  match op with
  | 0x44 => execAadd f s
  | 0x45 => execAand f s
  | 0x46 => execAor f s
  | 0x47 => execAxor f s
  | 0x48 => execAmins f s
  | 0x49 => execAmaxs f s
  | 0x4A => execAxch f s
  | 0x4B => execAcas f s
  | _ => .refused .noOperation

/-- The S operations of format GF, by opcode. -/
def runSGF (op : Nat) (f : FmtGF) (s : State) : Out :=
  match op with
  | 0x4C => execRel f s
  | 0x4D => execAcq f s
  | 0x4E => execDrn f s
  | 0x52 => execMwait f s
  | _ => .refused .noOperation

/-- The S operations of format FW, by opcode. -/
def runSFW (op : Nat) (f : FmtFW) (s : State) : Out :=
  match op with
  | 0x59 => execQpoll f s
  | 0x5A => execQpost f s
  | 0x5D => if f.sub = 0 then execSemaAcquire f s else if f.sub = 1 then execSemaRelease f s else execSemaQuery f s
  | 0x5E => execWdog f s
  | 0x5F => execFclk f s
  | _ => .refused .noOperation

/-- The S operations. -/
def runS (op : Nat) (b : SBody) (s : State) : Out :=
  match b with
  | .rr f => runSRR op f s
  | .ri f => runSRI op f s
  | .li f => runSLI op f s
  | .pl f => runSPL op f s
  | .bo f => runSBO op f s
  | .lp f => runSLP op f s
  | .sg f => runSSG op f s
  | .sr f => runSSR op f s
  | .wv f => runSWV op f s
  | .k f => runSK op f s
  | .tc f => runSTC op f s
  | .gm f => runSGM op f s
  | .ga f => runSGA op f s
  | .gf f => runSGF op f s
  | .fw f => runSFW op f s

/-- The M operations of format MP, by opcode. -/
def runMMP (op : Nat) (f : FmtMP) (s : State) : Out :=
  match op with
  | 0x00 => execMpushRot f s
  | 0x01 => execMpushDrv f s
  | 0x02 => execMpushCxg f s
  | 0x03 => execMpushFol f s
  | 0x04 => execMpushSwp f s
  | 0x05 => execMpushPas f s
  | 0x0A => execMswap f s
  | 0x16 => execMdrn f s
  | _ => .refused .noOperation

/-- The M operations of format GR, by opcode. -/
def runMGR (op : Nat) (f : FmtGR) (s : State) : Out :=
  match op with
  | 0x06 => execMpushGrd f s
  | _ => .refused .noOperation

/-- The M operations of format MPL, by opcode. -/
def runMMPL (op : Nat) (f : FmtMPL) (s : State) : Out :=
  match op with
  | 0x07 => execMlda f s
  | 0x08 => execMldp f s
  | 0x0D => execMgsv f s
  | _ => .refused .noOperation

/-- The M operations of format LS, by opcode. -/
def runMLS (op : Nat) (f : FmtLS) (s : State) : Out :=
  match op with
  | 0x09 => execMpatch f s
  | 0x10 => execMdix f s
  | 0x11 => execMbits f s
  | _ => .refused .noOperation

/-- The M operations of format AD, by opcode. -/
def runMAD (op : Nat) (f : FmtAD) (s : State) : Out :=
  match op with
  | 0x0B => execMsave f s
  | 0x0C => execMrest f s
  | 0x0E => execMscli f s
  | 0x0F => execMsclo f s
  | _ => .refused .noOperation

/-- The M operations of format NT, by opcode. -/
def runMNT (op : Nat) (f : FmtNT) (s : State) : Out :=
  match op with
  | 0x13 => execMnrm f s
  | _ => .refused .noOperation

/-- The M operations of format FL, by opcode. -/
def runMFL (op : Nat) (f : FmtFL) (s : State) : Out :=
  match op with
  | 0x12 => execMrst f s
  | 0x14 => execMstat f s
  | 0x15 => execMfmt f s
  | 0x17 => execMclr f s
  | _ => .refused .noOperation

/-- The M operations. -/
def runM (op : Nat) (b : MBody) (s : State) : Out :=
  match b with
  | .mp f => runMMP op f s
  | .gr f => runMGR op f s
  | .pl f => runMMPL op f s
  | .ls f => runMLS op f s
  | .ad f => runMAD op f s
  | .nt f => runMNT op f s
  | .fl f => runMFL op f s

/-- The C operations of format T, by opcode. -/
def runCT (op : Nat) (f : FmtT) (s : State) : Out :=
  match op with
  | 0x00 => execCpy f s
  | 0x01 => execCst f s
  | 0x02 => execCstz f s
  | 0x06 => execCfil f s
  | 0x07 => execCpyt f s
  | 0x13 => execCzip f s
  | 0x14 => execCprf f s
  | 0x15 => execCwb f s
  | 0x16 => execCinv f s
  | 0x1A => execCldm f s
  | 0x1D => execCdup f s
  | 0x1E => execCmsk f s
  | 0x1F => execCrpl f s
  | _ => .refused .noOperation

/-- The C operations of format L, by opcode. -/
def runCL (op : Nat) (f : FmtL) (s : State) : Out :=
  match op with
  | 0x03 => execCll f s
  | _ => .refused .noOperation

/-- The C operations of format R, by opcode. -/
def runCR (op : Nat) (f : FmtR) (s : State) : Out :=
  match op with
  | 0x04 => execCxr f s
  | 0x05 => execCxw f s
  | _ => .refused .noOperation

/-- The C operations of format W, by opcode. -/
def runCW (op : Nat) (f : FmtW) (s : State) : Out :=
  match op with
  | 0x0B => execWbnd f s
  | 0x0C => execWadv f s
  | 0x0D => execWrel f s
  | _ => .refused .noOperation

/-- The C operations of format GQ, by opcode. -/
def runCGQ (op : Nat) (f : FmtGQ) (s : State) : Out :=
  match op with
  | 0x08 => execGqin f s
  | _ => .refused .noOperation

/-- The C operations of format Q, by opcode. -/
def runCQ (op : Nat) (f : FmtQ) (s : State) : Out :=
  match op with
  | 0x09 => execGath f s
  | 0x0A => execScat f s
  | _ => .refused .noOperation

/-- The C operations of format KS, by opcode. -/
def runCKS (op : Nat) (f : FmtKS) (s : State) : Out :=
  match op with
  | 0x0E => execCsch f s
  | 0x1B => execCsts f s
  | _ => .refused .noOperation

/-- The C operations of format KN, by opcode. -/
def runCKN (op : Nat) (f : FmtKN) (s : State) : Out :=
  match op with
  | 0x0F => execCstep f s
  | _ => .refused .noOperation

/-- The C operations of format KZ, by opcode. -/
def runCKZ (op : Nat) (f : FmtKZ) (s : State) : Out :=
  match op with
  | 0x10 => execCabt f s
  | _ => .refused .noOperation

/-- The C operations of format KR, by opcode. -/
def runCKR (op : Nat) (f : FmtKR) (s : State) : Out :=
  match op with
  | 0x11 => execCrsm f s
  | _ => .refused .noOperation

/-- The C operations of format KP, by opcode. -/
def runCKP (op : Nat) (f : FmtKP) (s : State) : Out :=
  match op with
  | 0x1C => execCpri f s
  | _ => .refused .noOperation

/-- The C operations of format KM, by opcode. -/
def runCKM (op : Nat) (f : FmtKM) (s : State) : Out :=
  match op with
  | 0x18 => execCfnc f s
  | _ => .refused .noOperation

/-- The C operations of format KW, by opcode. -/
def runCKW (op : Nat) (f : FmtKW) (s : State) : Out :=
  match op with
  | 0x17 => execCwms f s
  | _ => .refused .noOperation

/-- The C operations of format KG, by opcode. -/
def runCKG (op : Nat) (f : FmtKG) (s : State) : Out :=
  match op with
  | 0x19 => execCsig f s
  | _ => .refused .noOperation

/-- The C operations of format KC, by opcode. -/
def runCKC (op : Nat) (f : FmtKC) (s : State) : Out :=
  match op with
  | 0x12 => execCscan f s
  | _ => .refused .noOperation

/-- The C operations. -/
def runC (op : Nat) (b : CBody) (s : State) : Out :=
  match b with
  | .t f => runCT op f s
  | .l f => runCL op f s
  | .r f => runCR op f s
  | .w f => runCW op f s
  | .gq f => runCGQ op f s
  | .q f => runCQ op f s
  | .ks f => runCKS op f s
  | .kn f => runCKN op f s
  | .kz f => runCKZ op f s
  | .kr f => runCKR op f s
  | .kp f => runCKP op f s
  | .km f => runCKM op f s
  | .kw f => runCKW op f s
  | .kg f => runCKG op f s
  | .kc f => runCKC op f s

/-- The V operations, by opcode. -/
def runV (op : Nat) (f : VOp) (s : State) : Out :=
  match op with
  | 0x00 => execVadd f s
  | 0x01 => execVsub f s
  | 0x02 => execVmul f s
  | 0x03 => execVfma f s
  | 0x04 => execVfms f s
  | 0x05 => execVfnma f s
  | 0x06 => execVmin f s
  | 0x07 => execVmax f s
  | 0x08 => execVabs f s
  | 0x09 => execVneg f s
  | 0x0A => execVcpys f s
  | 0x0B => execVdiv f s
  | 0x0C => execVsqrt f s
  | 0x0D => execVrcp f s
  | 0x0E => execVrsq f s
  | 0x0F => execVexp2 f s
  | 0x10 => execVlog2 f s
  | 0x11 => execVrint f s
  | 0x12 => execVclass f s
  | 0x13 => execVcmpEq f s
  | 0x14 => execVcmpNe f s
  | 0x15 => execVcmpLt f s
  | 0x16 => execVcmpLe f s
  | 0x17 => execVcmpUn f s
  | 0x18 => execVcmpOd f s
  | 0x19 => execVsel f s
  | 0x1A => execViadd f s
  | 0x1B => execVisub f s
  | 0x1C => execVimul f s
  | 0x1D => execVimulh f s
  | 0x1E => execVand f s
  | 0x1F => execVor f s
  | 0x20 => execVxor f s
  | 0x21 => execVnot f s
  | 0x22 => execVshl f s
  | 0x23 => execVshr f s
  | 0x24 => execVsha f s
  | 0x25 => execVimin f s
  | 0x26 => execVimax f s
  | 0x27 => execViminu f s
  | 0x28 => execVimaxu f s
  | 0x29 => execVicmpEq f s
  | 0x2A => execVicmpLt f s
  | 0x2B => execVicmpLtu f s
  | 0x2C => execVcvtf f s
  | 0x2D => execVcvti f s
  | 0x2E => execVcvtif f s
  | 0x2F => execVpack f s
  | 0x30 => execVunpkLo f s
  | 0x31 => execVunpkHi f s
  | 0x32 => execVqnt f s
  | 0x33 => execVdqt f s
  | 0x34 => execVbsc f s
  | 0x35 => execVpsd f s
  | 0x36 => execVrsum f s
  | 0x37 => execVrmax f s
  | 0x38 => execVrmin f s
  | 0x39 => execVramax f s
  | 0x3A => execVrdot f s
  | 0x3B => execVpsum f s
  | 0x3C => execVshuf f s
  | 0x3D => execVbcst f s
  | 0x3E => execVlrot f s
  | 0x3F => execVslide f s
  | 0x40 => execVzip f s
  | 0x41 => execVuzp f s
  | 0x42 => execVrev f s
  | 0x43 => execVcomp f s
  | 0x44 => execVmvx f s
  | 0x45 => execVins f s
  | 0x46 => execVext f s
  | 0x47 => execVmvp f s
  | 0x48 => execMand f s
  | 0x49 => execMor f s
  | 0x4A => execMxor f s
  | 0x4B => execMnot f s
  | 0x4C => execMpopc f s
  | 0x4D => execVld f s
  | 0x4E => execVst f s
  | 0x4F => execVldi f s
  | 0x50 => execVsti f s
  | 0x51 => execVldb f s
  | 0x52 => execVgth f s
  | 0x53 => execVsct f s
  | 0x54 => execVstc f s
  | 0x55 => execZset f s
  | 0x56 => execZstep f s
  | 0x57 => execZrst f s
  | 0x58 => execZget f s
  | 0x59 => execSfmt f s
  | 0x5A => execZchk f s
  | 0x5B => execVclamp f s
  | 0x5C => execVlerp f s
  | 0x5D => execVrelu f s
  | 0x5E => execVexp f s
  | 0x5F => execVln f s
  | 0x60 => execVtanh f s
  | 0x61 => execVerf f s
  | 0x62 => execVsin f s
  | 0x63 => execVcos f s
  | 0x64 => execVatn2 f s
  | 0x65 => execVturn f s
  | 0x66 => execVtcs f s
  | 0x67 => execVhyp f s
  | _ => .refused .noOperation

/-- The operation of a slot queue's entry. -/
def runView (v : View) (s : State) : Out :=
  match v with
  | .s op b => runS op b s
  | .v op f => runV op f s
  | .m op b => runM op b s
  | .c op b => runC op b s
  | .event => .refused .noOperation

end Sys2Proof.Machine
end

