-- ==== Sys2Proof/Machine/Reissue.lean ====
section
/-! DEFINITION. The issue of an entry at the head of a slot's queue, and the sticky re-issue (spec/03 R24, R29, R30). -/
namespace Sys2Proof.Machine

/-- The special registers by which a task observes that an engine operation has completed: WMn and TCPn (R12). -/
def joinRegister (n : Nat) : Bool := 0x080 ≤ n && n ≤ 0x097

/-- What a GETS of a bank has read of a join is fixed before an entry io-after it makes an event (R45, R51, R53, R89). -/
def Bank.fixJoins (b : Bank) (e : Entry) (v : View) : Bank :=
  if !v.makesEvents then b
  else { b with inflight := b.inflight.map fun f => if f.slot = .s ∧ f.seq < e.after ∧ f.src.any joinRegister then { f with src := none } else f }

/-- Issues the head entry of a slot: it leaves its queue and begins (R4, R24). -/
def issueHead (slot : Slot) (s : State) : Out :=
  match s.bank.queue slot with
  | [] => .next s
  | e :: q =>
    let s := (s.modBank fun b => b.setQueue slot q).seat slot e
    match e.op with
    | none => .next s
    | some v => runView v (s.modBank fun b => b.fixJoins e v)

/-- STICKY_REISSUE (R29, R30): a sticky entry at the head of a slot's queue issues the remembered operation again. -/
def execStickyReissue (slot : Slot) (s : State) : Out :=
  match s.bank.queue slot with
  | e :: _ => if e.sticky && slotReady s slot then issueHead slot s else .next s
  | [] => .next s

end Sys2Proof.Machine
end

