-- ==== Sys2Proof/Machine/Cycle.lean ====
section
/-! DEFINITION. One cycle of the core in focus: a schedule entry's release, dispatch, the issue of slot heads, the progress of its engines, results that
land (spec/03 R23 to R34; spec/07 R96 to R98). -/
namespace Sys2Proof.Machine

/-- Masked bytes written to the scratchpad. -/
abbrev Writes := List (Nat × BitVec 8 × BitVec 8)

/-- The 16-byte granule of a write. -/
def granule (p : Nat × BitVec 8 × BitVec 8) : Nat := p.1 / 16

/-- The granules that more than one slot writes. -/
def sharedGranules : List Writes → List Nat
  | [] => []
  | l :: ls =>
    (l.foldl (fun acc p => if acc.contains (granule p) then acc else granule p :: acc) []).filter (fun g =>
      ls.any fun k => k.any fun p => granule p == g) ++ sharedGranules ls

/-- The elements of a list in an order left open. -/
def anyOrder {α : Type} : Nat → List α → State → List α × State
  | 0, l, s => (l, s)
  | n + 1, l, s =>
    let (k, s) := s.choose l.length
    match l[k]? with
    | none => (l, s)
    | some a =>
      let (r, s) := anyOrder n (l.eraseIdx k) s
      (a :: r, s)

/-- The writes of a cycle's slots, in one order for each granule that several of them write (R56). DESIGN CHOICE: the order is open
(log entry 109). -/
def joinWrites (ls : List Writes) (s : State) : Writes × State :=
  let shared := sharedGranules ls
  shared.eraseDups.foldl (fun acc g =>
    let parts := (ls.map fun l => l.filter fun p => granule p == g).filter (!·.isEmpty)
    let (ps, s) := anyOrder parts.length parts acc.2
    (acc.1 ++ ps.flatten, s)) (ls.flatten.filter fun p => !shared.contains (granule p), s)

/-- Issues the slots in slot order, each on the scratchpad as it stood before the cycle; the writes of all are then done (R46). -/
def issueIsolated (spad0 : Memory) (bad0 : List Nat) : List Slot → List Writes → State → Out
  | [], ls, s =>
    let (l, s) := joinWrites ls s
    .next (s.modCore fun c => { c with spad := writeMasked spad0 l, spadBad := stillBad bad0 l })
  | t :: ts, ls, s =>
    match issueHead t (s.modCore fun c => { c with spad := spad0, spadBad := bad0, wrote := [] }) with
    | .next s => issueIsolated spad0 bad0 ts (ls ++ [s.core.wrote]) s
    | r => r

/-- Issues the slots in slot order, one after the other. -/
def issueEach : List Slot → State → Out
  | [], s => .next s
  | t :: ts, s =>
    match issueHead t s with
    | .next s => issueEach ts s
    | r => r

/-- The head entry of a slot writes the scratchpad at its issue. -/
def slotWrites (b : Bank) (t : Slot) : Bool := (headOf b t).any fun e => e.op.any (·.spadWrites)

/-- Issues the slots of a cycle. -/
def issueAll (ts : List Slot) (s : State) : Out :=
  if ts.length ≤ 1 || !(ts.any (slotWrites s.bank)) then issueEach ts s
  else issueIsolated s.core.spad s.core.spadBad ts [] s

/-- The trap that issuing has newly raised at issue, TRAP and BRK apart, which consume their entry (R97). -/
def newTrap (s0 s : State) : Option Trap :=
  match s0.core.run, s.core.run, s.core.trap with
  | .running, .freezing, some t | .draining, .freezing, some t =>
    if t.kind = .atIssue ∧ t.cause ≠ 0x10 ∧ t.cause ≠ 0x16 then some t else none
  | _, _, _ => none

/-- The C slots among those that would issue ask for what they read in global memory; those that wait for it. -/
def askSlots (s : State) : List Slot × State :=
  ((issueSet s).filter fun t => t == .c0 || t == .c1).foldl (fun acc t =>
    let (w, s) := askSlot acc.2 t
    (if w then t :: acc.1 else acc.1, s)) ([], s)

/-- Slots issue: C0 and C1 see the channels and windows as they stood before the cycle (R26, R279). -/
def issueSlots (ts : List Slot) (s : State) : Out :=
  match issueAll ts (s.modCore fun c => { c with seen := some (c.chans, c.wins) }) with
  | .next t => .next (t.modCore fun c => { c with wrote := [] })
  | r => r

/-- The issue of a cycle: where an operation traps at issue, nothing of the cycle commits (R97, R98). -/
def issueCycle (s : State) : Out :=
  let (held, s) := askSlots s
  match issueSlots (issueSetBut s held) s with
  | .next t =>
    match newTrap s t with
    | some r => .next ({ s with choices := t.choices }.takeTrap r)
    | none => .next t
  | r => r

/-- A GETS of a register that another engine changes reads it at some cycle up to its landing: at this one, or it keeps what it has
read, by an open choice (R89). -/
def resample (s : State) : State :=
  let (fl, s) := s.bank.inflight.foldl (fun (acc : List InFlight × State) f =>
    match f.src with
    | none => (f :: acc.1, acc.2)
    | some n =>
      let (k, s) := acc.2.choose 2
      ((if k = 1 then { f with value := ((s.special n).getD 0).setWidth 4096 } else f) :: acc.1, s)) ([], s)
  s.modBank fun b => { b with inflight := fl.reverse }

/-- Lands the fixed-bound results and tracked values whose time has come, in the order of R33, and counts the others down
(R31, R34). -/
def landResults (s : State) : State :=
  let s := resample s
  let b := s.bank
  let fl := b.inflight.map fun f => { f with rem := f.rem - 1 }
  let s := s.setBank { b with inflight := fl.filter fun f => f.rem != 0 }
  let s := (fl.filter fun f => f.rem == 0).foldl (fun s f => s.modCore fun c => c.landResult f) s
  s.modBank fun b =>
    let ts := b.tracked.map fun t => if t.isValue then { t with rem := t.rem - 1 } else t
    let due := fun (t : Tracked) => t.isValue && t.rem == 0
    (ts.filter due).foldl landTracked { b with tracked := ts.filter fun t => !due t }

/-- VFLAGS of a bank takes the flags raised in the cycle. -/
def Bank.joinVflags (b : Bank) : Bank := { b with vflags := b.vflags ||| b.vflagsNow, vflagsNow := 0 }

/-- VFLAGS takes the flags raised in the cycle at its end, in both banks (R129). -/
def joinVflags (s : State) : State := s.modCore fun c => { c with bankA := c.bankA.joinVflags, bankB := c.bankB.joinVflags }

/-- What holds a slot for further issue cycles counts down. -/
def countStalls (s : State) : State := s.modCore fun c => { c with stalls := c.stalls.map (· - 1) }

/-- What the core in focus does after the issue of its cycle: engines, flags, results. An access that an engine checks in the cycle
meets the channels as they stood before it (R279). Results wait while the core is frozen or parked, and in the cycle of a resume
(R102); the slots of a frozen core are held for no cycle (R96). -/
def afterIssue (s : State) : State :=
  let t := (joinVflags (engines s)).modCore fun c => { c with seen := none }
  let t := if t.core.run == .frozen || t.core.run == .parked || (!s.core.run.issues && t.core.run.issues) then t else landResults t
  if s.core.run.issues then countStalls t else t

/-- A core with something to do in a cycle. -/
def Core.live (c : Core) : Bool :=
  c.run != .halted || [c.bankA, c.bankB].any fun b => !(b.posted.isEmpty && b.tracked.isEmpty)

/-- The cores take their cycle one after another, by number; after the last one the device does its own work and the next cycle
begins with the first core that has something to do. -/
def nextCore (s : State) : State :=
  match s.others.find? fun p => s.coreNo < p.1 && p.2.live with
  | some p => s.focus p.1
  | none =>
    let t := deviceWork s
    let t := cycleStart { t with cycle := t.cycle + 1 }
    match t.others.find? fun p => p.2.live with
    | some p => if p.1 < t.coreNo || !t.core.live then t.focus p.1 else t
    | none => t

/-- The state that an event leaves, with the focus at a core. -/
def refocus (n : Nat) : Out → Out
  | .next s => .next (s.focus n)
  | r => r

/-- What the core in focus dispatches and issues in its cycle. -/
def issueWork (s : State) : Out := if s.core.run.issues then issueCycle (trapIllegal (dispatch s)) else .next s

/-- What precedes dispatch in a cycle of the core in focus: the bounds of waits on translation, a schedule entry's release. -/
def beginWork (s : State) : State := scheduleWork (boundWork s)

/-- One cycle of the core in focus. -/
def coreCycle (s : State) : Out :=
  match issueWork (beginWork s) with
  | .next t => .next (nextCore (afterIssue t))
  | r => r

end Sys2Proof.Machine
end

