-- ==== Sys2Proof/Machine/Dispatch.lean ====
section
/-! DEFINITION. Which meaning each instruction has: one arm per constructor of `Instr`. -/
namespace Sys2Proof.Machine

/-- The effect of an instruction: an operation as it issues (its seat in `State.ctx`), or an event as it happens. -/
def exec (i : Instr) (s : State) : Host.Outcome State Fault Refusal :=
  match i with
  | .add f => Sys2Proof.Machine.execAdd f s
  | .sub f => Sys2Proof.Machine.execSub f s
  | .and f => Sys2Proof.Machine.execAnd f s
  | .or f => Sys2Proof.Machine.execOr f s
  | .xor f => Sys2Proof.Machine.execXor f s
  | .shl f => Sys2Proof.Machine.execShl f s
  | .shr f => Sys2Proof.Machine.execShr f s
  | .sha f => Sys2Proof.Machine.execSha f s
  | .mul f => Sys2Proof.Machine.execMul f s
  | .mulhs f => Sys2Proof.Machine.execMulhs f s
  | .mulhu f => Sys2Proof.Machine.execMulhu f s
  | .divs f => Sys2Proof.Machine.execDivs f s
  | .divu f => Sys2Proof.Machine.execDivu f s
  | .rems f => Sys2Proof.Machine.execRems f s
  | .remu f => Sys2Proof.Machine.execRemu f s
  | .mins f => Sys2Proof.Machine.execMins f s
  | .maxs f => Sys2Proof.Machine.execMaxs f s
  | .minu f => Sys2Proof.Machine.execMinu f s
  | .maxu f => Sys2Proof.Machine.execMaxu f s
  | .clz f => Sys2Proof.Machine.execClz f s
  | .popc f => Sys2Proof.Machine.execPopc f s
  | .bext f => Sys2Proof.Machine.execBext f s
  | .bdep f => Sys2Proof.Machine.execBdep f s
  | .sel f => Sys2Proof.Machine.execSel f s
  | .addi f => Sys2Proof.Machine.execAddi f s
  | .andi f => Sys2Proof.Machine.execAndi f s
  | .ori f => Sys2Proof.Machine.execOri f s
  | .xori f => Sys2Proof.Machine.execXori f s
  | .shli f => Sys2Proof.Machine.execShli f s
  | .shri f => Sys2Proof.Machine.execShri f s
  | .shai f => Sys2Proof.Machine.execShai f s
  | .li f => Sys2Proof.Machine.execLi f s
  | .lis f => Sys2Proof.Machine.execLis f s
  | .cmpEq f => Sys2Proof.Machine.execCmpEq f s
  | .cmpNe f => Sys2Proof.Machine.execCmpNe f s
  | .cmpLts f => Sys2Proof.Machine.execCmpLts f s
  | .cmpLes f => Sys2Proof.Machine.execCmpLes f s
  | .cmpLtu f => Sys2Proof.Machine.execCmpLtu f s
  | .cmpLeu f => Sys2Proof.Machine.execCmpLeu f s
  | .cmpiEq f => Sys2Proof.Machine.execCmpiEq f s
  | .cmpiNe f => Sys2Proof.Machine.execCmpiNe f s
  | .cmpiLts f => Sys2Proof.Machine.execCmpiLts f s
  | .cmpiLtu f => Sys2Proof.Machine.execCmpiLtu f s
  | .pand f => Sys2Proof.Machine.execPand f s
  | .por f => Sys2Proof.Machine.execPor f s
  | .pxor f => Sys2Proof.Machine.execPxor f s
  | .pnot f => Sys2Proof.Machine.execPnot f s
  | .br f => Sys2Proof.Machine.execBr f s
  | .jmp f => Sys2Proof.Machine.execJmp f s
  | .call f => Sys2Proof.Machine.execCall f s
  | .ret f => Sys2Proof.Machine.execRet f s
  | .loop f => Sys2Proof.Machine.execLoop f s
  | .loopi f => Sys2Proof.Machine.execLoopi f s
  | .lbrk f => Sys2Proof.Machine.execLbrk f s
  | .ppt f => Sys2Proof.Machine.execPpt f s
  | .gets f => Sys2Proof.Machine.execGets f s
  | .sets f => Sys2Proof.Machine.execSets f s
  | .setsi f => Sys2Proof.Machine.execSetsi f s
  | .ldgB f => Sys2Proof.Machine.execLdgB f s
  | .ldgH f => Sys2Proof.Machine.execLdgH f s
  | .ldgW f => Sys2Proof.Machine.execLdgW f s
  | .ldgD f => Sys2Proof.Machine.execLdgD f s
  | .ldgQ f => Sys2Proof.Machine.execLdgQ f s
  | .stgB f => Sys2Proof.Machine.execStgB f s
  | .stgH f => Sys2Proof.Machine.execStgH f s
  | .stgW f => Sys2Proof.Machine.execStgW f s
  | .stgD f => Sys2Proof.Machine.execStgD f s
  | .stgQ f => Sys2Proof.Machine.execStgQ f s
  | .aadd f => Sys2Proof.Machine.execAadd f s
  | .aand f => Sys2Proof.Machine.execAand f s
  | .aor f => Sys2Proof.Machine.execAor f s
  | .axor f => Sys2Proof.Machine.execAxor f s
  | .amins f => Sys2Proof.Machine.execAmins f s
  | .amaxs f => Sys2Proof.Machine.execAmaxs f s
  | .axch f => Sys2Proof.Machine.execAxch f s
  | .acas f => Sys2Proof.Machine.execAcas f s
  | .rel f => Sys2Proof.Machine.execRel f s
  | .acq f => Sys2Proof.Machine.execAcq f s
  | .drn f => Sys2Proof.Machine.execDrn f s
  | .sync f => Sys2Proof.Machine.execSync f s
  | .arrv f => Sys2Proof.Machine.execArrv f s
  | .mon f => Sys2Proof.Machine.execMon f s
  | .mwait f => Sys2Proof.Machine.execMwait f s
  | .waitv f => Sys2Proof.Machine.execWaitv f s
  | .halt f => Sys2Proof.Machine.execHalt f s
  | .trap f => Sys2Proof.Machine.execTrap f s
  | .brk f => Sys2Proof.Machine.execBrk f s
  | .lnch f => Sys2Proof.Machine.execLnch f s
  | .time f => Sys2Proof.Machine.execTime f s
  | .qpoll f => Sys2Proof.Machine.execQpoll f s
  | .qpost f => Sys2Proof.Machine.execQpost f s
  | .rbld f => Sys2Proof.Machine.execRbld f s
  | .rbst f => Sys2Proof.Machine.execRbst f s
  | .semaAcquire f => Sys2Proof.Machine.execSemaAcquire f s
  | .semaRelease f => Sys2Proof.Machine.execSemaRelease f s
  | .semaQuery f => Sys2Proof.Machine.execSemaQuery f s
  | .wdog f => Sys2Proof.Machine.execWdog f s
  | .fclk f => Sys2Proof.Machine.execFclk f s
  | .vadd f => Sys2Proof.Machine.execVadd f s
  | .vsub f => Sys2Proof.Machine.execVsub f s
  | .vmul f => Sys2Proof.Machine.execVmul f s
  | .vfma f => Sys2Proof.Machine.execVfma f s
  | .vfms f => Sys2Proof.Machine.execVfms f s
  | .vfnma f => Sys2Proof.Machine.execVfnma f s
  | .vmin f => Sys2Proof.Machine.execVmin f s
  | .vmax f => Sys2Proof.Machine.execVmax f s
  | .vabs f => Sys2Proof.Machine.execVabs f s
  | .vneg f => Sys2Proof.Machine.execVneg f s
  | .vcpys f => Sys2Proof.Machine.execVcpys f s
  | .vdiv f => Sys2Proof.Machine.execVdiv f s
  | .vsqrt f => Sys2Proof.Machine.execVsqrt f s
  | .vrcp f => Sys2Proof.Machine.execVrcp f s
  | .vrsq f => Sys2Proof.Machine.execVrsq f s
  | .vexp2 f => Sys2Proof.Machine.execVexp2 f s
  | .vlog2 f => Sys2Proof.Machine.execVlog2 f s
  | .vrint f => Sys2Proof.Machine.execVrint f s
  | .vclass f => Sys2Proof.Machine.execVclass f s
  | .vcmpEq f => Sys2Proof.Machine.execVcmpEq f s
  | .vcmpNe f => Sys2Proof.Machine.execVcmpNe f s
  | .vcmpLt f => Sys2Proof.Machine.execVcmpLt f s
  | .vcmpLe f => Sys2Proof.Machine.execVcmpLe f s
  | .vcmpUn f => Sys2Proof.Machine.execVcmpUn f s
  | .vcmpOd f => Sys2Proof.Machine.execVcmpOd f s
  | .vsel f => Sys2Proof.Machine.execVsel f s
  | .viadd f => Sys2Proof.Machine.execViadd f s
  | .visub f => Sys2Proof.Machine.execVisub f s
  | .vimul f => Sys2Proof.Machine.execVimul f s
  | .vimulh f => Sys2Proof.Machine.execVimulh f s
  | .vand f => Sys2Proof.Machine.execVand f s
  | .vor f => Sys2Proof.Machine.execVor f s
  | .vxor f => Sys2Proof.Machine.execVxor f s
  | .vnot f => Sys2Proof.Machine.execVnot f s
  | .vshl f => Sys2Proof.Machine.execVshl f s
  | .vshr f => Sys2Proof.Machine.execVshr f s
  | .vsha f => Sys2Proof.Machine.execVsha f s
  | .vimin f => Sys2Proof.Machine.execVimin f s
  | .vimax f => Sys2Proof.Machine.execVimax f s
  | .viminu f => Sys2Proof.Machine.execViminu f s
  | .vimaxu f => Sys2Proof.Machine.execVimaxu f s
  | .vicmpEq f => Sys2Proof.Machine.execVicmpEq f s
  | .vicmpLt f => Sys2Proof.Machine.execVicmpLt f s
  | .vicmpLtu f => Sys2Proof.Machine.execVicmpLtu f s
  | .vcvtf f => Sys2Proof.Machine.execVcvtf f s
  | .vcvti f => Sys2Proof.Machine.execVcvti f s
  | .vcvtif f => Sys2Proof.Machine.execVcvtif f s
  | .vpack f => Sys2Proof.Machine.execVpack f s
  | .vunpkLo f => Sys2Proof.Machine.execVunpkLo f s
  | .vunpkHi f => Sys2Proof.Machine.execVunpkHi f s
  | .vqnt f => Sys2Proof.Machine.execVqnt f s
  | .vdqt f => Sys2Proof.Machine.execVdqt f s
  | .vbsc f => Sys2Proof.Machine.execVbsc f s
  | .vpsd f => Sys2Proof.Machine.execVpsd f s
  | .vrsum f => Sys2Proof.Machine.execVrsum f s
  | .vrmax f => Sys2Proof.Machine.execVrmax f s
  | .vrmin f => Sys2Proof.Machine.execVrmin f s
  | .vramax f => Sys2Proof.Machine.execVramax f s
  | .vrdot f => Sys2Proof.Machine.execVrdot f s
  | .vpsum f => Sys2Proof.Machine.execVpsum f s
  | .vshuf f => Sys2Proof.Machine.execVshuf f s
  | .vbcst f => Sys2Proof.Machine.execVbcst f s
  | .vlrot f => Sys2Proof.Machine.execVlrot f s
  | .vslide f => Sys2Proof.Machine.execVslide f s
  | .vzip f => Sys2Proof.Machine.execVzip f s
  | .vuzp f => Sys2Proof.Machine.execVuzp f s
  | .vrev f => Sys2Proof.Machine.execVrev f s
  | .vcomp f => Sys2Proof.Machine.execVcomp f s
  | .vmvx f => Sys2Proof.Machine.execVmvx f s
  | .vins f => Sys2Proof.Machine.execVins f s
  | .vext f => Sys2Proof.Machine.execVext f s
  | .vmvp f => Sys2Proof.Machine.execVmvp f s
  | .mand f => Sys2Proof.Machine.execMand f s
  | .mor f => Sys2Proof.Machine.execMor f s
  | .mxor f => Sys2Proof.Machine.execMxor f s
  | .mnot f => Sys2Proof.Machine.execMnot f s
  | .mpopc f => Sys2Proof.Machine.execMpopc f s
  | .vld f => Sys2Proof.Machine.execVld f s
  | .vst f => Sys2Proof.Machine.execVst f s
  | .vldi f => Sys2Proof.Machine.execVldi f s
  | .vsti f => Sys2Proof.Machine.execVsti f s
  | .vldb f => Sys2Proof.Machine.execVldb f s
  | .vgth f => Sys2Proof.Machine.execVgth f s
  | .vsct f => Sys2Proof.Machine.execVsct f s
  | .vstc f => Sys2Proof.Machine.execVstc f s
  | .zset f => Sys2Proof.Machine.execZset f s
  | .zstep f => Sys2Proof.Machine.execZstep f s
  | .zrst f => Sys2Proof.Machine.execZrst f s
  | .zget f => Sys2Proof.Machine.execZget f s
  | .sfmt f => Sys2Proof.Machine.execSfmt f s
  | .zchk f => Sys2Proof.Machine.execZchk f s
  | .vclamp f => Sys2Proof.Machine.execVclamp f s
  | .vlerp f => Sys2Proof.Machine.execVlerp f s
  | .vrelu f => Sys2Proof.Machine.execVrelu f s
  | .vexp f => Sys2Proof.Machine.execVexp f s
  | .vln f => Sys2Proof.Machine.execVln f s
  | .vtanh f => Sys2Proof.Machine.execVtanh f s
  | .verf f => Sys2Proof.Machine.execVerf f s
  | .vsin f => Sys2Proof.Machine.execVsin f s
  | .vcos f => Sys2Proof.Machine.execVcos f s
  | .vatn2 f => Sys2Proof.Machine.execVatn2 f s
  | .vturn f => Sys2Proof.Machine.execVturn f s
  | .vtcs f => Sys2Proof.Machine.execVtcs f s
  | .vhyp f => Sys2Proof.Machine.execVhyp f s
  | .mpushRot f => Sys2Proof.Machine.execMpushRot f s
  | .mpushDrv f => Sys2Proof.Machine.execMpushDrv f s
  | .mpushCxg f => Sys2Proof.Machine.execMpushCxg f s
  | .mpushFol f => Sys2Proof.Machine.execMpushFol f s
  | .mpushSwp f => Sys2Proof.Machine.execMpushSwp f s
  | .mpushPas f => Sys2Proof.Machine.execMpushPas f s
  | .mpushGrd f => Sys2Proof.Machine.execMpushGrd f s
  | .mlda f => Sys2Proof.Machine.execMlda f s
  | .mldp f => Sys2Proof.Machine.execMldp f s
  | .mpatch f => Sys2Proof.Machine.execMpatch f s
  | .mswap f => Sys2Proof.Machine.execMswap f s
  | .msave f => Sys2Proof.Machine.execMsave f s
  | .mrest f => Sys2Proof.Machine.execMrest f s
  | .mgsv f => Sys2Proof.Machine.execMgsv f s
  | .mscli f => Sys2Proof.Machine.execMscli f s
  | .msclo f => Sys2Proof.Machine.execMsclo f s
  | .mdix f => Sys2Proof.Machine.execMdix f s
  | .mbits f => Sys2Proof.Machine.execMbits f s
  | .mrst f => Sys2Proof.Machine.execMrst f s
  | .mnrm f => Sys2Proof.Machine.execMnrm f s
  | .mstat f => Sys2Proof.Machine.execMstat f s
  | .mfmt f => Sys2Proof.Machine.execMfmt f s
  | .mdrn f => Sys2Proof.Machine.execMdrn f s
  | .mclr f => Sys2Proof.Machine.execMclr f s
  | .cpy f => Sys2Proof.Machine.execCpy f s
  | .cst f => Sys2Proof.Machine.execCst f s
  | .cstz f => Sys2Proof.Machine.execCstz f s
  | .cll f => Sys2Proof.Machine.execCll f s
  | .cxr f => Sys2Proof.Machine.execCxr f s
  | .cxw f => Sys2Proof.Machine.execCxw f s
  | .cfil f => Sys2Proof.Machine.execCfil f s
  | .cpyt f => Sys2Proof.Machine.execCpyt f s
  | .gqin f => Sys2Proof.Machine.execGqin f s
  | .gath f => Sys2Proof.Machine.execGath f s
  | .scat f => Sys2Proof.Machine.execScat f s
  | .wbnd f => Sys2Proof.Machine.execWbnd f s
  | .wadv f => Sys2Proof.Machine.execWadv f s
  | .wrel f => Sys2Proof.Machine.execWrel f s
  | .csch f => Sys2Proof.Machine.execCsch f s
  | .cstep f => Sys2Proof.Machine.execCstep f s
  | .cabt f => Sys2Proof.Machine.execCabt f s
  | .crsm f => Sys2Proof.Machine.execCrsm f s
  | .cscan f => Sys2Proof.Machine.execCscan f s
  | .czip f => Sys2Proof.Machine.execCzip f s
  | .cprf f => Sys2Proof.Machine.execCprf f s
  | .cwb f => Sys2Proof.Machine.execCwb f s
  | .cinv f => Sys2Proof.Machine.execCinv f s
  | .cwms f => Sys2Proof.Machine.execCwms f s
  | .cfnc f => Sys2Proof.Machine.execCfnc f s
  | .csig f => Sys2Proof.Machine.execCsig f s
  | .cldm f => Sys2Proof.Machine.execCldm f s
  | .csts f => Sys2Proof.Machine.execCsts f s
  | .cpri f => Sys2Proof.Machine.execCpri f s
  | .cdup f => Sys2Proof.Machine.execCdup f s
  | .cmsk f => Sys2Proof.Machine.execCmsk f s
  | .crpl f => Sys2Proof.Machine.execCrpl f s
  | .bundleDispatch => Sys2Proof.Machine.execBundleDispatch s
  | .idleEntry slot => Sys2Proof.Machine.execIdleEntry slot s
  | .stickyReissue slot => Sys2Proof.Machine.execStickyReissue slot s
  | .resultLand k => Sys2Proof.Machine.execResultLand k s
  | .trackedResultLand k => Sys2Proof.Machine.execTrackedResultLand k s
  | .postedStorePerform k => Sys2Proof.Machine.execPostedStorePerform k s
  | .singleStepTrap => Sys2Proof.Machine.execSingleStepTrap s
  | .freezeComplete => Sys2Proof.Machine.execFreezeComplete s
  | .cctlResume core => Sys2Proof.Machine.execCctlResume core s
  | .launchEnd queue seq => Sys2Proof.Machine.execLaunchEnd queue seq s
  | .taskParked => Sys2Proof.Machine.execTaskParked s
  | .drainBoundExpiry => Sys2Proof.Machine.execDrainBoundExpiry s
  | .preemptionEscalation => Sys2Proof.Machine.execPreemptionEscalation s
  | .contextResume => Sys2Proof.Machine.execContextResume s
  | .bankSwitchBack => Sys2Proof.Machine.execBankSwitchBack s
  | .watchdogExpiry => Sys2Proof.Machine.execWatchdogExpiry s
  | .budgetPeriod => Sys2Proof.Machine.execBudgetPeriod s
  | .budgetGraceExpiry resource cls => Sys2Proof.Machine.execBudgetGraceExpiry resource cls s
  | .mwaitReturn => Sys2Proof.Machine.execMwaitReturn s
  | .waitvReevaluation => Sys2Proof.Machine.execWaitvReevaluation s
  | .waitvTimeout => Sys2Proof.Machine.execWaitvTimeout s
  | .syncArrival => Sys2Proof.Machine.execSyncArrival s
  | .barrierArrival a => Sys2Proof.Machine.execBarrierArrival a s
  | .phaseCompletion level domid phase => Sys2Proof.Machine.execPhaseCompletion level domid phase s
  | .barrierRootTimeout level => Sys2Proof.Machine.execBarrierRootTimeout level s
  | .taskEnd => Sys2Proof.Machine.execTaskEnd s
  | .mdrnComplete => Sys2Proof.Machine.execMdrnComplete s
  | .mpushLand => Sys2Proof.Machine.execMpushLand s
  | .planeUnitOperation => Sys2Proof.Machine.execPlaneUnitOperation s
  | .copyLandingWrite ch => Sys2Proof.Machine.execCopyLandingWrite ch s
  | .fragmentReturn ch => Sys2Proof.Machine.execFragmentReturn ch s
  | .copyComplete ch => Sys2Proof.Machine.execCopyComplete ch s
  | .scheduleEntryRelease => Sys2Proof.Machine.execScheduleEntryRelease s
  | .creditGrant ch target rows rowb => Sys2Proof.Machine.execCreditGrant ch target rows rowb s
  | .remoteFlowWrite w src bytes => Sys2Proof.Machine.execRemoteFlowWrite w src bytes s
  | .remoteOpmWrite core off bytes => Sys2Proof.Machine.execRemoteOpmWrite core off bytes s
  | .frameReceive port frame fcsGood => Sys2Proof.Machine.execFrameReceive port frame fcsGood s
  | .txq port w => Sys2Proof.Machine.execTxq port w s
  | .frameTransmit port => Sys2Proof.Machine.execFrameTransmit port s
  | .rds y line => Sys2Proof.Machine.execRds y line s
  | .rdx y line full => Sys2Proof.Machine.execRdx y line full s
  | .upg y line => Sys2Proof.Machine.execUpg y line s
  | .wbd x line keep z poison data => Sys2Proof.Machine.execWbd x line keep z poison data s
  | .evc x line => Sys2Proof.Machine.execEvc x line s
  | .inv line => Sys2Proof.Machine.execInv line s
  | .recall line keep fwd => Sys2Proof.Machine.execRecall line keep fwd s
  | .dat line grant poison data => Sys2Proof.Machine.execDat line grant poison data s
  | .cmp line grant => Sys2Proof.Machine.execCmp line grant s
  | .ack x line dirty notHeld data => Sys2Proof.Machine.execAck x line dirty notHeld data s
  | .homeLocalRead line => Sys2Proof.Machine.execHomeLocalRead line s
  | .homeLocalWrite line => Sys2Proof.Machine.execHomeLocalWrite line s
  | .uncachedRead y line => Sys2Proof.Machine.execUncachedRead y line s
  | .uncachedWrite y addr bytes => Sys2Proof.Machine.execUncachedWrite y addr bytes s
  | .homeSliceEvict line => Sys2Proof.Machine.execHomeSliceEvict line s
  | .sliceEviction line => Sys2Proof.Machine.execSliceEviction line s
  | .metadataRead ch => Sys2Proof.Machine.execMetadataRead ch s
  | .metadataRebuild line => Sys2Proof.Machine.execMetadataRebuild line s
  | .ganderScan ch => Sys2Proof.Machine.execGanderScan ch s
  | .layerMigration stack => Sys2Proof.Machine.execLayerMigration stack s
  | .tierDemotion tier frame => Sys2Proof.Machine.execTierDemotion tier frame s
  | .translationWalk k => Sys2Proof.Machine.execTranslationWalk k s
  | .migrationRewalk k => Sys2Proof.Machine.execMigrationRewalk k s
  | .pageResponse tag code => Sys2Proof.Machine.execPageResponse tag code s
  | .faultBoundExpiry k => Sys2Proof.Machine.execFaultBoundExpiry k s
  | .flitCrcError port => Sys2Proof.Machine.execFlitCrcError port s
  | .fabricTimeout k => Sys2Proof.Machine.execFabricTimeout k s
  | .laneRetrain port => Sys2Proof.Machine.execLaneRetrain port s
  | .launchStart queue => Sys2Proof.Machine.execLaunchStart queue s
  | .taskRelease queue seq => Sys2Proof.Machine.execTaskRelease queue seq s
  | .frameTick => Sys2Proof.Machine.execFrameTick s
  | .collieWatchdogExpiry k => Sys2Proof.Machine.execCollieWatchdogExpiry k s
  | .rclaim die => Sys2Proof.Machine.execRclaim die s
  | .hsemAcquire port => Sys2Proof.Machine.execHsemAcquire port s
  | .hsemRelease port => Sys2Proof.Machine.execHsemRelease port s
  | .deviceReset port => Sys2Proof.Machine.execDeviceReset port s
  | .powerOnReset => Sys2Proof.Machine.execPowerOnReset s
  | .functionLevelReset port => Sys2Proof.Machine.execFunctionLevelReset port s
  | .firmwareUpdate port fuse => Sys2Proof.Machine.execFirmwareUpdate port fuse s
  | .firmwareUpdateFuse => Sys2Proof.Machine.execFirmwareUpdateFuse s
  | .firmwareUpdateDone writeError => Sys2Proof.Machine.execFirmwareUpdateDone writeError s
  | .attestationRequest port => Sys2Proof.Machine.execAttestationRequest port s
  | .attestationReport destError => Sys2Proof.Machine.execAttestationReport destError s
  | .invalidateAll => Sys2Proof.Machine.execInvalidateAll s
  | .invalidateAsid asid => Sys2Proof.Machine.execInvalidateAsid asid s
  | .invalidatePage asid => Sys2Proof.Machine.execInvalidatePage asid s
  | .invalidateTensors asid => Sys2Proof.Machine.execInvalidateTensors asid s
  | .invalidationDone => Sys2Proof.Machine.execInvalidationDone s
  | .patternTest ch => Sys2Proof.Machine.execPatternTest ch s
  | .patternTestDone ch wrong => Sys2Proof.Machine.execPatternTestDone ch wrong s
  | .ptestRead ch => Sys2Proof.Machine.execPtestRead ch s
  | .opmWrite core off bytes => Sys2Proof.Machine.execOpmWrite core off bytes s
  | .hostWindowAccess port off len data => Sys2Proof.Machine.execHostWindowAccess port off len data s
  | .registerWrite who off size val => Sys2Proof.Machine.execRegisterWrite who off size val s
  | .thermalWarning => Sys2Proof.Machine.execThermalWarning s
  | .thermalTrip => Sys2Proof.Machine.execThermalTrip s
  | .completionTimeout k => Sys2Proof.Machine.execCompletionTimeout k s
  | .portLinkDown port => Sys2Proof.Machine.execPortLinkDown port s
  | .refusedWrite ch => Sys2Proof.Machine.execRefusedWrite ch s
  | .priStoppedClear port => Sys2Proof.Machine.execPriStoppedClear port s

end Sys2Proof.Machine
end

