-- ==== Sys2Proof/Machine/Inputs.lean ====
section
/-! DEFINITION. What reaches the device from outside its own events (log entry 91): errors in its stores, halt requests, single-step,
the tiers' thresholds and pages, the answer to an excess arrival (spec/06 R74; spec/07 R105; spec/19 R290, R291, R299 to R301; spec/24
R346; spec/27 R370, R378). -/
namespace Sys2Proof.Machine

/-- Errors of one place at some ticks make it lasting now: THR of them fall within WIN ticks (R346). -/
def State.lastingNow (s : State) (ticks : List Nat) : Bool :=
  decide ((s.ecls.extractLsb' 32 8).toNat ≤ (ticks.filter fun t => decide (s.tick < t + (s.ecls.extractLsb' 0 32).toNat)).length)

/-- A corrected error logged (KIND 0), and its place, once, as lasting (KIND 1) when THR of them fall within WIN ticks (R346, R379). -/
def State.noteCorrected (s : State) (unit : BitVec 8) (index : BitVec 16) (at_ : BitVec 64) : State :=
  let p : Place := ⟨unit, index, at_⟩
  let s := { (s.logError 0 unit index at_) with errors := (p, s.tick) :: s.errors }
  if s.lasting.contains p || !s.lastingNow ((s.errors.filter fun e => e.1 == p).map (·.2)) then s
  else { s with lasting := p :: s.lasting }.logError 1 unit index at_

/-- A corrected error of a row of a stack, counted for the repair of its layers; a row once found lasting stays so (R291). -/
def countRow (stack layer row : Nat) (s : State) : State :=
  let r := vget s.repairs stack ⟨0, 0, 0, [], []⟩
  let errors := (layer, row, s.tick) :: r.errors
  let known := r.lasting.contains (layer, row) ||
    !s.lastingNow ((errors.filter fun e => e.1 == layer && e.2.1 == row).map (·.2.2))
  { s with repairs := vset s.repairs stack { r with
      errors := errors, lasting := if known then r.lasting else (layer, row) :: r.lasting } }

/-- A line of this device's HBM is uncorrectable where the wrong symbols lie: in its metadata word, in its data. DEDUCED: of an error
in the check symbols alone the data cannot be told good (log entry 115). -/
def markLine (l : Nat) (symbols : List Nat) (s : State) : State :=
  let inMeta := symbols.any (140 ≤ ·)
  let inData := symbols.any (· < 128) || !inMeta
  { s with
    metaBad := if inMeta && !s.metaBad.contains l then l :: s.metaBad else s.metaBad,
    dataBad := if inData && !s.dataBad.contains l then l :: s.dataBad else s.dataBad }

/-- Wrong symbols of a line that DRAM holds (R290, R291): up to 4 are corrected and counted; up to 8 are detected; of more the code says
nothing, so that the line is found bad or holds other data and another word (log entry 115). -/
def dramError (line layer row : Nat) (symbols : List Nat) (s : State) : State :=
  let l := localLine line
  let symbols := symbols.filter (· < 144)
  let n := ((List.range 144).filter symbols.contains).length
  let stack := stackOf (128 * l)
  if !s.homeLine line || n = 0 then s
  else if n ≤ 4 then
    (countRow stack layer row s).noteCorrected 0 (BitVec.ofNat 16 stack) (BitVec.ofNat 64 (2 ^ 20 * layer + row))
  else
    let (k, s) := if n ≤ 8 then (0, s) else s.choose 2
    if k = 0 then markLine l symbols s
    else
      let (d, s) := s.openValue 1024
      let (w, s) := s.openValue 32
      { s with hbm := s.hbm.put (128 * l) 128 d.toNat, metaWords := Sparse.put s.metaWords l w }

/-- An uncorrectable error in the line cache or the memory-side cache: the line is poisoned at home (R320, R378). Poison of a copy that
this device owns goes home at once by a WbD; for a shared copy it asks for ownership first, and goes home as a modified copy does (log
entry 143). -/
def cacheError (line : Nat) (s : State) : State :=
  let l := localLine line
  match s.sliceLine line with
  | none => if s.homeLine line then s.setMeta l (wordPoison (s.metaWord l) true) else s
  | some x =>
    let s := (s.setSlice { x with poison := true }).monTouch line
    match x.st with
    | .c | .d => s.setMeta l (wordPoison (s.metaWord l) true)
    | .tierC | .tierD => s.poisonTier l true
    | .e | .m => cleanLine line false (s.setSlice { x with poison := true, st := .m })
    | .o => cleanLine line false s
    | .s => (want .upgrade .slice line (.upg (devOf (128 * line)) line) none s).2

/-- The trap of an uncorrectable error in sequencer state. DEDUCED: KIND 0 with no entry at fault, as R97's list leaves it; a core
that is stopped takes it when it goes on (log entry 116). -/
def sequencerError (s : State) : State :=
  let t : Trap := { s.imposed 0xB6 (Config.unstated 0xB6 1) (Config.unstated 0xB6 2) with kind := .atIssue }
  match s.core.run with
  | .running | .draining => s.takeTrap t
  | .halted => s
  | _ => s.modCore fun c => { c with deferred := c.deferred ++ [(t, c.cur)] }

/-- An uncorrectable error in a store of the core in focus (Table 27.4). -/
def coreError (st : Store) (a : Nat) (s : State) : State :=
  match st with
  | .sequencer => sequencerError s
  | .imem => s.modCore fun c => { c with imemBad := a % c.imemSize :: c.imemBad }
  | .spad => s.modCore fun c => { c with spadBad := a % c.spadSize :: c.spadBad }
  | .plane => s.modMesh fun m => { m with planeBad := a :: m.planeBad }
  | .datapath => s.modMesh fun m => { m with parBad := a :: m.parBad }

/-- The tier of a frame. -/
def tierOfFrame (frame : Nat) : Nat := if rangeOf (frame * 2 ^ 18) = .hbm then 0 else 1

/-- A page of a tier: its entry names it, and its frames count as allocated (R299 to R301). -/
def givePage (o : PageOwner) (s : State) : State :=
  let k := tierOfFrame o.frame
  let t := vget s.tiers k Tier.reset
  { s with
    owners := o :: s.owners.filter fun p => p.frame != o.frame,
    tiers := vset s.tiers k { t with pages := (run o.frame o.frames).foldl (fun l f => insertNat f l) t.pages } }

/-- A metadata word of this home is read by another device, in its turn (R274, R315, log entry 63). -/
def metaAnswer (y : BitVec 6) (line : Nat) (s : State) : State := homeRequest y line (.metaRead y) s

/-- A request or message of this device for a line has been turned away: a holder gives its home no answer (R322), a request fails with
the cause. -/
def takeDenied (x : BitVec 6) (line : Nat) (cause : BitVec 8) (s : State) : State :=
  if devOf (128 * line) = s.devId then
    match s.homeTx.find? fun t => t.line == line && t.active && (t.invs.contains x || t.owes == some x) with
    | some t => abandon t x s
    | none => s
  else
    { s with requests := s.requests.map fun r =>
        if r.unanswered && (r.line == line || r.line / 128 == line) && r.dst == x then { r with failed := some cause } else r }

/-- The host writes an entry of a function's MSI-X table; a message that has waited for it is sent (R366). -/
def writeMsix (port : BitVec 1) (vec : BitVec 9) (e : MsixEntry) (s : State) : State :=
  let i := 512 * port.toNat + vec.toNat
  let waits := (Sparse.at MsixEntry.reset s.msix i).pending
  let s : State := { s with msix := Sparse.put s.msix i { e with pending := waits && e.masked } }
  if waits && !e.masked then s.send (.msix port vec e.addr e.data) else s

/-- What an input does. -/
def takeInput (i : Input) (s : State) : State :=
  match i with
  | .coreError n st a => if n < 136 then s.onCore n (coreError st a) else s
  | .corrected unit index at_ =>
    let s := s.noteCorrected unit index at_
    if unit = 4 then s.send (.aer (if index = 1 then .p1 else .p0) true) else s
  | .cacheError line => cacheError line s
  | .dramError line layer row symbols => dramError line layer row symbols s
  | .spanningError stack layer => countRow stack.toNat layer spanRow s
  | .tierError line poison =>
    let l := localLine line
    if poison then s.poisonTier l true else { s with tierBad := l :: s.tierBad.filter (· != l) }
  | .haltRequest n =>
    if n < 128 then s.onCore n fun s => impose (s.imposed 0xB3 (Config.unstated 0xB3 1) (Config.unstated 0xB3 2)) s else s
  | .singleStep n isB on =>
    if n < 136 then s.onCore n fun s => s.modBankOf isB fun b => { b with singleStep := on, stepIds := 0, stepSeq := b.seqNext } else s
  | .tierLevels tier high low =>
    { s with tiers := vset s.tiers tier.toNat { (vget s.tiers tier.toNat Tier.reset) with high := high, low := low } }
  | .tierPage frame level pteAddr asid va => givePage ⟨frame, level, pteAddr, asid, va⟩ s
  | .excess a => arrivalTrap a 0xA3 s
  | .denied x line cause => takeDenied x line cause s
  | .away d on => if on then leaveDomain d s else { s with away := s.away &&& ~~~(1#64 <<< d.toNat) }
  | .route d next => { s with routes := Sparse.put s.routes d.toNat next }
  | .wiring port peer =>
    { s with links := vset s.links port.toNat { (vget s.links port.toNat FabricPort.none_) with peer := some peer } }
  | .msixEntry port vec addr data masked => writeMsix port vec ⟨addr, data, masked, false⟩ s
  | .barRead port off len => barRead port off len s
  | .metaRead y line => metaAnswer y line s

end Sys2Proof.Machine
end

