-- ==== Sys2Proof/Machine/Step.lean ====
section
/-! DEFINITION. One step of the machine: an input taken, the next event of the agenda, or the next cycle of the core in focus; and
where an instruction stands so that the next step runs it. -/
namespace Sys2Proof.Machine

/-- One step: the oldest input is taken; with none, the agenda's first event happens at the core it names, and the focus stays with
its core; with no event either, the core in focus runs a cycle. -/
def step (s : State) : Host.Outcome State Fault Refusal :=
  match s.inputs with
  | i :: rest => .next (takeInput i { s with inputs := rest })
  | [] =>
    match s.agenda with
    | (n, i) :: rest =>
      if n < 136 then refocus s.coreNo (exec i ({ s with agenda := rest }.focus n)) else .fault .noSuchCore
    | [] => coreCycle s

/-- The state with an operation's bundle where the core in focus fetches its next one, ready to run it: see
`State.loadBundle`. A firmware-only word is run by a Collie core. -/
def State.withFetchWord (s : State) (nbits w : Nat) : State :=
  if nbits = 32 then s.loadBundle (soloBundle .s (w % 2 ^ 32)) (firmwareWord w) else s

end Sys2Proof.Machine
end

