-- ==== Sys2Proof/Safety.lean ====
section
/-! DEFINITION. What counts as a safe run, and the terms in which claims are made: what a step answers, a result under way, the
sources of a vector operation read. -/
namespace Sys2Proof
open Sys2Proof.Machine

/-- A step that answers a next state: no fault and no refusal. -/
def Completes (o : Out) : Prop := ∃ t, o = .next t

/-- A step that answers a next state of which `P` holds. -/
def Answers (o : Out) (P : State → Prop) : Prop := ∃ t, o = .next t ∧ P t

/-- A run of `k` steps that meets no fault and no refusal. -/
def SafeRun (k : Nat) (s : State) : Prop := ∃ t, core.run k s = .next t

/-- `t` is `s` with one more fixed-bound result under way, which lands in one of the next `bound` cycles; an open choice may have
been taken, and nothing else differs (R31). -/
def Lands (s : State) (r : RegRef) (v : BitVec 4096) (lanes : BitVec 128) (bound : Nat) (t : State) : Prop :=
  ∃ k c, 1 ≤ k ∧ k ≤ bound ∧
    t = { s with
      choices := c,
      core := s.core.setBank { s.bank with
        inflight := insertInFlight ⟨r, v, lanes, k, s.cycle, s.ctx.entry.seq, s.ctx.slot, none, false⟩ s.bank.inflight } }

/-- `Lands` for the x register of a name. -/
def LandsX (s : State) (name : BitVec 6) (v : BitVec 64) (bound : Nat) (t : State) : Prop :=
  Lands s ⟨.x, physReg s.ctx.entry.rotb name⟩ (v.setWidth 4096) 0 bound t

/-- `Lands` for a predicate. -/
def LandsP (s : State) (k : Nat) (v : Bool) (bound : Nat) (t : State) : Prop := Lands s ⟨.p, k⟩ (if v then 1 else 0) 0 bound t

/-- `t` is `s` with one more tracked operation, which lands in one of the next `bound` cycles; an open choice may have
been taken, and nothing else differs (R34). -/
def TracksKind (s : State) (regs : List RegRef) (kind : TKind) (bound : Nat) (t : State) : Prop :=
  ∃ k c, 1 ≤ k ∧ k ≤ bound ∧
    t = { s with
      choices := c,
      core := s.core.setBank { s.bank with
        tracked := s.bank.tracked ++ [⟨regs, kind, k, s.ctx.entry.pc, s.ctx.entry.rep, s.ctx.entry.seq, s.ctx.slot⟩] } }

/-- `TracksKind` for a known value. -/
def Tracks (s : State) (regs : List RegRef) (v : BitVec 512) (bound : Nat) (t : State) : Prop :=
  TracksKind s regs (.value v) bound t

/-- The state once the operation has read FMT and its sources. -/
def vAfterRead (f : VOp) (srcs : List (BitVec 7)) (whole : Bool) (us : List Use) (s : State) : State :=
  (readSources (s.fmtV).2 f whole (s.fmtV).1 (s.readM f.mask.toNat) srcs us).2

/-- What the operation has read. -/
def vRead (f : VOp) (srcs : List (BitVec 7)) (whole : Bool) (us : List Use) (s : State) : VIn :=
  let vs := (readSources (s.fmtV).2 f whole (s.fmtV).1 (s.readM f.mask.toNat) srcs us).1
  ⟨vs.getD 0 ⟨[], []⟩, vs.getD 1 ⟨[], []⟩, vs.getD 2 ⟨[], []⟩, s.readM f.mask.toNat, rmOf f.rm,
    (vAfterRead f srcs whole us s).ftz, (s.fmtV).1⟩

/-- What a vector operation meets when it issues: its guard holds, its streams plan the uses `us`, its direct addresses are good,
no frozen watermark stands before an access, and no byte that it reads is uncorrectable (R148 to R150, R239). -/
structure VReady (f : VOp) (srcs : List (BitVec 7)) (whole full : Bool) (d : VDirect) (us : List Use) (s : State) : Prop where
  guard : s.holds f.g = true
  plan : planUses s.zreg s.core.spadSize (vUseReqs f srcs) = .ok us
  addrs : badAddr s.core.spadSize 4 d.check = none
  passed : s.core.frozenAccess (vAccesses whole full (s.readM f.mask.toNat) us d) = none
  correct : (vAfterRead f srcs whole us s).badByte
    (vReadSpans whole full (s.readM f.mask.toNat) us ++ (if d.reads then d.spans else [])) = none

/-- The state in which a vector operation's effect acts: sources read, its flags raised for the end of the cycle, its streams
stepped (R129, R138). -/
def vBase (f : VOp) (srcs : List (BitVec 7)) (whole : Bool) (us : List Use) (fl : List Flags) (s : State) : State :=
  ((vAfterRead f srcs whole us s).modBank fun b => { b with vflagsNow := b.vflagsNow ||| joinFlags fl }).stepStreams us

/-- None of the flags is enabled for a trap (R130). -/
def NoFlagTrap (fl : List Flags) (s : State) : Prop := joinFlags fl &&& s.trapEnable = 0

/-- A vector operation that is ready, and whose flags trap nothing, answers the next state of its effect: sources read, flags
raised, streams stepped, then what `e` does with what it has read. -/
def VActs (f : VOp) (srcs : List (BitVec 7)) (whole full : Bool) (d : VDirect) (e : VIn → List Use → VEffect) (s : State) (o : Out) :
    Prop :=
  ∀ us, VReady f srcs whole full d us s →
    NoFlagTrap (e (vRead f srcs whole us s) us).fl (vAfterRead f srcs whole us s) →
    o = .next ((e (vRead f srcs whole us s) us).go (vBase f srcs whole us (e (vRead f srcs whole us s) us).fl s))

/-- A vector operation that writes its destination lane by lane, a register within `bound` cycles or a stream's bytes. -/
def VWrites (f : VOp) (srcs : List (BitVec 7)) (bound : Nat) (g : VIn → Nat → Flagged (BitVec 32)) (s : State) (o : Out) : Prop :=
  VActs f srcs false false .none
    (fun v us => vWrite f v us bound ((List.range 128).map fun i => if v.on i then g v i else ⟨0, 0⟩) s.core.spad) s o

/-- Lane `i` computed element by element from one source. -/
def each1 (f : VOp) (g : VIn → Nat → Flagged Nat) (v : VIn) (i : Nat) : Flagged (BitVec 32) :=
  joinFlagged (tyWidth f.ty) ((splitLane (tyWidth f.ty) (v.a.lane i)).map (g v))

/-- Lane `i` computed element by element from two sources. -/
def each2 (f : VOp) (g : VIn → Nat → Nat → Flagged Nat) (v : VIn) (i : Nat) : Flagged (BitVec 32) :=
  joinFlagged (tyWidth f.ty)
    (List.zipWith (g v) (splitLane (tyWidth f.ty) (v.a.lane i)) (splitLane (tyWidth f.ty) (v.b.lane i)))

/-- Lane `i` computed element by element from three sources. -/
def each3 (f : VOp) (g : VIn → Nat → Nat → Nat → Flagged Nat) (v : VIn) (i : Nat) : Flagged (BitVec 32) :=
  joinFlagged (tyWidth f.ty)
    (List.zipWith (fun x h => h x) (splitLane (tyWidth f.ty) (v.c.lane i))
      (List.zipWith (fun a b c => g v a b c) (splitLane (tyWidth f.ty) (v.a.lane i)) (splitLane (tyWidth f.ty) (v.b.lane i))))

/-- The state once the idle entry at the head of a slot's queue has issued: it has left its queue and done nothing (R24). -/
def issueIdle (s : State) (t : Slot) : State :=
  match s.bank.queue t with
  | [] => s
  | e :: q => (s.modBank fun b => b.setQueue t q).seat t e

/-- The head of a slot's queue, if any, is an idle entry. -/
def IdleHead (s : State) (t : Slot) : Prop := (headOf s.bank t).all (·.op.isNone) = true

/-- A bank in which nothing is under way. -/
structure Still (b : Bank) : Prop where
  results : b.inflight = [] ∧ b.tracked = [] ∧ b.posted = []
  flags : b.vflagsNow = 0
  fences : b.fenceR = false ∧ b.fenceW = false ∧ b.fenceHost = false

/-- A machine at rest: the core in focus is halted with nothing under way, no other core has anything to do, no watchdog of a
Collie core runs, no queue, launch, request or engine of the device has work, and no input or event is to come. -/
structure Quiet (s : State) : Prop where
  agenda : s.inputs = [] ∧ s.agenda = []
  halted : s.core.run = .halted
  banks : Still s.core.bankA ∧ Still s.core.bankB
  mesh : s.core.mesh.pipe = [] ∧ s.core.mesh.unit = []
  channels : s.core.chans.toList.all Channel.idle = true
  task : s.core.launch = none ∧ s.core.preReq = none ∧ s.core.point = false ∧ s.core.stalls = [] ∧ s.core.releaseAt = none
  others : ∀ p ∈ s.others, p.2.live = false ∧ p.2.releaseAt = none
  watchdogs : ∀ k < 8, (s.coreAt (128 + k)).wdog = none ∧ (s.coreAt (128 + k)).bankA.tracked = []
  front : s.queues = [] ∧ s.feWrites = [] ∧ s.launches = [] ∧ s.saved = [] ∧ s.budgets = []
  paging : s.pageReqs = [] ∧ s.pageWait = [] ∧ s.xbusy = false
  lines : s.slice = [] ∧ s.requests = [] ∧ s.homeTx = [] ∧ s.hostOps = [] ∧ s.phys = []
  reports : s.metaTold = [] ∧ s.lasting = [] ∧ s.marks = [] ∧ s.hsemAsk = false
  barriers : ∀ k, s.anyOut k Outstanding.waits = false
  tiers : s.moving = [] ∧ ∀ k < 2, (vget s.tiers k Tier.reset).active = false ∧
    (vget s.tiers k Tier.reset).pages.length ≤ (vget s.tiers k Tier.reset).high
  repairs : ∀ k < 8, (vget s.repairs k ⟨0, 0, 0, [], []⟩).state ≠ 1 ∧ (vget s.repairs k ⟨0, 0, 0, [], []⟩).lasting = []
  firmware : s.fw.busy = false ∧ s.fw.fuse = false ∧ s.attest.busy = false
  wires : ∀ k < 2, (vget s.wires k WirePort.reset).txq = []

end Sys2Proof
end

