-- ==== Sys2Proof/Certificates/Slice0/Obligations.lean ====
section
/-! DEFINITION. The statements for the provers, family by family of the opcode table. -/
open Sys2Proof Sys2Proof.Machine

/-- For every well-formed operation, with every operand at every value its fields admit, the word that the encoder writes decodes
in its slot to the same operation; V0 and V1 read it alike, and so do C0 and C1. (R19, R20, R21, R22, R39, R71, R145, R203,
R254, spec/03_bundle_encoding.md) -/
def Obligations.DecodeEncode : Prop :=
    ∀ (i : Instr) (slot : Slot), i.WellFormed →
      (i.view.homeSlot = some slot ∨ (i.view.homeSlot = some .v0 ∧ slot = .v1) ∨ (i.view.homeSlot = some .c0 ∧ slot = .c1)) →
      decodeSlot slot (encode i) = .ok i.view ∧ i.view.instr = some i

/-- A word that a slot accepts is exactly the encoding of the operation read, of the low 32 bits in the S slot: no two words of a
slot mean one operation, and no bit of an accepted word is ignored; and an accepted payload is a well-formed operation of the
table. (R19, R20, R22, R39, R40, spec/03_bundle_encoding.md) -/
def Obligations.EncodeDecode : Prop :=
    ∀ (slot : Slot) (w : BitVec 64) (v : View), decodeSlot slot w = .ok v →
      v.encode = (if slot = .s then (w.setWidth 32).setWidth 64 else w) ∧ v.ok = true ∧
      ∃ i : Instr, v.instr = some i ∧ i.WellFormed ∧ i.view = v

/-- One word of each slot and format family, written out from the tables of the spec, decodes to the operation it stands for; an
unassigned opcode is rejected as such, and a set reserved bit or a forbidden register as forbidden. (R20, R22, R39, R40, R71,
spec/03_bundle_encoding.md, spec/06_sequencer_instructions.md) -/
def Obligations.SpecWordsDecode : Prop :=
    let reads (slot : Slot) (w : BitVec 64) : Option Instr := (decodeSlot slot w).toOption.bind View.instr
    let always : Guard := ⟨0, false⟩
    reads .s 0x30014503 = some (.addi ⟨always, 5, 5, 3⟩) ∧
    reads .s 0x4E00C400 = some (.cmpiEq ⟨always, 3, 4, 0⟩) ∧
    reads .s 0x6801C002 = some (.loopi ⟨always, 7, 0, 2⟩) ∧
    reads .s 0x78028300 = some (.ldgW ⟨always, 10, 3, 0⟩) ∧
    reads .s 0x88028226 = some (.aadd ⟨always, 10, 2, 9, true⟩) ∧
    reads .m 0x0010208000000000 = some (.mpushRot ⟨always, 64, 65, false, 0⟩) ∧
    reads .m 0x2800000000000000 = some (.mswap ⟨always, 0, 0, false, 0⟩) ∧
    reads .c0 0x000400C002000000 = some (.cpy ⟨always, 1, 3, 0, 0x8000, 0, 0⟩) ∧
    reads .v1 0x0000600500010000 = some (.vadd ⟨always, 1, 64, 5, 0, 0, 0, 0, true, 0⟩) ∧
    decodeSlot .s 0xC0000000 = .error .unassigned ∧ decodeSlot .v0 0xD000000000000000 = .error .unassigned ∧
    decodeSlot .m 0x6000000000000000 = .error .unassigned ∧ decodeSlot .c1 0x8000000000000000 = .error .unassigned ∧
    decodeSlot .s 0x9E000010 = .error .forbidden ∧ decodeSlot .m 0x2800000000000001 = .error .forbidden

/-- Where its guard holds, each RR operation from ADD to MAXU answers the state with one more result under way for x[d], within
its bound, and nothing else changed. (R76, R77) -/
def Obligations.AluResults : Prop :=
    ∀ (f : FmtRR) (s : State), s.holds f.g = true →
    let a := s.readX f.a
    let b := s.readX f.b
    let sh := b.toNat % 64
    Answers (exec (.add f) s) (LandsX s f.d (a + b) 1) ∧
    Answers (exec (.sub f) s) (LandsX s f.d (a - b) 1) ∧
    Answers (exec (.and f) s) (LandsX s f.d (a &&& b) 1) ∧
    Answers (exec (.or f) s) (LandsX s f.d (a ||| b) 1) ∧
    Answers (exec (.xor f) s) (LandsX s f.d (a ^^^ b) 1) ∧
    Answers (exec (.shl f) s) (LandsX s f.d (a <<< sh) 1) ∧
    Answers (exec (.shr f) s) (LandsX s f.d (a >>> sh) 1) ∧
    Answers (exec (.sha f) s) (LandsX s f.d (a.sshiftRight sh) 1) ∧
    Answers (exec (.mul f) s) (LandsX s f.d (a * b) 3) ∧
    Answers (exec (.mulhs f) s) (LandsX s f.d (BitVec.ofInt 64 (a.toInt * b.toInt / 2 ^ 64)) 3) ∧
    Answers (exec (.mulhu f) s) (LandsX s f.d (BitVec.ofNat 64 (a.toNat * b.toNat / 2 ^ 64)) 3) ∧
    Answers (exec (.divu f) s) (LandsX s f.d (if b = 0 then BitVec.allOnes 64 else a / b) 20) ∧
    Answers (exec (.remu f) s) (LandsX s f.d (if b = 0 then a else a % b) 20) ∧
    Answers (exec (.divs f) s) (LandsX s f.d
      (if b = 0 then BitVec.allOnes 64
       else if a = BitVec.intMin 64 ∧ b = BitVec.allOnes 64 then BitVec.intMin 64
       else BitVec.ofInt 64 (a.toInt.tdiv b.toInt)) 20) ∧
    Answers (exec (.rems f) s) (LandsX s f.d
      (if b = 0 then a
       else if a = BitVec.intMin 64 ∧ b = BitVec.allOnes 64 then 0
       else BitVec.ofInt 64 (a.toInt - b.toInt * a.toInt.tdiv b.toInt)) 20) ∧
    Answers (exec (.mins f) s) (LandsX s f.d (if a.toInt ≤ b.toInt then a else b) 1) ∧
    Answers (exec (.maxs f) s) (LandsX s f.d (if a.toInt ≤ b.toInt then b else a) 1) ∧
    Answers (exec (.minu f) s) (LandsX s f.d (if a.toNat ≤ b.toNat then a else b) 1) ∧
    Answers (exec (.maxu f) s) (LandsX s f.d (if a.toNat ≤ b.toNat then b else a) 1)

/-- Where its guard holds, CLZ, POPC, BEXT, BDEP and SEL answer the state with the result under way and nothing else changed; CLZ
and POPC count, and each bit of BEXT and BDEP is the one the rule names. (R78) -/
def Obligations.BitOperationResults : Prop :=
    (∀ (f : FmtRR) (s : State), s.holds f.g = true →
      let a := s.readX f.a
      let b := s.readX f.b
      let k := s.readX f.d
      Answers (exec (.clz f) s) (LandsX s f.d (BitVec.ofNat 64 (64 - a.toNat.size)) 1) ∧
      Answers (exec (.popc f) s) (LandsX s f.d (BitVec.ofNat 64 ((List.range 64).countP fun i => a.getLsbD i)) 1) ∧
      Answers (exec (.bext f) s) (LandsX s f.d (bext a b) 2) ∧
      Answers (exec (.bdep f) s) (LandsX s f.d (bdep a b) 2) ∧
      Answers (exec (.sel f) s) (LandsX s f.d ((a &&& k) ||| (b &&& ~~~k)) 1)) ∧
    (∀ (a b : BitVec 64),
      let rank := fun i => (List.range i).countP fun j => b.getLsbD j
      (∀ i < 64, b.getLsbD i = true → (bext a b).getLsbD (rank i) = a.getLsbD i) ∧
      (∀ j < 64, rank 64 ≤ j → (bext a b).getLsbD j = false) ∧
      (∀ i < 64, (bdep a b).getLsbD i = (b.getLsbD i && a.getLsbD (rank i))))

/-- Where its guard holds, each RI operation computes with its extended immediate as its RR counterpart does, and LI and LIS build
constants; the result is under way and nothing else has changed. (R79, R80) -/
def Obligations.ImmediateResults : Prop :=
    (∀ (f : FmtRI) (s : State), s.holds f.g = true →
      let a := s.readX f.a
      let sh := f.imm.toNat % 64
      Answers (exec (.addi f) s) (LandsX s f.d (a + f.imm.signExtend 64) 1) ∧
      Answers (exec (.andi f) s) (LandsX s f.d (a &&& f.imm.signExtend 64) 1) ∧
      Answers (exec (.ori f) s) (LandsX s f.d (a ||| f.imm.zeroExtend 64) 1) ∧
      Answers (exec (.xori f) s) (LandsX s f.d (a ^^^ f.imm.zeroExtend 64) 1) ∧
      Answers (exec (.shli f) s) (LandsX s f.d (a <<< sh) 1) ∧
      Answers (exec (.shri f) s) (LandsX s f.d (a >>> sh) 1) ∧
      Answers (exec (.shai f) s) (LandsX s f.d (a.sshiftRight sh) 1)) ∧
    (∀ (f : FmtLI) (s : State), s.holds f.g = true →
      Answers (exec (.li f) s) (LandsX s f.d (f.imm.signExtend 64) 1) ∧
      Answers (exec (.lis f) s) (LandsX s f.d ((s.readX f.d <<< 14) ||| f.imm.zeroExtend 64) 1))

/-- Where its guard holds, each compare and each predicate operation answers the state with its predicate under way and nothing
else changed. (R81, R82) -/
def Obligations.CompareAndPredicateResults : Prop :=
    (∀ (f : FmtRR) (s : State), s.holds f.g = true →
      let a := s.readX f.a
      let b := s.readX f.b
      Answers (exec (.cmpEq f) s) (LandsP s f.d.toNat (a == b) 1) ∧
      Answers (exec (.cmpNe f) s) (LandsP s f.d.toNat (a != b) 1) ∧
      Answers (exec (.cmpLts f) s) (LandsP s f.d.toNat (a.slt b) 1) ∧
      Answers (exec (.cmpLes f) s) (LandsP s f.d.toNat (a.sle b) 1) ∧
      Answers (exec (.cmpLtu f) s) (LandsP s f.d.toNat (a.ult b) 1) ∧
      Answers (exec (.cmpLeu f) s) (LandsP s f.d.toNat (a.ule b) 1)) ∧
    (∀ (f : FmtRI) (s : State), s.holds f.g = true →
      let a := s.readX f.a
      Answers (exec (.cmpiEq f) s) (LandsP s f.d.toNat (a == f.imm.signExtend 64) 1) ∧
      Answers (exec (.cmpiNe f) s) (LandsP s f.d.toNat (a != f.imm.signExtend 64) 1) ∧
      Answers (exec (.cmpiLts f) s) (LandsP s f.d.toNat (a.slt (f.imm.signExtend 64)) 1) ∧
      Answers (exec (.cmpiLtu f) s) (LandsP s f.d.toNat (a.ult (f.imm.zeroExtend 64)) 1)) ∧
    (∀ (f : FmtPL) (s : State), s.holds f.g = true →
      let a := s.readP f.a.toNat ^^ f.na
      let b := s.readP f.b.toNat ^^ f.nb
      Answers (exec (.pand f) s) (LandsP s f.d.toNat (a && b) 1) ∧
      Answers (exec (.por f) s) (LandsP s f.d.toNat (a || b) 1) ∧
      Answers (exec (.pxor f) s) (LandsP s f.d.toNat (a ^^ b) 1) ∧
      Answers (exec (.pnot f) s) (LandsP s f.d.toNat (!a) 1))

/-- Where its guard holds, BR, JMP, CALL and RET continue dispatch at the target two cycles later, CALL with the link under way,
if the target is aligned and inside IMEM; otherwise they trap 0x15 and transfer nothing. (R83) -/
def Obligations.BranchesTransfer : Prop :=
    (∀ (f : FmtBO) (s : State), s.holds f.g = true →
      let t := (s.ctx.entry.pc : Int) + 4 * f.off.toInt
      (targetOk s.core t = true →
        exec (.br f) s = .next (s.jump t.toNat) ∧
        Answers (exec (.call f) s)
          (LandsX (s.jump t.toNat) 31 (BitVec.ofNat 64 (s.ctx.entry.pc + s.ctx.entry.len)) 1)) ∧
      (targetOk s.core t = false →
        exec (.br f) s = .next (s.trapPlain 0x15) ∧ exec (.call f) s = .next (s.trapPlain 0x15))) ∧
    (∀ (f : FmtK) (s : State), s.holds f.g = true →
      let t := ((s.readX f.a).toNat : Int)
      (targetOk s.core t = true →
        exec (.jmp f) s = .next (s.jump t.toNat) ∧ exec (.ret f) s = .next (s.jump t.toNat)) ∧
      (targetOk s.core t = false →
        exec (.jmp f) s = .next (s.trapPlain 0x15) ∧ exec (.ret f) s = .next (s.trapPlain 0x15))) ∧
    (∀ (c : Core) (t : Int), targetOk c t = true ↔ 0 ≤ t ∧ t < c.imemSize ∧ t % 4 = 0)

/-- With a true guard, a count below 2^32 and a body inside IMEM, LOOP and LOOPI set IRC, DRC, LBODY, the loop buffer and the
stage predicates, and the next bundle is dispatched; with a false guard they pass the body; a count of 2^32 or more traps
0x19, a body beyond IMEM 0x13; LBRK marks a running loop, and the next bundle is dispatched. That a loop with a false guard is
passed over whatever its count and length are, with no cause of its own, is the choice of the model (log entry 94). (R84, R85,
spec/06_sequencer_instructions.md) -/
def Obligations.LoopsStartAndBreak : Prop :=
    (∀ (f : FmtLP) (s : State),
      let start := s.ctx.entry.pc + s.ctx.entry.len
      let bytes := s.core.bodyBytes start (f.len.toNat + 1)
      let started (n : BitVec 32) := (s.modBank fun b =>
        { b with irc := n, drc := f.drc, loop := ⟨true, f.len, BitVec.ofNat 18 start, bytes, false, f.drc, 0, s.core.imem.part start bytes,
            s.core.imemBad.filter fun a => start ≤ a && a < start + bytes⟩,
                 p := (b.p &&& 0x00FF) ||| 0x0100 }).fallThrough
      let x := s.readX (f.cnt.extractLsb' 2 6)
      (s.holds f.g = true → start + bytes ≤ 0x40000 →
        exec (.loopi f) s = .next (started (f.cnt.setWidth 32)) ∧
        (x.toNat < 2 ^ 32 → exec (.loop f) s = .next (started (x.setWidth 32)))) ∧
      (s.holds f.g = true → 2 ^ 32 ≤ x.toNat → exec (.loop f) s = .next (s.trapPlain 0x19)) ∧
      (s.holds f.g = true → 0x40000 < start + bytes → exec (.loopi f) s = .next (s.trapPlain 0x13) ∧
        (x.toNat < 2 ^ 32 → exec (.loop f) s = .next (s.trapPlain 0x13))) ∧
      (s.holds f.g = false →
        exec (.loop f) s = .next (s.jump (start + bytes)) ∧ exec (.loopi f) s = .next (s.jump (start + bytes)))) ∧
    (∀ (f : FmtK) (s : State), s.holds f.g = true →
      (s.bank.loop.act = true →
        exec (.lbrk f) s = .next ((s.modBank fun b => { b with loop := { b.loop with brk := true } }).fallThrough)) ∧
      (s.bank.loop.act = false → exec (.lbrk f) s = .next s.fallThrough))

/-- With no LBRK, no pre-emption request and no items put aside, the end of a pass adds one to ROTB, moves p8 to p14 up by one,
puts into p8 whether an item starts, and counts IRC, then DRC, down; the loop ends when both are 0, and only then does
dispatch leave the body. After LBRK it ends the loop and leaves ROTB, IRC, DRC and every predicate as they stand. With a
request pending on a running core it rotates and shifts, puts the items not started aside, makes IRC 0 and p8 false, takes one
drain pass or ends the loop, and the core drains. Where a bank that does not drain ends a loop with items put aside, the loop
starts again with them: IRC is one less than their count, DRC the operand of the start, p8 true and p9 to p15 false. (R63,
R65, R85, R110, spec/05_sequencer_model.md, spec/06_sequencer_instructions.md, spec/07_traps_and_switching.md) -/
def Obligations.PassEndRotates : Prop :=
    (∀ (s : State), s.bank.loop.brk = false → s.core.preReq = none → s.bank.loop.lpend = 0 →
      let b := s.bank
      let t := (passEnd s).bank
      t.rotb = b.rotb + 1 ∧
      (∀ i, 9 ≤ i → i < 16 → t.p.getLsbD i = b.p.getLsbD (i - 1)) ∧
      t.p.getLsbD 8 = (b.irc != 0) ∧
      (∀ i, i < 8 → t.p.getLsbD i = b.p.getLsbD i) ∧
      (b.irc ≠ 0 → t.irc = b.irc - 1 ∧ t.drc = b.drc ∧ t.loop.act = true ∧ t.pc = b.loop.start.toNat) ∧
      (b.irc = 0 → b.drc ≠ 0 → t.irc = 0 ∧ t.drc = b.drc - 1 ∧ t.loop.act = true ∧ t.pc = b.loop.start.toNat) ∧
      (b.irc = 0 → b.drc = 0 → t.irc = 0 ∧ t.drc = 0 ∧ t.loop.act = false ∧ t.pc = b.loop.start.toNat + b.loop.bytes) ∧
      t.x = b.x ∧ t.v = b.v ∧ t.m = b.m ∧ t.z = b.z) ∧
    (∀ (s : State), s.bank.loop.brk = true →
      let b := s.bank
      let t := (passEnd s).bank
      t.rotb = b.rotb ∧ t.irc = b.irc ∧ t.drc = b.drc ∧ t.p = b.p ∧ t.loop.act = false ∧ t.loop.brk = false ∧
      t.pc = b.loop.start.toNat + b.loop.bytes ∧ t.x = b.x ∧ t.v = b.v ∧ t.m = b.m ∧ t.z = b.z) ∧
    (∀ (s : State), s.bank.loop.brk = false → s.core.preReq.isSome = true → s.core.run = .running →
      let b := s.bank
      let t := (passEnd s).bank
      t.rotb = b.rotb + 1 ∧
      (∀ i, 9 ≤ i → i < 16 → t.p.getLsbD i = b.p.getLsbD (i - 1)) ∧
      t.p.getLsbD 8 = false ∧
      (∀ i, i < 8 → t.p.getLsbD i = b.p.getLsbD i) ∧
      t.loop.lpend = b.irc ∧ t.irc = 0 ∧
      (b.drc ≠ 0 → t.drc = b.drc - 1 ∧ t.loop.act = true ∧ t.pc = b.loop.start.toNat) ∧
      (b.drc = 0 → t.drc = 0 ∧ t.loop.act = false ∧ t.pc = b.loop.start.toNat + b.loop.bytes) ∧
      (passEnd s).core.run = .draining ∧ t.draining = true ∧
      t.x = b.x ∧ t.v = b.v ∧ t.m = b.m ∧ t.z = b.z) ∧
    (∀ (s : State), s.bank.loop.brk = false → s.core.preReq = none → s.bank.loop.lpend ≠ 0 → s.bank.draining = false →
      s.bank.irc = 0 → s.bank.drc = 0 →
      let b := s.bank
      let t := (passEnd s).bank
      t.rotb = b.rotb + 1 ∧ t.irc = b.loop.lpend - 1 ∧ t.drc = b.loop.drcOp ∧ t.loop.act = true ∧ t.loop.lpend = 0 ∧
      t.pc = b.loop.start.toNat ∧ t.p.getLsbD 8 = true ∧ (∀ i, 9 ≤ i → i < 16 → t.p.getLsbD i = false) ∧
      (∀ i, i < 8 → t.p.getLsbD i = b.p.getLsbD i) ∧
      t.x = b.x ∧ t.v = b.v ∧ t.m = b.m ∧ t.z = b.z)

/-- With a true guard, PPT notes the point of bank B; without a pending request, in a loop, or on a core that does not run,
nothing else changes; on a running core with a request and no loop the drain starts at once; the end of a pass with a request
starts it too. (R86, spec/06_sequencer_instructions.md) -/
def Obligations.PreemptionPointActs : Prop :=
    ∀ (f : FmtK) (s : State), s.holds f.g = true →
      let noted := s.modCore fun c => { c with point := c.point || c.cur }
      (s.core.preReq = none → exec (.ppt f) s = .next noted) ∧
      (s.core.preReq.isSome = true → s.bank.loop.act = true → exec (.ppt f) s = .next noted) ∧
      (s.core.run ≠ .running → exec (.ppt f) s = .next noted) ∧
      (s.core.preReq.isSome = true → s.bank.loop.act = false → s.core.run = .running →
        Answers (exec (.ppt f) s) fun t =>
          t = noted.startDrain ∧ t.core.run = .draining ∧ t.bank.hold = .stopped ∧ t.bank.queues = s.bank.queues) ∧
      (s.core.preReq.isSome = true → s.core.run = .running → (passEnd s).core.run = .draining ∧ (passEnd s).bank.draining = true)

/-- With a true guard, GETS of a register of Table 5.2 puts its value under way within 2 cycles, a register that another engine
changes with its number noted for a later read; a number that Table 5.2 does not have traps 0x11; TIME tracks its value within
4 cycles. (R59, R60, R89, R95, spec/06_sequencer_instructions.md) -/
def Obligations.SpecialRegisterReads : Prop :=
    (∀ (f : FmtSG) (s : State), s.holds f.g = true →
      let n := f.num.toNat
      (s.special n = none → exec (.gets f) s = .next (s.trapPlain 0x11)) ∧
      (∀ w, s.special n = some w → n ≠ 0x0C9 → ¬ (n = 0x0CA ∧ s.bank.nsArmed = true) → engineRegister n = false →
        Answers (exec (.gets f) s) (LandsX s f.d w 2)) ∧
      (∀ w, s.special n = some w → engineRegister n = true →
        exec (.gets f) s = .next (s.landFrom (some n) ⟨.x, physReg s.ctx.entry.rotb f.d⟩ (w.setWidth 4096) 0 2)) ∧
      (n = 0x0CA → s.bank.nsArmed = true →
        Answers (exec (.gets f) s)
          (LandsX (s.modBank fun b => { b with nsArmed := false }) f.d (s.bank.nsLatch.setWidth 64) 2)) ∧
      (n = 0x0C9 →
        Answers (exec (.gets f) s)
          (LandsX (s.modBank fun b => { b with nsLatch := (ptpSplit s.ptpNs).2, nsArmed := true }) f.d
            ((ptpSplit s.ptpNs).1.setWidth 64) 2))) ∧
    (∀ (f : FmtK) (s : State), s.holds f.g = true →
      Answers (exec (.time f) s)
        (Tracks (timeValue f.k.toNat s).2 [⟨.x, physReg (timeValue f.k.toNat s).2.ctx.entry.rotb f.d⟩]
          ((timeValue f.k.toNat s).1.setWidth 512) 4))

/-- With a true guard, SETS and SETSI put their value under way within 2 cycles for a writable register of Table 5.2; they trap
0x11 for no register, 0x12 for a read-only one, 0x14 for IRC, DRC and ROTB while a loop runs, 0xA2 for DMk with an arrival
outstanding. (R59, R61, R67, R89, spec/06_sequencer_instructions.md) -/
def Obligations.SpecialRegisterWrites : Prop :=
    ∀ (f : FmtSR) (s : State), s.holds f.g = true →
      let n := f.num.toNat
      let outcome (v : BitVec 64) (o : Out) : Prop :=
        (s.special n = none → o = .next (s.trapPlain 0x11)) ∧
        (s.special n ≠ none → specialWritable n = false → o = .next (s.trapPlain 0x12)) ∧
        (s.special n ≠ none → n = 0x020 ∨ n = 0x021 ∨ n = 0x022 → s.bank.loop.act = true → o = .next (s.trapPlain 0x14)) ∧
        (s.special n ≠ none → 0x0C0 ≤ n → n ≤ 0x0C3 → (vget s.bank.out (n - 0x0C0) none).isSome = true →
          o = .next (s.trapPlain 0xA2)) ∧
        (s.special n ≠ none → specialWritable n = true →
          ¬ ((n = 0x020 ∨ n = 0x021 ∨ n = 0x022) ∧ s.bank.loop.act = true) →
          ¬ (0x0C0 ≤ n ∧ n ≤ 0x0C3 ∧ (vget s.bank.out (n - 0x0C0) none).isSome = true) →
          Answers o (Lands s ⟨.sr, n⟩ (v.setWidth 4096) 0 2))
      outcome (s.readX (f.val.extractLsb' 4 6)) (exec (.sets f) s) ∧ outcome (f.val.zeroExtend 64) (exec (.setsi f) s)

/-- With a true guard and an aligned address below 2^54, each LDG, STG and atomic answers the state with one more access under
way, its data and compare value captured: loads and atomics are tracked, stores are posted; registers, queues, scratchpad and
HBM are as before. (R325, R327, R328, R330, spec/22_global_instructions.md) -/
def Obligations.GlobalAccessesStart : Prop :=
    (∀ (f : FmtGM) (s : State), s.holds f.g = true →
      let e := s.ctx.entry
      let good (va : BitVec 64) (n : Nat) : Prop := va.extractLsb' 54 10 = 0 ∧ va.toNat % n = 0
      let access (k : GKind) (n : Nat) (word : BitVec 64) (va : BitVec 64) : GAccess :=
        ⟨0, k, word.setWidth 32, va, n, s.readX (f.d + 1) ++ s.readX f.d, 0,
          pairOf (physReg e.rotb f.d) (physReg e.rotb (f.d + 1)), e.pc, e.rep, e.seq, .walk, 0, 0, 0⟩
      (good (s.readX f.a + 1 * f.off.signExtend 64) 1 →
        exec (.ldgB f) s = .next (s.startAccess s.core.cur (access .load 1 (encode (.ldgB f)) (s.readX f.a + 1 * f.off.signExtend 64)))) ∧
      (good (s.readX f.a + 2 * f.off.signExtend 64) 2 →
        exec (.ldgH f) s = .next (s.startAccess s.core.cur (access .load 2 (encode (.ldgH f)) (s.readX f.a + 2 * f.off.signExtend 64)))) ∧
      (good (s.readX f.a + 4 * f.off.signExtend 64) 4 →
        exec (.ldgW f) s = .next (s.startAccess s.core.cur (access .load 4 (encode (.ldgW f)) (s.readX f.a + 4 * f.off.signExtend 64)))) ∧
      (good (s.readX f.a + 8 * f.off.signExtend 64) 8 →
        exec (.ldgD f) s = .next (s.startAccess s.core.cur (access .load 8 (encode (.ldgD f)) (s.readX f.a + 8 * f.off.signExtend 64)))) ∧
      (good (s.readX f.a + 16 * f.off.signExtend 64) 16 →
        exec (.ldgQ f) s = .next (s.startAccess s.core.cur (access .load 16 (encode (.ldgQ f)) (s.readX f.a + 16 * f.off.signExtend 64)))) ∧
      (good (s.readX f.a + 1 * f.off.signExtend 64) 1 →
        exec (.stgB f) s = .next (s.startAccess s.core.cur (access .store 1 (encode (.stgB f)) (s.readX f.a + 1 * f.off.signExtend 64)))) ∧
      (good (s.readX f.a + 2 * f.off.signExtend 64) 2 →
        exec (.stgH f) s = .next (s.startAccess s.core.cur (access .store 2 (encode (.stgH f)) (s.readX f.a + 2 * f.off.signExtend 64)))) ∧
      (good (s.readX f.a + 4 * f.off.signExtend 64) 4 →
        exec (.stgW f) s = .next (s.startAccess s.core.cur (access .store 4 (encode (.stgW f)) (s.readX f.a + 4 * f.off.signExtend 64)))) ∧
      (good (s.readX f.a + 8 * f.off.signExtend 64) 8 →
        exec (.stgD f) s = .next (s.startAccess s.core.cur (access .store 8 (encode (.stgD f)) (s.readX f.a + 8 * f.off.signExtend 64)))) ∧
      (good (s.readX f.a + 16 * f.off.signExtend 64) 16 →
        exec (.stgQ f) s = .next (s.startAccess s.core.cur (access .store 16 (encode (.stgQ f)) (s.readX f.a + 16 * f.off.signExtend 64))))) ∧
    (∀ (f : FmtGA) (s : State), s.holds f.g = true → (s.readX f.a).extractLsb' 54 10 = 0 →
      let n := if f.sz then 8 else 4
      (s.readX f.a).toNat % n = 0 →
      let e := s.ctx.entry
      let access (k : Nat) (word : BitVec 64) : GAccess :=
        ⟨0, .atomic k, word.setWidth 32, s.readX f.a, n, (s.readX f.b).setWidth 128, s.readX f.d,
          pairOf (physReg e.rotb f.d) (physReg e.rotb (f.d + 1)), e.pc, e.rep, e.seq, .walk, 0, 0, 0⟩
      exec (.aadd f) s = .next (s.startAccess s.core.cur (access 0x44 (encode (.aadd f)))) ∧
      exec (.aand f) s = .next (s.startAccess s.core.cur (access 0x45 (encode (.aand f)))) ∧
      exec (.aor f) s = .next (s.startAccess s.core.cur (access 0x46 (encode (.aor f)))) ∧
      exec (.axor f) s = .next (s.startAccess s.core.cur (access 0x47 (encode (.axor f)))) ∧
      exec (.amins f) s = .next (s.startAccess s.core.cur (access 0x48 (encode (.amins f)))) ∧
      exec (.amaxs f) s = .next (s.startAccess s.core.cur (access 0x49 (encode (.amaxs f)))) ∧
      exec (.axch f) s = .next (s.startAccess s.core.cur (access 0x4A (encode (.axch f)))) ∧
      exec (.acas f) s = .next (s.startAccess s.core.cur (access 0x4B (encode (.acas f))))) ∧
    (∀ (s : State) (isB : Bool) (a : GAccess),
      let b := s.bankOf isB
      let t := (s.startAccess isB a).bankOf isB
      let a' := { a with id := s.core.nextId }
      (a.kind = .store → t.posted = b.posted ++ [a'] ∧ t.tracked = b.tracked) ∧
      (a.kind = .load ∨ (∃ k, a.kind = .atomic k) →
        t.posted = b.posted ∧ t.tracked = b.tracked ++ [⟨a'.results, .access a', 0, a.pc, a.rep, a.seq, .s⟩]) ∧
      t.x = b.x ∧ t.v = b.v ∧ t.queues = b.queues ∧ (s.startAccess isB a).hbm = s.hbm ∧
      (s.startAccess isB a).core.spad = s.core.spad)

/-- With a true guard, each of the five LDG, the five STG and the eight atomics whose address has a bit above 53 traps 0x63, and
each whose address is not aligned to its size traps 0x60, with the address and the opcode in the record; no access starts.
(R327, spec/22_global_instructions.md) -/
def Obligations.MisalignedAccessesTrap : Prop :=
    (∀ (f : FmtGM) (s : State), s.holds f.g = true →
      ((s.readX f.a + 1 * f.off.signExtend 64).extractLsb' 54 10 ≠ 0 → exec (.ldgB f) s = .next (s.trapAtIssue 0x63 (s.readX f.a + 1 * f.off.signExtend 64) 0x3A 0)) ∧
      ((s.readX f.a + 2 * f.off.signExtend 64).extractLsb' 54 10 ≠ 0 → exec (.ldgH f) s = .next (s.trapAtIssue 0x63 (s.readX f.a + 2 * f.off.signExtend 64) 0x3B 0)) ∧
      ((s.readX f.a + 2 * f.off.signExtend 64).extractLsb' 54 10 = 0 → (s.readX f.a + 2 * f.off.signExtend 64).toNat % 2 ≠ 0 →
        exec (.ldgH f) s = .next (s.trapAtIssue 0x60 (s.readX f.a + 2 * f.off.signExtend 64) 0x3B 0)) ∧
      ((s.readX f.a + 4 * f.off.signExtend 64).extractLsb' 54 10 ≠ 0 → exec (.ldgW f) s = .next (s.trapAtIssue 0x63 (s.readX f.a + 4 * f.off.signExtend 64) 0x3C 0)) ∧
      ((s.readX f.a + 4 * f.off.signExtend 64).extractLsb' 54 10 = 0 → (s.readX f.a + 4 * f.off.signExtend 64).toNat % 4 ≠ 0 →
        exec (.ldgW f) s = .next (s.trapAtIssue 0x60 (s.readX f.a + 4 * f.off.signExtend 64) 0x3C 0)) ∧
      ((s.readX f.a + 8 * f.off.signExtend 64).extractLsb' 54 10 ≠ 0 → exec (.ldgD f) s = .next (s.trapAtIssue 0x63 (s.readX f.a + 8 * f.off.signExtend 64) 0x3D 0)) ∧
      ((s.readX f.a + 8 * f.off.signExtend 64).extractLsb' 54 10 = 0 → (s.readX f.a + 8 * f.off.signExtend 64).toNat % 8 ≠ 0 →
        exec (.ldgD f) s = .next (s.trapAtIssue 0x60 (s.readX f.a + 8 * f.off.signExtend 64) 0x3D 0)) ∧
      ((s.readX f.a + 16 * f.off.signExtend 64).extractLsb' 54 10 ≠ 0 → exec (.ldgQ f) s = .next (s.trapAtIssue 0x63 (s.readX f.a + 16 * f.off.signExtend 64) 0x3E 0)) ∧
      ((s.readX f.a + 16 * f.off.signExtend 64).extractLsb' 54 10 = 0 → (s.readX f.a + 16 * f.off.signExtend 64).toNat % 16 ≠ 0 →
        exec (.ldgQ f) s = .next (s.trapAtIssue 0x60 (s.readX f.a + 16 * f.off.signExtend 64) 0x3E 0)) ∧
      ((s.readX f.a + 1 * f.off.signExtend 64).extractLsb' 54 10 ≠ 0 → exec (.stgB f) s = .next (s.trapAtIssue 0x63 (s.readX f.a + 1 * f.off.signExtend 64) 0x3F 0)) ∧
      ((s.readX f.a + 2 * f.off.signExtend 64).extractLsb' 54 10 ≠ 0 → exec (.stgH f) s = .next (s.trapAtIssue 0x63 (s.readX f.a + 2 * f.off.signExtend 64) 0x40 0)) ∧
      ((s.readX f.a + 2 * f.off.signExtend 64).extractLsb' 54 10 = 0 → (s.readX f.a + 2 * f.off.signExtend 64).toNat % 2 ≠ 0 →
        exec (.stgH f) s = .next (s.trapAtIssue 0x60 (s.readX f.a + 2 * f.off.signExtend 64) 0x40 0)) ∧
      ((s.readX f.a + 4 * f.off.signExtend 64).extractLsb' 54 10 ≠ 0 → exec (.stgW f) s = .next (s.trapAtIssue 0x63 (s.readX f.a + 4 * f.off.signExtend 64) 0x41 0)) ∧
      ((s.readX f.a + 4 * f.off.signExtend 64).extractLsb' 54 10 = 0 → (s.readX f.a + 4 * f.off.signExtend 64).toNat % 4 ≠ 0 →
        exec (.stgW f) s = .next (s.trapAtIssue 0x60 (s.readX f.a + 4 * f.off.signExtend 64) 0x41 0)) ∧
      ((s.readX f.a + 8 * f.off.signExtend 64).extractLsb' 54 10 ≠ 0 → exec (.stgD f) s = .next (s.trapAtIssue 0x63 (s.readX f.a + 8 * f.off.signExtend 64) 0x42 0)) ∧
      ((s.readX f.a + 8 * f.off.signExtend 64).extractLsb' 54 10 = 0 → (s.readX f.a + 8 * f.off.signExtend 64).toNat % 8 ≠ 0 →
        exec (.stgD f) s = .next (s.trapAtIssue 0x60 (s.readX f.a + 8 * f.off.signExtend 64) 0x42 0)) ∧
      ((s.readX f.a + 16 * f.off.signExtend 64).extractLsb' 54 10 ≠ 0 → exec (.stgQ f) s = .next (s.trapAtIssue 0x63 (s.readX f.a + 16 * f.off.signExtend 64) 0x43 0)) ∧
      ((s.readX f.a + 16 * f.off.signExtend 64).extractLsb' 54 10 = 0 → (s.readX f.a + 16 * f.off.signExtend 64).toNat % 16 ≠ 0 →
        exec (.stgQ f) s = .next (s.trapAtIssue 0x60 (s.readX f.a + 16 * f.off.signExtend 64) 0x43 0))) ∧
    (∀ (f : FmtGA) (s : State), s.holds f.g = true →
      let va := s.readX f.a
      (va.extractLsb' 54 10 ≠ 0 → exec (.aadd f) s = .next (s.trapAtIssue 0x63 va 0x44 0)) ∧
      (va.extractLsb' 54 10 = 0 → va.toNat % (if f.sz then 8 else 4) ≠ 0 →
        exec (.aadd f) s = .next (s.trapAtIssue 0x60 va 0x44 0)) ∧
      (va.extractLsb' 54 10 ≠ 0 → exec (.aand f) s = .next (s.trapAtIssue 0x63 va 0x45 0)) ∧
      (va.extractLsb' 54 10 = 0 → va.toNat % (if f.sz then 8 else 4) ≠ 0 →
        exec (.aand f) s = .next (s.trapAtIssue 0x60 va 0x45 0)) ∧
      (va.extractLsb' 54 10 ≠ 0 → exec (.aor f) s = .next (s.trapAtIssue 0x63 va 0x46 0)) ∧
      (va.extractLsb' 54 10 = 0 → va.toNat % (if f.sz then 8 else 4) ≠ 0 →
        exec (.aor f) s = .next (s.trapAtIssue 0x60 va 0x46 0)) ∧
      (va.extractLsb' 54 10 ≠ 0 → exec (.axor f) s = .next (s.trapAtIssue 0x63 va 0x47 0)) ∧
      (va.extractLsb' 54 10 = 0 → va.toNat % (if f.sz then 8 else 4) ≠ 0 →
        exec (.axor f) s = .next (s.trapAtIssue 0x60 va 0x47 0)) ∧
      (va.extractLsb' 54 10 ≠ 0 → exec (.amins f) s = .next (s.trapAtIssue 0x63 va 0x48 0)) ∧
      (va.extractLsb' 54 10 = 0 → va.toNat % (if f.sz then 8 else 4) ≠ 0 →
        exec (.amins f) s = .next (s.trapAtIssue 0x60 va 0x48 0)) ∧
      (va.extractLsb' 54 10 ≠ 0 → exec (.amaxs f) s = .next (s.trapAtIssue 0x63 va 0x49 0)) ∧
      (va.extractLsb' 54 10 = 0 → va.toNat % (if f.sz then 8 else 4) ≠ 0 →
        exec (.amaxs f) s = .next (s.trapAtIssue 0x60 va 0x49 0)) ∧
      (va.extractLsb' 54 10 ≠ 0 → exec (.axch f) s = .next (s.trapAtIssue 0x63 va 0x4A 0)) ∧
      (va.extractLsb' 54 10 = 0 → va.toNat % (if f.sz then 8 else 4) ≠ 0 →
        exec (.axch f) s = .next (s.trapAtIssue 0x60 va 0x4A 0)) ∧
      (va.extractLsb' 54 10 ≠ 0 → exec (.acas f) s = .next (s.trapAtIssue 0x63 va 0x4B 0)) ∧
      (va.extractLsb' 54 10 = 0 → va.toNat % (if f.sz then 8 else 4) ≠ 0 →
        exec (.acas f) s = .next (s.trapAtIssue 0x60 va 0x4B 0)))

/-- For 4 and 8 bytes, the value that each atomic writes is the sum, the bitwise combination, the signed minimum or maximum, the
operand, or for ACAS the operand where the old value is the compare value and else the old value; and it fits the size. (R330,
spec/22_global_instructions.md) -/
def Obligations.AtomicsCombine : Prop :=
    (∀ (a b c : BitVec 32),
      atomicNew 0x44 4 a.toNat b.toNat c.toNat = (a + b).toNat ∧
      atomicNew 0x45 4 a.toNat b.toNat c.toNat = (a &&& b).toNat ∧
      atomicNew 0x46 4 a.toNat b.toNat c.toNat = (a ||| b).toNat ∧
      atomicNew 0x47 4 a.toNat b.toNat c.toNat = (a ^^^ b).toNat ∧
      atomicNew 0x48 4 a.toNat b.toNat c.toNat = (if b.slt a then b else a).toNat ∧
      atomicNew 0x49 4 a.toNat b.toNat c.toNat = (if a.slt b then b else a).toNat ∧
      atomicNew 0x4A 4 a.toNat b.toNat c.toNat = b.toNat ∧
      atomicNew 0x4B 4 a.toNat b.toNat c.toNat = (if a = c then b else a).toNat) ∧
    (∀ (a b c : BitVec 64),
      atomicNew 0x44 8 a.toNat b.toNat c.toNat = (a + b).toNat ∧
      atomicNew 0x45 8 a.toNat b.toNat c.toNat = (a &&& b).toNat ∧
      atomicNew 0x46 8 a.toNat b.toNat c.toNat = (a ||| b).toNat ∧
      atomicNew 0x47 8 a.toNat b.toNat c.toNat = (a ^^^ b).toNat ∧
      atomicNew 0x48 8 a.toNat b.toNat c.toNat = (if b.slt a then b else a).toNat ∧
      atomicNew 0x49 8 a.toNat b.toNat c.toNat = (if a.slt b then b else a).toNat ∧
      atomicNew 0x4A 8 a.toNat b.toNat c.toNat = b.toNat ∧
      atomicNew 0x4B 8 a.toNat b.toNat c.toNat = (if a = c then b else a).toNat) ∧
    (∀ (op old opd cmp : Nat), old < 2 ^ 32 → atomicNew op 4 old opd cmp < 2 ^ 32) ∧
    (∀ (op old opd cmp : Nat), old < 2 ^ 64 → atomicNew op 8 old opd cmp < 2 ^ 64)

/-- With a true guard REL and DRN wait for reads and writes, ACQ for reads, and at scope host REL and DRN for the host window too;
nothing else changes. A wait is over exactly when no such access is left; one for the host window ends with its modified lines
sent on the host port. That the wait of scope host ends by sending the modified lines of the host window at once is the choice
of the model (log entry 113). (R331, R49, spec/22_global_instructions.md) -/
def Obligations.FencesHold : Prop :=
    (∀ (f : FmtGF) (s : State), s.holds f.g = true →
      let host : Bool := f.scope == 8
      exec (.rel f) s = .next (s.modBank fun b => { b with fenceR := true, fenceW := true, fenceHost := host }) ∧
      exec (.acq f) s = .next (s.modBank fun b => { b with fenceR := true }) ∧
      exec (.drn f) s = .next (s.modBank fun b => { b with fenceR := true, fenceW := true, fenceHost := host })) ∧
    (∀ (s : State) (isB : Bool),
      let t := s.modBankOf isB Bank.settleFences
      let ended : Bool := !(t.bankOf isB).fenceR && !(t.bankOf isB).fenceW
      ((s.bankOf isB).fenceHost = false ∨ ended = false → s.settleFences isB = t) ∧
      ((s.bankOf isB).fenceHost = true → ended = true → ((s.settleFences isB).bankOf isB).fenceHost = false ∧
        s.settleFences isB = (flushHost t).modBankOf isB fun b => { b with fenceHost := false })) ∧
    (∀ (b : Bank),
      (b.settleFences.fenceR = true ↔ b.fenceR = true ∧ ∃ t ∈ b.tracked, t.isGlobal = true) ∧
      (b.settleFences.fenceW = true ↔ b.fenceW = true ∧ ∃ a ∈ b.posted, a.kind ≠ .monitor))

/-- With a true guard and a valid DMk of at most 8,192 tasks: ARRV with no arrival outstanding takes the next phase and arrives,
and is not ready to issue before the accesses before it are done; SYNC whose joins hold begins its wait, SYNC_ARRIVAL arrives,
and SYNC whose phase has completed leaves the queue and lets dispatch go on. ARRV traps 0xA0, 0xA7 and 0xA1, SYNC 0xA0 and
0xA7. (R67, R90, R91, spec/06_sequencer_instructions.md) -/
def Obligations.BarriersArrive : Prop :=
    (∀ (f : FmtK) (s : State), s.holds f.g = true →
      let b := s.bank
      let k := f.k.toNat
      (b.dmValid k = true → b.dmCount k ≤ 8192 → vget b.out k none = none →
        exec (.arrv f) s = .next (arriveAt k s.ctx.entry.pc s.ctx.entry.rep s)) ∧
      (b.dmValid k = false → exec (.arrv f) s = .next (s.trapPlain 0xA0)) ∧
      (b.dmValid k = true → 8192 < b.dmCount k → exec (.arrv f) s = .next (s.trapPlain 0xA7)) ∧
      (b.dmValid k = true → b.dmCount k ≤ 8192 → vget b.out k none ≠ none → exec (.arrv f) s = .next (s.trapPlain 0xA1)) ∧
      (b.syncWait = none → b.dmValid k = true → b.dmCount k ≤ 8192 → vget b.out k none = none →
        b.issuedUpTo s.ctx.entry.seq = true → b.resultsLanded = true → b.storesDone = true → s.core.mesh.done = true →
        s.core.copiesDone = true → takeSchedCause s = none → s.core.frozenChan = none →
        exec (.sync f) s = .next ((s.modBank fun b => { b with syncWait := some ⟨BitVec.ofNat 2 k, false⟩ }).putBack)) ∧
      (∀ w o, b.syncWait = some w → w.arrived = true → vget b.out k none = some o → o.completed = true →
        exec (.sync f) s =
          .next ((s.modBank fun b => { b with out := vset b.out k none, syncWait := none }).fallThrough)) ∧
      (b.syncWait = none → b.dmValid k = false → exec (.sync f) s = .next (s.trapPlain 0xA0)) ∧
      (b.syncWait = none → b.dmValid k = true → 8192 < b.dmCount k → exec (.sync f) s = .next (s.trapPlain 0xA7))) ∧
    (∀ (s : State) (k : BitVec 2) (e : Entry) (q : List Entry), s.bank.syncWait = some ⟨k, false⟩ →
      s.bank.queues[0]? = some (e :: q) →
      exec .syncArrival s =
        .next (arriveAt k.toNat e.pc e.rep (s.modBank fun b => { b with syncWait := some ⟨k, true⟩ }))) ∧
    (∀ (f : FmtK) (s : State) (e : Entry) (q : List Entry), s.bank.queue .s = e :: q → e.op = some (Instr.arrv f).view →
      (s.seat .s e).holds f.g = true → s.bank.dmValid f.k.toNat = true → s.bank.dmCount f.k.toNat ≤ 8192 →
      vget s.bank.out f.k.toNat none = none → s.bank.accessesDone e.seq = false → slotReady s .s = false)

/-- With a true guard: MON of a line address arms the monitor and starts its watch; MWAIT returns at once when not armed, clears
the monitor when it has triggered, returns on a pre-emption request, and else sleeps; MWAIT_RETURN wakes it on the trigger or
the request; WAITV with legal conditions is tracked and evaluated at once, and on a core that issues its events evaluate it
again. That MWAIT with ARMED = 0 changes nothing is the choice of the model (log entry 96), as is the evaluation of a WAITV at
its issue and in every cycle (log entries 17 and 95). (R68, R92, R93, R332, spec/06_sequencer_instructions.md) -/
def Obligations.WaitsAndMonitor : Prop :=
    (∀ (f : FmtGM) (s : State), s.holds f.g = true →
      let va := s.readX f.a + 128 * f.off.signExtend 64
      va.extractLsb' 54 10 = 0 → va.toNat % 128 = 0 →
      let armed := s.modBank fun b =>
        { b with monaddr := va ||| 1, monLine := none, monSeen := [], posted := b.posted.filter fun a => a.kind != .monitor }
      exec (.mon f) s = .next (armed.issueAccess 0x51 (.gm f) va 128 [s.readX f.a] 0)) ∧
    (∀ (f : FmtGF) (s : State), s.holds f.g = true →
      (s.bank.monaddr.getLsbD 0 = false → exec (.mwait f) s = .next s.fallThrough) ∧
      (s.bank.monaddr.getLsbD 0 = true → s.bank.monaddr.getLsbD 1 = true →
        exec (.mwait f) s = .next ((s.fallThrough.modBank Bank.disarm).returnPoint s.core.cur)) ∧
      (s.bank.monaddr.getLsbD 0 = true → s.bank.monaddr.getLsbD 1 = false → s.core.preReq = none →
        exec (.mwait f) s = .next ((s.modBank fun b => { b with mwait := true }).putBack)) ∧
      (s.bank.monaddr.getLsbD 0 = true → s.bank.monaddr.getLsbD 1 = false → s.core.preReq.isSome = true →
        exec (.mwait f) s = .next (s.fallThrough.returnPoint s.core.cur))) ∧
    (∀ (s : State), s.bank.mwait = true →
      (s.bank.monaddr.getLsbD 1 = true →
        exec .mwaitReturn s = .next ((s.mwaitLeave.modBank Bank.disarm).returnPoint s.core.cur)) ∧
      (s.bank.monaddr.getLsbD 1 = false → s.core.preReq.isSome = true →
        exec .mwaitReturn s = .next (s.mwaitLeave.returnPoint s.core.cur))) ∧
    (∀ (f : FmtWV) (s : State), s.holds f.g = true → (∀ c ∈ s.waitConds f.a, c.cause = none) →
      let named := s.modCore fun c => { c with nextId := c.nextId + 1 }
      exec (.waitv f) s = .next (waitvEvaluate s.core.cur s.bank.tracked.length (named.modBank fun b =>
        { b with tracked := b.tracked ++
          [⟨[s.xRef f.d], .waitv ⟨s.core.nextId, s.waitConds f.a, f.all, s.readX f.b, s.cycle, 0, 0, []⟩, 0, s.ctx.entry.pc,
            s.ctx.entry.rep, s.ctx.entry.seq, .s⟩] }))) ∧
    (∀ (s : State) (j : Nat), s.core.run.issues = true →
      (s.bank.places Tracked.isWaitv = [j] → exec .waitvReevaluation s = .next (waitvEvaluate s.core.cur j s)) ∧
      (s.bank.places (Tracked.waitvExpired s) = [j] → exec .waitvTimeout s = .next (waitvEvaluate s.core.cur j s)))

/-- With a true guard: HALT whose waits are over and with no frozen copy stops dispatch and marks the task as ending, and with an
earlier entry, result, push or copy left, or a store not translated (log entry 122), stays at the head of its queue; TRAP and
BRK, every other entry of the bundle issued, let dispatch go on behind them and freeze the core with cause 0x10 or 0x16 and
CODE. That TRAP and BRK consume their entry before the freeze is the reading of the model (log entry 16). (R87, R88, R97,
spec/06_sequencer_instructions.md) -/
def Obligations.TasksHaltAndTrap : Prop :=
    (∀ (f : FmtK) (s : State), s.holds f.g = true →
      let rest := s.bank.issuedUpTo s.ctx.entry.seq && s.bank.resultsLanded && s.bank.storesTranslated && s.core.mesh.done &&
        s.core.copiesRest
      (rest = true → takeSchedCause s = none → s.core.frozenChan = none →
        exec (.halt f) s = .next (s.modBank fun b => { b with hold := .stopped, ending := true })) ∧
      (rest = true → takeSchedCause s = none → ∀ n, s.core.frozenChan = some n → exec (.halt f) s = .next (trapFrozen s n)) ∧
      (rest = false → exec (.halt f) s = .next s.putBack)) ∧
    (∀ (f : FmtTC) (s : State), s.holds f.g = true → s.bank.issuedUpTo s.ctx.entry.seq = true →
      let taken (cause : BitVec 8) := s.fallThrough.takeTrap
        ⟨cause, .atIssue, slotMask .s, s.ctx.entry.pc, s.ctx.entry.rep, f.code.setWidth 64, f.code.setWidth 64, 0⟩
      exec (.trap f) s = .next (taken 0x10) ∧ exec (.brk f) s = .next (taken 0x16))

/-- With a true guard and an aligned record address LNCH posts to device queue K and tracks its result within 64 cycles: bit 62
where the queue is not served, bit 63 where it is full, else the sequence number, with TAIL and the number counted up and the
record taken; a misaligned address traps 0x18. (R94, spec/06_sequencer_instructions.md) -/
def Obligations.LaunchesPost : Prop :=
    ∀ (f : FmtK) (s : State), s.holds f.g = true →
      let va := s.readX f.a
      let q := 256 + f.k.toNat
      let d := s.queueAt q
      (va.toNat % 128 ≠ 0 → exec (.lnch f) s = .next (s.trapPlain 0x18)) ∧
      (va.toNat % 128 = 0 → s.served q = false →
        Answers (exec (.lnch f) s) (Tracks s [s.xRef f.d] ((1#64 <<< 62).setWidth 512) 64)) ∧
      (va.toNat % 128 = 0 → s.served q = true → 2 ^ d.log2 ≤ (d.tail - d.head).toNat →
        Answers (exec (.lnch f) s) (Tracks s [s.xRef f.d] ((1#64 <<< 63).setWidth 512) 64)) ∧
      (va.toNat % 128 = 0 → s.served q = true → (d.tail - d.head).toNat < 2 ^ d.log2 →
        let t := (postLaunch q va s.bank.asid s).2.noteLaunch (d.seq + 1)
        Answers (exec (.lnch f) s) (Tracks t [t.xRef f.d] ((d.seq + 1).setWidth 512) 64) ∧
        t.devPosts = s.devPosts ++ [⟨q, d.seq + 1, va.toNat, s.bank.asid, false⟩] ∧
        (t.queueAt q).seq = d.seq + 1)

/-- With a true guard: QPOLL tracks the state of a queue and with ADV takes its oldest record; QPOST puts 64 scratchpad bytes into
a ring or traps on their address; RBLD and RBST start a device access or trap on theirs; SEMA acquires a free semaphore,
releases its own and reports a holder; WDOG tracks the ticks left and restarts the watchdog; FCLK is tracked as waiting for
the frame tick. A queue number past 271 gives QPOST an open value (log entry 32). (R348, R350, spec/24_front_end.md) -/
def Obligations.CollieOperations : Prop :=
    (∀ (f : FmtFW) (s : State), s.holds f.g = true →
      let q := (s.readX f.a).toNat % 512
      let n := (s.readX f.a).toNat % 32
      let e := s.ctx.entry
      let polled := if f.sub.getLsbD 0 && q < 272 && (s.queueAt q).tail != (s.queueAt q).head then
        s.modQueue q fun d => d.setWord 3 ((d.head + 1).setWidth 64) else s
      Answers (exec (.qpoll f) s) (Tracks polled [polled.xRef f.d] ((qpollValue q s).setWidth 512) 32) ∧
      (s.holder n = none →
        let t := { s with semas := Sparse.put s.semas n s.collieNo }
        Answers (exec (.semaAcquire f) s) (Tracks t [t.xRef f.d] 1 32)) ∧
      (s.holder n ≠ none → Answers (exec (.semaAcquire f) s) (Tracks s [s.xRef f.d] 0 32)) ∧
      (s.holder n = some s.collieNo →
        let t := { s with semas := Sparse.drop s.semas n }
        Answers (exec (.semaRelease f) s) (Tracks t [t.xRef f.d] 1 32)) ∧
      (s.holder n ≠ some s.collieNo → Answers (exec (.semaRelease f) s) (Tracks s [s.xRef f.d] 0 32)) ∧
      (∀ k, s.holder n = some k →
        Answers (exec (.semaQuery f) s) (Tracks s [s.xRef f.d] (BitVec.ofNat 512 (k.toNat + 1)) 32)) ∧
      (s.holder n = none → Answers (exec (.semaQuery f) s) (Tracks s [s.xRef f.d] 0 32)) ∧
      (let t := s.modCore fun c =>
          { c with wdog := if (s.readX f.a).toNat % 2 ^ 32 = 0 then none else some (s.tick + (s.readX f.a).toNat % 2 ^ 32) }
       Answers (exec (.wdog f) s)
          (Tracks t [t.xRef f.d] (BitVec.ofNat 512 (s.core.wdog.elim 0 fun due => due - s.tick)) 32)) ∧
      (exec (.fclk f) s = .next (s.modBank fun b => { b with tracked := b.tracked ++
          [⟨[s.xRef f.d], .fclk (match s.core.lastFrame with | some n => n + 1 < s.frameNo | none => false), 0, e.pc, e.rep, e.seq,
            .s⟩] })) ∧
      (s.core.spadSize < (s.readX f.b).toNat + 64 →
        exec (.qpost f) s = .next (s.trapAddr 0x30 (BitVec.ofNat 64 (max (s.readX f.b).toNat s.core.spadSize)))) ∧
      ((s.readX f.b).toNat + 64 ≤ s.core.spadSize → (s.readX f.b).toNat % 64 ≠ 0 →
        exec (.qpost f) s = .next (s.trapAddr 0x31 (BitVec.ofNat 64 (s.readX f.b).toNat))) ∧
      (272 ≤ q → (s.readX f.b).toNat + 64 ≤ s.core.spadSize → (s.readX f.b).toNat % 64 = 0 →
        ((run (s.readX f.b).toNat 64).find? s.core.spadBad.contains) = none →
        Answers (exec (.qpost f) s) fun t => ∃ v c, Tracks { s with choices := c } [s.xRef f.d] v 32 t) ∧
      (q < 272 → (s.readX f.b).toNat + 64 ≤ s.core.spadSize → (s.readX f.b).toNat % 64 = 0 →
        ((run (s.readX f.b).toNat 64).find? s.core.spadBad.contains) = none →
        let r := s.ringRecord q (f.sub.getLsbD 0) (s.core.spad.bytes (s.readX f.b).toNat 64)
        Answers (exec (.qpost f) s) fun t => ∃ asid va, t = r.2.modBank fun b => { b with tracked := b.tracked ++
          [⟨[r.2.xRef f.d], .qpost asid va r.1, 0, r.2.ctx.entry.pc, r.2.ctx.entry.rep, r.2.ctx.entry.seq, .s⟩] })) ∧
    (∀ (f : FmtGM) (s : State), s.holds f.g = true →
      let pa := s.readX f.a + 8 * f.off.signExtend 64
      let e := s.ctx.entry
      let access (k : GKind) (word : BitVec 64) : GAccess :=
        ⟨0, k, word.setWidth 32, pa, 8, (s.readX f.d).setWidth 128, 0,
          pairOf (physReg e.rotb f.d) (physReg e.rotb (f.d + 1)), e.pc, e.rep, e.seq, .ready pa.toNat 2, 0, 0, 0⟩
      (pa.toNat % 8 ≠ 0 → exec (.rbld f) s = .next (s.trapAtIssue 0x60 pa 0x5B 0) ∧
        exec (.rbst f) s = .next (s.trapAtIssue 0x60 pa 0x5C 0)) ∧
      (pa.toNat % 8 = 0 → 2 ^ 52 ≤ pa.toNat ∨ deviceAddr pa.toNat = false →
        exec (.rbld f) s = .next (s.trapAtIssue 0x61 pa 0x5B pa) ∧ exec (.rbst f) s = .next (s.trapAtIssue 0x61 pa 0x5C pa)) ∧
      (pa.toNat % 8 = 0 → pa.toNat < 2 ^ 52 → deviceAddr pa.toNat = true →
        exec (.rbld f) s = .next (s.startAccess s.core.cur (access .load (encode (.rbld f)))) ∧
        exec (.rbst f) s = .next (s.startAccess s.core.cur (access .store (encode (.rbst f))))))

/-- When it is ready and no enabled flag is raised, each floating operation of Tables 10.2 and 10.4 answers the next state:
sources read, flags raised, streams stepped, and its destination (register within the bound, or stream bytes) given the
rounded result of each element of each enabled lane. The flags that conversions of stream uses raise in an instruction that
raises none of its own are the reading of the model (log entry 100). (R148, R151, R152, R154, spec/10_vector_instructions.md) -/
def Obligations.VectorFloatResults : Prop :=
    ∀ (f : VOp) (s : State),
      let t := tyFloat f.ty
      let num := fun (v : VIn) x => v.num t x
      VWrites f [f.a, f.b] 4 (each2 f (fun v a b => v.rnd t (fAdd v.rm (num v a) (num v b)))) s (exec (.vadd f) s) ∧
      VWrites f [f.a, f.b] 4 (each2 f (fun v a b => v.rnd t (fAdd v.rm (num v a) (num v b).negate))) s (exec (.vsub f) s) ∧
      VWrites f [f.a, f.b] 4 (each2 f (fun v a b => v.rnd t (fMul (num v a) (num v b)))) s (exec (.vmul f) s) ∧
      VWrites f [f.a, f.b, f.c] 5 (each3 f (fun v a b c => v.rnd t (fFma v.rm (num v a) (num v b) (num v c)))) s (exec (.vfma f) s) ∧
      VWrites f [f.a, f.b, f.c] 5 (each3 f (fun v a b c => v.rnd t (fFma v.rm (num v a) (num v b) (num v c).negate))) s (exec (.vfms f) s) ∧
      VWrites f [f.a, f.b, f.c] 5 (each3 f (fun v a b c => v.rnd t (fFma v.rm (num v a).negate (num v b) (num v c)))) s (exec (.vfnma f) s) ∧
      VWrites f [f.a, f.b] 2 (each2 f (fun v a b => v.rnd t (fMinMax false (num v a) (num v b)))) s (exec (.vmin f) s) ∧
      VWrites f [f.a, f.b] 2 (each2 f (fun v a b => v.rnd t (fMinMax true (num v a) (num v b)))) s (exec (.vmax f) s) ∧
      VWrites f [f.a] 2 (each1 f (fun _ a => ⟨a % 2 ^ t.signBit, 0⟩)) s (exec (.vabs f) s) ∧
      VWrites f [f.a] 2 (each1 f (fun _ a => ⟨a ^^^ 2 ^ t.signBit, 0⟩)) s (exec (.vneg f) s) ∧
      VWrites f [f.a, f.b] 2 (each2 f (fun _ a b => ⟨t.signed (b.testBit t.signBit) (a % 2 ^ t.signBit), 0⟩)) s (exec (.vcpys f) s) ∧
      VWrites f [f.a, f.b] 16 (each2 f (fun v a b => fDiv t v.rm v.ftz (num v a) (num v b))) s (exec (.vdiv f) s) ∧
      VWrites f [f.a] 16 (each1 f (fun v a => fSqrt t v.rm v.ftz (num v a))) s (exec (.vsqrt f) s) ∧
      VWrites f [f.a] 24 (each1 f (fun v a => fRcp t v.rm v.ftz (num v a))) s (exec (.vrcp f) s) ∧
      VWrites f [f.a] 24 (each1 f (fun v a => fRsq t v.rm v.ftz (num v a))) s (exec (.vrsq f) s) ∧
      VWrites f [f.a] 24 (each1 f (fun v a => fExp2 t v.rm v.ftz (num v a))) s (exec (.vexp2 f) s) ∧
      VWrites f [f.a] 24 (each1 f (fun v a => fLog2 t v.rm v.ftz (num v a))) s (exec (.vlog2 f) s) ∧
      VWrites f [f.a] 24 (each1 f (fun v a => fExp t v.rm v.ftz (num v a))) s (exec (.vexp f) s) ∧
      VWrites f [f.a] 24 (each1 f (fun v a => fLn t v.rm v.ftz (num v a))) s (exec (.vln f) s) ∧
      VWrites f [f.a] 24 (each1 f (fun v a => fTanh t v.rm v.ftz (num v a))) s (exec (.vtanh f) s) ∧
      VWrites f [f.a] 24 (each1 f (fun v a => fErf t v.rm v.ftz (num v a))) s (exec (.verf f) s) ∧
      VWrites f [f.a] 24 (each1 f (fun v a => fTrig false t v.rm v.ftz (num v a))) s (exec (.vsin f) s) ∧
      VWrites f [f.a] 24 (each1 f (fun v a => fTrig true t v.rm v.ftz (num v a))) s (exec (.vcos f) s) ∧
      VWrites f [f.a, f.b] 24 (each2 f (fun v a b => fAtan2 t v.rm v.ftz (num v a) (num v b))) s (exec (.vatn2 f) s) ∧
      VWrites f [f.a, f.b] 24 (each2 f (fun v a b => fHyp t v.rm v.ftz (num v a) (num v b))) s (exec (.vhyp f) s) ∧
      VWrites f [f.a] 4 (each1 f (fun v a => v.rnd t (roundToInt v.rm (f.imm.getLsbD 0) (num v a)))) s (exec (.vrint f) s) ∧
      VWrites f [f.a] 2 (each1 f (fun _ a => ⟨classOf t a, 0⟩)) s (exec (.vclass f) s) ∧
      VWrites f [f.a] 2 (each1 f (fun v a => v.rnd t (relu f.imm (num v a)))) s (exec (.vrelu f) s) ∧
      VWrites f [f.a, f.b, f.c] 2 (each3 f (fun v a b c => v.rnd t ((fMinMax true (num v a) (num v b)).bind fun m => fMinMax false m (num v c)))) s (exec (.vclamp f) s) ∧
      VWrites f [f.a, f.b, f.c] 5 (each3 f (fun v a b c => v.rnd t ((fAdd v.rm (num v b) (num v a).negate).bind fun d => (fMul (num v c) d).bind fun p => fAdd v.rm (num v a) p))) s (exec (.vlerp f) s)

/-- When it is ready and no enabled flag is raised, each operation of Table 10.6 answers the next state in which its destination
is given the result of each element of each enabled lane; additions and subtractions take the saturation mode of IMM, shifts
the amount of IMM or of b. The flags that conversions of stream uses raise in an instruction that raises none of its own are
the reading of the model (log entry 100). (R148, R157, spec/10_vector_instructions.md) -/
def Obligations.VectorIntegerResults : Prop :=
    ∀ (f : VOp) (s : State),
      let w := tyWidth f.ty
      VWrites f [f.a, f.b] 2 (each2 f (fun _ a b => satMode w (f.imm.toNat % 4) (fun x y => x + y) a b)) s (exec (.viadd f) s) ∧
      VWrites f [f.a, f.b] 2 (each2 f (fun _ a b => satMode w (f.imm.toNat % 4) (fun x y => x - y) a b)) s (exec (.visub f) s) ∧
      VWrites f [f.a, f.b] 4 (each2 f (fun _ a b => ⟨a * b, 0⟩)) s (exec (.vimul f) s) ∧
      VWrites f [f.a, f.b] 4 (each2 f (fun _ a b => ⟨if f.imm.getLsbD 0 then a * b / 2 ^ w else wrapInt w (signedNat w a * signedNat w b / 2 ^ w), 0⟩)) s (exec (.vimulh f) s) ∧
      VWrites f [f.a, f.b] 2 (each2 f (fun _ a b => ⟨a &&& b, 0⟩)) s (exec (.vand f) s) ∧
      VWrites f [f.a, f.b] 2 (each2 f (fun _ a b => ⟨a ||| b, 0⟩)) s (exec (.vor f) s) ∧
      VWrites f [f.a, f.b] 2 (each2 f (fun _ a b => ⟨a ^^^ b, 0⟩)) s (exec (.vxor f) s) ∧
      VWrites f [f.a] 2 (each1 f (fun _ a => ⟨2 ^ w - 1 - a, 0⟩)) s (exec (.vnot f) s) ∧
      (f.imm.getLsbD 15 = true → VWrites f [f.a] 2 (each1 f (fun _ a => ⟨shlEl w a (f.imm.toNat % 32), 0⟩)) s (exec (.vshl f) s)) ∧
      (f.imm.getLsbD 15 = false → VWrites f [f.a, f.b] 2 (each2 f (fun _ a b => ⟨shlEl w a b, 0⟩)) s (exec (.vshl f) s)) ∧
      (f.imm.getLsbD 15 = true → VWrites f [f.a] 2 (each1 f (fun _ a => ⟨shrEl w a (f.imm.toNat % 32), 0⟩)) s (exec (.vshr f) s)) ∧
      (f.imm.getLsbD 15 = false → VWrites f [f.a, f.b] 2 (each2 f (fun _ a b => ⟨shrEl w a b, 0⟩)) s (exec (.vshr f) s)) ∧
      (f.imm.getLsbD 15 = true → VWrites f [f.a] 2 (each1 f (fun _ a => ⟨shaEl w a (f.imm.toNat % 32), 0⟩)) s (exec (.vsha f) s)) ∧
      (f.imm.getLsbD 15 = false → VWrites f [f.a, f.b] 2 (each2 f (fun _ a b => ⟨shaEl w a b, 0⟩)) s (exec (.vsha f) s)) ∧
      VWrites f [f.a, f.b] 2 (each2 f (fun _ a b => ⟨if signedNat w a ≤ signedNat w b then a else b, 0⟩)) s (exec (.vimin f) s) ∧
      VWrites f [f.a, f.b] 2 (each2 f (fun _ a b => ⟨if signedNat w a ≤ signedNat w b then b else a, 0⟩)) s (exec (.vimax f) s) ∧
      VWrites f [f.a, f.b] 2 (each2 f (fun _ a b => ⟨if a ≤ b then a else b, 0⟩)) s (exec (.viminu f) s) ∧
      VWrites f [f.a, f.b] 2 (each2 f (fun _ a b => ⟨if a ≤ b then b else a, 0⟩)) s (exec (.vimaxu f) s)

/-- When it is ready and no enabled flag is raised, each compare puts under way the mask register with the relation in each
enabled lane and its old bit elsewhere, and raises INV as Table 10.5 says; VSEL takes each enabled lane from a or b by mask C.
The flags that conversions of stream uses raise in an instruction that raises none of its own are the reading of the model
(log entry 100). (R135, R155, R156, spec/10_vector_instructions.md) -/
def Obligations.VectorCompareResults : Prop :=
    ∀ (f : VOp) (s : State),
      let compared (rel : VIn → BitVec 32 → BitVec 32 → Flagged Bool) (v : VIn) (_ : List Use) : VEffect :=
        let r := (List.range 128).map fun i => rel v (v.a.lane i) (v.b.lane i)
        let bits := BitVec.ofNat 128 (r.foldr (fun x acc => acc * 2 + x.val.toNat) 0)
        ⟨maskFlags v.mask (zipFlags v.srcFlags (r.map (·.fl))),
         fun s => s.landM (f.d.toNat % 8) (maskMerge v.mask (s.readM (f.d.toNat % 8)) bits) 2⟩
      VActs f [f.a, f.b] false false .none (compared fun v a b => ⟨fEq (v.num fp32 a.toNat) (v.num fp32 b.toNat), flagIf ((v.num fp32 a.toNat).isSig || (v.num fp32 b.toNat).isSig) fINV⟩) s (exec (.vcmpEq f) s) ∧
      VActs f [f.a, f.b] false false .none (compared fun v a b => ⟨!fEq (v.num fp32 a.toNat) (v.num fp32 b.toNat), flagIf ((v.num fp32 a.toNat).isSig || (v.num fp32 b.toNat).isSig) fINV⟩) s (exec (.vcmpNe f) s) ∧
      VActs f [f.a, f.b] false false .none (compared fun v a b => ⟨fLt (v.num fp32 a.toNat) (v.num fp32 b.toNat), flagIf ((v.num fp32 a.toNat).isNan || (v.num fp32 b.toNat).isNan) fINV⟩) s (exec (.vcmpLt f) s) ∧
      VActs f [f.a, f.b] false false .none (compared fun v a b => ⟨fLt (v.num fp32 a.toNat) (v.num fp32 b.toNat) || fEq (v.num fp32 a.toNat) (v.num fp32 b.toNat), flagIf ((v.num fp32 a.toNat).isNan || (v.num fp32 b.toNat).isNan) fINV⟩) s (exec (.vcmpLe f) s) ∧
      VActs f [f.a, f.b] false false .none (compared fun v a b => ⟨(v.num fp32 a.toNat).isNan || (v.num fp32 b.toNat).isNan, flagIf ((v.num fp32 a.toNat).isSig || (v.num fp32 b.toNat).isSig) fINV⟩) s (exec (.vcmpUn f) s) ∧
      VActs f [f.a, f.b] false false .none (compared fun v a b => ⟨!((v.num fp32 a.toNat).isNan || (v.num fp32 b.toNat).isNan), flagIf ((v.num fp32 a.toNat).isSig || (v.num fp32 b.toNat).isSig) fINV⟩) s (exec (.vcmpOd f) s) ∧
      VActs f [f.a, f.b] false false .none (compared fun _ a b => ⟨a == b, 0⟩) s (exec (.vicmpEq f) s) ∧
      VActs f [f.a, f.b] false false .none (compared fun _ a b => ⟨a.slt b, 0⟩) s (exec (.vicmpLt f) s) ∧
      VActs f [f.a, f.b] false false .none (compared fun _ a b => ⟨a.ult b, 0⟩) s (exec (.vicmpLtu f) s) ∧
      VWrites f [f.a, f.b] 2 (fun v i => ⟨if (s.readM (f.c.toNat % 8)).getLsbD i then v.a.lane i else v.b.lane i, 0⟩) s (exec (.vsel f) s)

/-- When it is ready and no enabled flag is raised, each conversion, pack, unpack, quantise, dequantise, block scale, phase and
turn operation answers the next state in which its destination is given the value that the operation makes of each enabled
lane. The flags that conversions of stream uses raise in an instruction that raises none of its own are the reading of the
model (log entry 100). That VDQT raises the flags of its rounding is so too (log entry 99), and which lanes a flag of VBSC
counts for is the choice of the model (log entry 132). (R158, R159, R160, R161, R162, R163, R176, R177,
spec/10_vector_instructions.md) -/
def Obligations.VectorConversionResults : Prop :=
    ∀ (f : VOp) (s : State),
      let conv := fun (v : VIn) i => convLow v.fmt v.rm v.ftz (f.imm.toNat % 16) (f.imm.toNat / 16 % 16) (v.a.lane i)
      VWrites f [f.a] 4 (conv) s (exec (.vcvtf f) s) ∧
      VWrites f [f.a] 4 (conv) s (exec (.vcvti f) s) ∧
      VWrites f [f.a] 4 (conv) s (exec (.vcvtif f) s) ∧
      VWrites f [f.a, f.b] 3 (fun v i =>
        let a := v.a.lane i
        let b := v.b.lane i
        ⟨if f.imm.getLsbD 0 then b.extractLsb' 16 8 ++ b.extractLsb' 0 8 ++ a.extractLsb' 16 8 ++ a.extractLsb' 0 8
          else b.extractLsb' 0 16 ++ a.extractLsb' 0 16, 0⟩) s (exec (.vpack f) s) ∧
      VWrites f [f.a] 3 (fun v i => ⟨unpack false f.imm (v.a.lane i), 0⟩) s (exec (.vunpkLo f) s) ∧
      VWrites f [f.a] 3 (fun v i => ⟨unpack true f.imm (v.a.lane i), 0⟩) s (exec (.vunpkHi f) s) ∧
      VWrites f [f.a, f.b] 8 (fun v i =>
        let q := quantInt (n8Of v.fmt) v.rm (v.num fp32 (v.a.lane i).toNat) (laneScale v f (v.b.lane i))
        ⟨lowWrite v.fmt 8 q.val, q.fl⟩) s (exec (.vqnt f) s) ∧
      VWrites f [f.a, f.b] 4 (fun v i =>
        let sc := laneScale v f (v.b.lane i)
        let q : Flagged Nat :=
          if sc.isNan then ⟨fp32.nan, fNBS⟩
          else ((n8Of v.fmt).decode (lowRead v.fmt 8 (v.a.lane i))).bind fun n => dequantVal fp32 v.ftz (intVal n) sc
        ⟨BitVec.ofNat 32 q.val, q.fl⟩) s (exec (.vdqt f) s) ∧
      VActs f [f.a] false false .none
        (fun v us =>
          let b := 2 ^ (f.imm.toNat % 8 + 2)
          let scale (k : Nat) := blockScale v.fmt (f.imm.getLsbD 3)
            (((List.range b).filter fun j => v.on (b * k + j)).map fun j => v.num fp32 (v.a.lane (b * k + j)).toNat)
          vWrite f v us 8 ((List.range 128).map fun i =>
            let q := ((List.range (128 / b)).map scale).getD (i / b) ⟨0, 0⟩
            ⟨BitVec.ofNat 32 q.val, if v.on i then q.fl else 0⟩) s.core.spad) s (exec (.vbsc f) s) ∧
      VWrites f [f.a] 4 (fun v i =>
        let n := ps8Value ((v.a.lane i).extractLsb' (8 * (f.imm.toNat % 4)) 8)
        ⟨BitVec.ofNat 32 (fp32.round .rne false (decide (n < 0)) n.natAbs (-6) false).val, 0⟩) s (exec (.vpsd f) s) ∧
      VWrites f [f.a] 4 (fun v i => ⟨(toT16 v.rm (v.num fp32 (v.a.lane i).toNat)).val.setWidth 32, (toT16 v.rm (v.num fp32 (v.a.lane i).toNat)).fl⟩) s (exec (.vturn f) s) ∧
      VWrites f [f.a] 24 (fun v i =>
        let cs := expandCs ((v.a.lane i).setWidth 16)
        let n := if f.imm.getLsbD 0 then cs.2 else cs.1
        ⟨if f.imm.getLsbD 1 then
            BitVec.ofNat 32 (fp32.round .rne false (decide (n.toInt < 0)) n.toInt.natAbs (-22) false).val
          else n.signExtend 32, 0⟩) s (exec (.vtcs f) s)

/-- When it is ready and no enabled flag is raised, each movement gives each enabled lane of its destination the source lane that
Table 10.10 names; VCOMP packs the selected lanes and writes every lane. The flags that conversions of stream uses raise in an
instruction that raises none of its own are the reading of the model (log entry 100). (R166, R167,
spec/10_vector_instructions.md) -/
def Obligations.VectorMovementResults : Prop :=
    ∀ (f : VOp) (s : State),
      let moved (g : VIn → Nat → BitVec 32) (v : VIn) (us : List Use) : VEffect :=
        vWrite f v us 3 ((List.range 128).map fun i => if v.on i then ⟨g v i, 0⟩ else ⟨0, 0⟩) s.core.spad
      VActs f [f.a, f.b] true false .none (moved fun v i => if (v.b.lane i).getLsbD 7 then 0 else v.a.lane ((v.b.lane i).toNat % 128)) s (exec (.vshuf f) s) ∧
      VActs f [f.a] true false .none (moved fun v _ => v.a.lane (f.imm.toNat % 128)) s (exec (.vbcst f) s) ∧
      VActs f [f.a] true false .none (moved fun v i => v.a.lane ((i + f.imm.toNat) % 128)) s (exec (.vlrot f) s) ∧
      VActs f [f.a, f.b] true false .none (moved fun v i => if i + f.imm.toNat % 128 < 128 then v.a.lane (i + f.imm.toNat % 128) else v.b.lane (i + f.imm.toNat % 128 - 128)) s (exec (.vslide f) s) ∧
      VActs f [f.a, f.b] true false .none (moved fun v i => if i % 2 = 0 then v.a.lane (i / 2 + 64 * (f.imm.toNat % 2)) else v.b.lane (i / 2 + 64 * (f.imm.toNat % 2))) s (exec (.vzip f) s) ∧
      VActs f [f.a, f.b] true false .none (moved fun v i => if i < 64 then v.a.lane (2 * i + f.imm.toNat % 2) else v.b.lane (2 * (i - 64) + f.imm.toNat % 2)) s (exec (.vuzp f) s) ∧
      VActs f [f.a] true false .none (moved fun v i => v.a.lane (127 - i)) s (exec (.vrev f) s) ∧
      VActs f [f.a] true true .none
        (fun v us => vWriteAll f v us 3
          ((List.range 128).map fun i => ⟨(((List.range 128).filter v.on).map v.a.lane).getD i 0, 0⟩) s.core.spad)
        s (exec (.vcomp f) s)

/-- When it is ready and no enabled flag is raised, each reduction combines the enabled elements of its source pairwise, floating
nodes rounded at each level and integer ones exact, and puts the result under way in lane 0, or lanes 0 and 1 for integers,
within 8 cycles; VPSUM writes every lane with its running sum. The flags that conversions of stream uses raise in an
instruction that raises none of its own are the reading of the model (log entry 100). What VRDOT makes of an INT32 sum outside
64 bits is the choice of the model (log entry 133). (R132, R133, R164, R165, spec/10_vector_instructions.md) -/
def Obligations.VectorReductionResults : Prop :=
    ∀ (f : VOp) (s : State),
      let reduced (fcomb : VIn → Nat → Nat → Flagged Nat) (icomb : Int → Int → Int) (fleaf : Nat → Nat) (ileaf : Int → Int)
          (v : VIn) (_ : List Use) : VEffect :=
        if f.ty.toNat ≤ 2 then
          let n := mapLeaves (fun x => let r := widen v (tyFloat f.ty) x; ⟨fleaf r.val, r.fl⟩) (leaves v f.ty v.a)
          reduceWrite f 8 v (n.2 ++ (tree (fcomb v) 9 n.1).2) (.inl (((tree (fcomb v) 9 n.1).1.map (·.val)).getD 0))
        else
          let n := mapLeaves (fun x => ⟨ileaf (intLeaf (tyWidth f.ty) x), 0⟩) (leaves v f.ty v.a)
          reduceWrite f 8 v [] (.inr (((tree (fun a b => ⟨icomb a b, 0⟩) 9 n.1).1.map (·.val)).getD 0))
      VActs f [f.a] false false .none (reduced (sumNode) (fun a b => a + b) (id) (id)) s (exec (.vrsum f) s) ∧
      VActs f [f.a] false false .none (reduced (fun v a b => v.rnd fp32 (fMinMax true (v.num fp32 a) (v.num fp32 b))) (max) (id) (id)) s (exec (.vrmax f) s) ∧
      VActs f [f.a] false false .none (reduced (fun v a b => v.rnd fp32 (fMinMax false (v.num fp32 a) (v.num fp32 b))) (min) (id) (id)) s (exec (.vrmin f) s) ∧
      VActs f [f.a] false false .none (reduced (fun v a b => v.rnd fp32 (fMinMax true (v.num fp32 a) (v.num fp32 b))) (max) (fun x => x % 2 ^ 31) (fun i => i.natAbs)) s (exec (.vramax f) s) ∧
      VActs f [f.a, f.b] false false .none
        (fun v _ =>
          let l := List.zipWith (fun (a b : Option (Node Nat)) =>
            match a, b with
            | some a, some b => some (Node.mk (a.val, b.val) a.lanes)
            | _, _ => none) (leaves v f.ty v.a) (leaves v f.ty v.b)
          if f.ty.toNat ≤ 2 then
            let n := dotLevel v (tyFloat f.ty) l
            reduceWrite f 8 v (n.2 ++ (tree (sumNode v) 8 n.1).2) (.inl (((tree (sumNode v) 8 n.1).1.map (·.val)).getD 0))
          else reduceWrite f 8 v [] (.inr ((l.filterMap fun o => o.map fun n =>
            intLeaf (tyWidth f.ty) n.val.1 * intLeaf (tyWidth f.ty) n.val.2).sum))) s (exec (.vrdot f) s) ∧
      VActs f [f.a] false true .none
        (fun v us => vWriteAll f v us 8
          (prefixSum v (if f.ty = 0 then sumNode v else fun a b => ⟨a + b, 0⟩) (List.range 128) none) s.core.spad)
        s (exec (.vpsum f) s)

/-- With a true guard VINS, VMVP, MAND, MOR, MXOR, MNOT and MPOPC answer the state with their result under way and nothing else
changed; VMVX and VEXT do when they are ready. The flags that conversions of stream uses raise in an instruction that raises
none of its own are the reading of the model (log entry 100). (R168, spec/10_vector_instructions.md) -/
def Obligations.ScalarAndMaskMoves : Prop :=
    ∀ (f : VOp) (s : State),
      (s.holds f.g = true →
        let k := f.imm.toNat % 128
        let m := s.readM (f.a.toNat % 8)
        let n := s.readM (f.b.toNat % 8)
        Answers (exec (.vins f) s) (Lands s ⟨.v, physReg s.ctx.entry.rotb f.d⟩
          (((s.readX (f.a.setWidth 6)).setWidth 32).setWidth 4096 <<< (32 * k)) (1#128 <<< k) 3) ∧
        Answers (exec (.vmvp f) s) (LandsP s (f.d.toNat % 16) (if f.imm.getLsbD 7 then m != 0 else m.getLsbD k) 3) ∧
        Answers (exec (.mand f) s) (Lands s ⟨.m, f.d.toNat % 8⟩ ((m &&& n).setWidth 4096) 0 1) ∧
        Answers (exec (.mor f) s) (Lands s ⟨.m, f.d.toNat % 8⟩ ((m ||| n).setWidth 4096) 0 1) ∧
        Answers (exec (.mxor f) s) (Lands s ⟨.m, f.d.toNat % 8⟩ ((m ^^^ n).setWidth 4096) 0 1) ∧
        Answers (exec (.mnot f) s) (Lands s ⟨.m, f.d.toNat % 8⟩ ((~~~m).setWidth 4096) 0 1) ∧
        Answers (exec (.mpopc f) s)
          (LandsX s f.d (BitVec.ofNat 64 ((List.range 128).countP fun i => m.getLsbD i)) 3)) ∧
      VWrites f [] 3 (fun _ _ => ⟨(s.readX (f.a.setWidth 6)).setWidth 32, 0⟩) s (exec (.vmvx f) s) ∧
      VActs f [f.a] true false .none
        (fun v _ => ⟨maskFlags v.mask v.srcFlags, fun t =>
          t.landX f.d (if f.imm.getLsbD 7 then (v.a.lane (f.imm.toNat % 128)).signExtend 64
            else (v.a.lane (f.imm.toNat % 128)).setWidth 64) 3⟩) s (exec (.vext f) s)

/-- When it is ready: VLD and VST copy lanes between registers and streams; VLDI, VLDB and VGTH put under way the words at their
addresses; VSTI, VSTC and VSCT store the enabled lanes at theirs, the address of each computed from x[a], IMM and for VGTH and
VSCT the index lanes. (R169, R170, R171, spec/10_vector_instructions.md) -/
def Obligations.ScratchpadAccessResults : Prop :=
    ∀ (f : VOp) (s : State),
      let base := fun (t : State) => (t.readX (f.a.setWidth 6) + 4 * f.imm.signExtend 64).toNat
      let mask := s.readM f.mask.toNat
      let lanes := onLanes mask
      let stored (at_ : State → VIn → List (Nat × BitVec 32)) (v : VIn) (_ : List Use) : VEffect :=
        ⟨maskFlags v.mask v.srcFlags, fun t => t.writeSpad (wordStores (at_ t v))⟩
      VWrites f [f.a] 6 (fun v i => ⟨v.a.lane i, 0⟩) s (exec (.vld f) s) ∧
      VWrites f [f.a] 1 (fun v i => ⟨v.a.lane i, 0⟩) s (exec (.vst f) s) ∧
      VActs f [] false false ⟨lanes.map fun i => ((base s + 4 * i : Nat) : Int), true, false, false⟩
        (fun v _ => ⟨[], fun t => t.landV f.d (loadLanes t.core.spad v.mask fun i => base t + 4 * i) v.mask 6⟩) s (exec (.vldi f) s) ∧
      VActs f [] false false ⟨if mask = 0 then [] else [((base s : Nat) : Int)], true, false, false⟩
        (fun v _ => ⟨[], fun t => t.landV f.d (loadLanes t.core.spad v.mask fun _ => base t) v.mask 6⟩) s (exec (.vldb f) s) ∧
      VActs f [f.b] false false ⟨lanes.map fun i => ((base s + 4 * i : Nat) : Int), false, true, false⟩
        (stored fun t v => (onLanes v.mask).map fun i => (base t + 4 * i, v.a.lane i)) s (exec (.vsti f) s) ∧
      VActs f [f.b] false false ⟨(List.range (maskCount mask)).map fun i => ((base s + 4 * i : Nat) : Int), false, true, false⟩
        (stored fun t v => (onLanes v.mask).zipIdx.map fun p => (base t + 4 * p.2, v.a.lane p.1)) s (exec (.vstc f) s) ∧
      (∀ b, (lanes = [] ∨ (s.readX (f.a.setWidth 6)).toNat % 4 = 0) → (∀ i ∈ lanes, (b.lane i).toNat < indexLimit f) →
        let direct := lanes.map fun i => (((s.readX (f.a.setWidth 6)).toNat + 4 * (b.lane i).toNat : Nat) : Int)
        (indexLanes f [f.b] s = some b →
          VActs f [f.b] false false ⟨direct, true, false, true⟩
            (fun v _ => ⟨maskFlags v.mask v.srcFlags, fun t =>
              t.landV f.d (loadLanes t.core.spad v.mask fun i => indexAddr f t v.a i) v.mask 8⟩) s (exec (.vgth f) s)) ∧
        (indexLanes f [f.b, f.c] s = some b →
          VActs f [f.b, f.c] false false ⟨direct, false, true, true⟩
            (stored fun t v => (onLanes v.mask).map fun i => (indexAddr f t v.a i, v.b.lane i)) s (exec (.vsct f) s)))

/-- With a true guard and a good descriptor: ZSET and ZRST track the descriptor read from the scratchpad, ZRST with its positions
cleared; ZSTEP tracks an advance of its stream by IMM uses; ZGET and ZCHK put the descriptor or its check under way; SFMT
gives FMT to entries two bundle issues on, keeps of the earlier values those a queued entry can still see, stands before the
value of a later bundle issue that issues in the same cycle, and puts its write under way. The bound of ZSET, ZRST and ZSTEP
is the model's choice (log entry 22). (R119, R172, R173, R174, R175, spec/10_vector_instructions.md) -/
def Obligations.StreamControlResults : Prop :=
    ∀ (f : VOp) (s : State), s.holds f.g = true →
      let n := (s.readX (f.a.setWidth 6)).toNat + 64 * f.imm.toNat
      let a := BitVec.ofNat 64 n
      let d := BitVec.ofNat 512 (s.core.spad.num n 64)
      let z := s.zreg f.d.toNat
      let free := s.core.frozenAccess [spanBytes [(n, 64)]] = none ∧ s.badByte [(n, 64)] = none
      (n % 64 = 0 → n + 64 ≤ s.core.spadSize → free → Desc.cause d = none →
        Answers (exec (.zset f) s) (Tracks s [⟨.z, f.d.toNat⟩] d streamBound)) ∧
      (n % 64 = 0 → n + 64 ≤ s.core.spadSize → free → Desc.cause (Desc.rewound d) = none →
        Answers (exec (.zrst f) s) (Tracks s [⟨.z, f.d.toNat⟩] (Desc.rewound d) streamBound)) ∧
      (n % 64 = 0 → s.core.spadSize < n + 64 →
        exec (.zset f) s = .next (s.trapAddr 0x30 a) ∧ exec (.zrst f) s = .next (s.trapAddr 0x30 a)) ∧
      (n % 64 ≠ 0 → exec (.zset f) s = .next (s.trapAddr 0x37 a) ∧ exec (.zrst f) s = .next (s.trapAddr 0x37 a)) ∧
      (Desc.cause z = none → f.imm.toNat ≤ Desc.left z →
        Answers (exec (.zstep f) s) (TracksKind s [⟨.z, f.d.toNat⟩] (.zstep f.imm.toNat) streamBound)) ∧
      (Desc.cause z = none → Desc.left z < f.imm.toNat → exec (.zstep f) s = .next (s.trapPlain 0x33)) ∧
      Answers (exec (.zget f) s) (Lands s ⟨.v, physReg s.ctx.entry.rotb f.d⟩ (BitVec.setWidth 4096 (s.zreg (f.a.toNat - 64)))
        (BitVec.allOnes 128) 3) ∧
      Answers (exec (.zchk f) s) (LandsX s f.d (zchkValue (s.zreg (f.a.toNat - 64))) 3) ∧
      (let v := fmtStored (f.imm.setWidth 4)
       let t := s.modBank fun b =>
         let oldest := b.queues.toList.flatten.foldl (fun k e => min k e.seq) s.ctx.entry.seq
         let later := b.inflight.any fun g => g.reg == ⟨.sr, 0x042⟩ && g.slot != .s && g.cyc == s.cycle && s.ctx.entry.seq < g.seq
         { b with fmtNext :=
             dropPast oldest (addFmt later (s.ctx.entry.seq + 2, v) (if b.fmtNext.isEmpty then [(0, b.fmt)] else b.fmtNext)) }
       Answers (exec (.sfmt f) s) (Lands t ⟨.sr, 0x042⟩ (v.setWidth 4096) 0 2))

/-- With a true guard, planned streams, no frozen or uncorrectable byte among the inputs and the block scales, and for FOL the
recorded mode and for GRD a gradient plane, each MPUSH answers the state with one more push in the pipeline, of its operation,
direction and number, the active plane noted, and GRD with two, the second one an issue time behind the first; MPCNT counts
it; planes, gradients, scratchpad and memory are unchanged. FOL in another mode than the recorded one traps 0x46, GRD without
a gradient plane 0x45. That a stream GIN is read with the first push of GRD is the choice of the model (log entry 105). (R188,
R203, R206, R207, spec/13_mesh_instructions.md) -/
def Obligations.MeshPushesEnter : Prop :=
    (∀ (f : FmtMP) (s : State) (us : List Use), s.holds f.g = true →
      planUses s.zreg s.core.spadSize
        (operandUse f.inp false ++ (if f.ofmt == 1 then [] else operandUse f.out true)) = .ok us →
      s.core.frozenAccess (us.map fun u => spanBytes (u.readSpans fun _ => true)) = none →
      s.badByte (us.flatMap fun u => u.readSpans fun _ => true) = none →
      let pushed (op : Nat) (t : State) : Prop := ∃ p : Push,
        t.core.mesh.pipe = s.core.mesh.pipe ++ [p] ∧ p.op = op ∧ p.rev = f.rev ∧ p.tag = s.core.mesh.active ∧
        p.pnum = s.core.mesh.mpcnt ∧ p.age = 0 ∧ p.cyc = s.cycle ∧ p.wait = 0 ∧ p.half = false ∧
        t.core.mesh.mpcnt = s.core.mesh.mpcnt + 1 ∧ t.core.mesh.planeA = s.core.mesh.planeA ∧
        t.core.mesh.planeB = s.core.mesh.planeB ∧ t.core.mesh.grad = s.core.mesh.grad ∧
        t.core.mesh.unit = s.core.mesh.unit ∧ t.core.spad = s.core.spad ∧ t.bank.x = s.bank.x ∧ t.bank.v = s.bank.v ∧
        t.hbm = s.hbm
      Answers (exec (.mpushRot f) s) (pushed 0) ∧ Answers (exec (.mpushDrv f) s) (pushed 1) ∧
      Answers (exec (.mpushCxg f) s) (pushed 2) ∧ (s.core.mesh.cxm = s.core.mesh.mode → Answers (exec (.mpushFol f) s) (pushed 3)) ∧
      Answers (exec (.mpushSwp f) s) (pushed 4) ∧ Answers (exec (.mpushPas f) s) (pushed 5) ∧
      (s.core.mesh.cxm ≠ s.core.mesh.mode → exec (.mpushFol f) s =
        .next (s.trapAtIssue 0x46 0 ((bit s.core.mesh.cxm).setWidth 64) ((bit s.core.mesh.mode).setWidth 64)))) ∧
    (∀ (f : FmtGR) (s : State) (us : List Use), s.holds f.g = true →
      planUses s.zreg s.core.spadSize
        (operandUse f.inp false ++ operandUse f.gin false ++ (if f.ofmt == 1 then [] else operandUse f.out true) ++
          operandUse f.gout true) = .ok us →
      s.core.frozenAccess (us.map fun u => spanBytes (u.readSpans fun _ => true)) = none →
      s.badByte (us.flatMap fun u => u.readSpans fun _ => true) = none →
      (s.core.mesh.gp = true → Answers (exec (.mpushGrd f) s) fun t => ∃ p q : Push,
        t.core.mesh.pipe = s.core.mesh.pipe ++ [p, q] ∧ (∀ r ∈ [p, q], r.op = 6 ∧ r.rev = f.rev ∧ r.tag = s.core.mesh.active ∧
          r.pnum = s.core.mesh.mpcnt ∧ r.age = 0 ∧ r.cyc = s.cycle) ∧ p.half = false ∧ p.wait = 0 ∧ q.half = true ∧
        q.wait = s.core.mesh.pushCycles ∧ t.core.mesh.mpcnt = s.core.mesh.mpcnt + 1 ∧ t.core.mesh.grad = s.core.mesh.grad ∧
        t.core.mesh.planeA = s.core.mesh.planeA ∧ t.core.mesh.planeB = s.core.mesh.planeB ∧ t.core.mesh.unit = s.core.mesh.unit ∧
        t.core.spad = s.core.spad ∧ t.bank.x = s.bank.x ∧ t.bank.v = s.bank.v ∧ t.hbm = s.hbm) ∧
      (s.core.mesh.gp = false → exec (.mpushGrd f) s = .next (s.trapAtIssue 0x45 0 6 0)))

/-- With a true guard, an ordered operation whose scratchpad range is inside and aligned joins the plane unit's queue with its
operands and the cycles of its bound, and nothing else changes; a range of some bytes that is not all inside traps 0x30, a
misaligned address 0x43, MGSV without a gradient plane 0x45. From when the bound counts is the reading of the model (log entry
106); the length of an image and the order of two causes too (log entries 150, 151). (R208, R210, R211, R212, R213, R214,
R215, R216, R217, R219, R221, spec/13_mesh_instructions.md) -/
def Obligations.PlaneOperationsQueue : Prop :=
    let add (k : PlaneKind) (s : State) : State :=
      s.modMesh fun m =>
        { m with unit := m.unit ++ [⟨k, s.core.cur, s.ctx.entry.pc, s.ctx.entry.rep, s.cycle, 0, k.bound m - 1⟩] }
    let inside (s : State) (addr len : Nat) : Prop := len = 0 ∨ addr + len ≤ s.core.spadSize
    let turned (s : State) (op addr len align : Nat) (o : Out) : Prop :=
      (¬ inside s addr len → o = .next (s.trapAddr 0x30 (BitVec.ofNat 64 addr))) ∧
      (inside s addr len → addr % align ≠ 0 → o = .next (s.trapAtIssue 0x43 (BitVec.ofNat 64 addr) (BitVec.ofNat 64 op) 0))
    let queues (s : State) (op addr len align : Nat) (k : PlaneKind) (o : Out) : Prop :=
      turned s op addr len align o ∧ (inside s addr len → addr % align = 0 → o = .next (add k s))
    (∀ (f : FmtMPL) (s : State), s.holds f.g = true →
      queues s 7 f.addr.toNat (128 * (f.nm1.toNat + 1)) 128 (.mlda f.addr.toNat f.k0.toNat f.nm1.toNat) (exec (.mlda f) s) ∧
      queues s 8 f.addr.toNat (512 * (f.nm1.toNat + 1)) 64 (.mldp f.addr.toNat f.k0.toNat f.nm1.toNat) (exec (.mldp f) s) ∧
      (s.core.mesh.gp = true → queues s 13 f.addr.toNat (256 * (f.nm1.toNat + 1)) 64
        (.mgsv f.addr.toNat f.k0.toNat f.nm1.toNat f.clr) (exec (.mgsv f) s)) ∧
      (s.core.mesh.gp = false → turned s 13 f.addr.toNat (256 * (f.nm1.toNat + 1)) 64 (exec (.mgsv f) s)) ∧
      (s.core.mesh.gp = false → f.addr.toNat + 256 * (f.nm1.toNat + 1) ≤ s.core.spadSize → f.addr.toNat % 64 = 0 →
        exec (.mgsv f) s = .next (s.trapAtIssue 0x45 0 13 0))) ∧
    (∀ (f : FmtLS) (s : State), s.holds f.g = true →
      queues s 9 f.addr.toNat (4 * f.count.toNat) 4 (.mpatch f.addr.toNat f.count.toNat) (exec (.mpatch f) s) ∧
      queues s 16 f.addr.toNat (4 * f.count.toNat) 4 (.mdix f.addr.toNat f.count.toNat) (exec (.mdix f) s) ∧
      queues s 17 f.addr.toNat (4 * f.count.toNat) 4 (.mbits f.addr.toNat f.count.toNat) (exec (.mbits f) s)) ∧
    (∀ (f : FmtAD) (s : State), s.holds f.g = true →
      queues s 11 f.addr.toNat s.core.mesh.imageLen 64 (.msave f.addr.toNat) (exec (.msave f) s) ∧
      queues s 12 f.addr.toNat s.core.mesh.imageLen 64 (.mrest f.addr.toNat) (exec (.mrest f) s) ∧
      queues s 14 f.addr.toNat 132 4 (.mscli f.addr.toNat) (exec (.mscli f) s) ∧
      queues s 15 f.addr.toNat 132 4 (.msclo f.addr.toNat) (exec (.msclo f) s)) ∧
    (∀ (f : FmtMP) (s : State), s.holds f.g = true → exec (.mswap f) s = .next (add .mswap s)) ∧
    (∀ (f : FmtNT) (s : State), s.holds f.g = true → exec (.mnrm f) s = .next (add (.mnrm (bit f.dvte ++ f.tol)) s)) ∧
    (∀ (f : FmtFL) (s : State), s.holds f.g = true →
      exec (.mrst f) s = .next (add (.mrst (f.fl.getLsbD 0) (f.fl.getLsbD 1)) s) ∧
      exec (.mfmt f) s = .next (add (.mfmt (f.fl.getLsbD 0) (f.fl.getLsbD 1)) s) ∧
      exec (.mclr f) s =
        .next (add (.mclr (f.fl.getLsbD 0) (f.fl.getLsbD 1) (f.fl.getLsbD 2) (f.fl.getLsbD 3)) s))

/-- With a true guard MSTAT is tracked, and MDRN leaves its queue once the mesh is done and else stays; MDRN_COMPLETE lets a
waiting MDRN leave; MPUSH_LAND takes the oldest push that may land out of the pipeline and writes its output, NaN in every
lane of a bad push: the FP32 images of its lanes to a v register of its bank, or to the bytes of a stream the lanes converted
to its element format under the block scales that the push has read, with OVF where a conversion overflows; a frozen watermark
on an output byte is a deferred 0x50 and lands nothing; PLANE_UNIT_OPERATION runs the pieces of the unit's oldest operation
that are left, up to one that a watermark holds; for MSWAP and MNRM it says the mesh that results. An event that may not act
changes nothing. The cycle in which a push lands (log entry 81), the block scales read at issue (log entry 103), the cycle of
MSTAT (log entry 123) and the pieces of MSAVE and MREST (log entry 129) are the reading of the model. (R178, R187, R188, R206,
R208, R218, R220, R224, R225, spec/13_mesh_instructions.md) -/
def Obligations.MeshStatusAndDrain : Prop :=
    (∀ (f : FmtFL) (s : State), s.holds f.g = true →
      exec (.mstat f) s = .next (s.modBank fun b => { b with tracked := b.tracked ++
        [⟨[s.xRef f.d], .mstat (f.fl.getLsbD 0) s.cycle, 0, s.ctx.entry.pc, s.ctx.entry.rep, s.ctx.entry.seq, .m⟩] })) ∧
    (∀ (f : FmtMP) (s : State), s.holds f.g = true →
      (s.core.mesh.done = true → exec (.mdrn f) s = .next s) ∧
      (s.core.mesh.done = false → exec (.mdrn f) s = .next s.putBack)) ∧
    (∀ (s : State) (e : Entry) (q : List Entry) (b : MBody), s.bank.queues[3]? = some (e :: q) → e.op = some (.m 0x16 b) →
      s.core.mesh.done = true → s.core.mesh.frz = false →
      exec .mdrnComplete s = .next (s.modBank fun b => { b with queues := vset b.queues 3 q })) ∧
    (∀ (s : State), s.core.mesh.done = false ∨ s.core.mesh.frz = true → exec .mdrnComplete s = .next s) ∧
    (∀ (s : State) (p : Push) (ps : List Push), s.core.mesh.pipe = p :: ps → landReady s = true →
      let gone := s.modMesh fun m => { m with pipe := ps }
      let lanes := if p.bad then ofLanes (List.replicate 128 (BitVec.ofNat 32 s.core.mesh.fmt.nan)) else p.lanes
      (p.out = .none → exec .mpushLand s = .next gone) ∧
      (∀ n, p.out = .reg n → exec .mpushLand s = .next (gone.modBankOf p.bankB fun b =>
        b.writeReg ⟨.v, n⟩ (ofLanes ((lanesOf lanes).map fun l => BitVec.ofNat 32 (s.core.mesh.image l.toNat)))
          (BitVec.allOnes 128))) ∧
      (∀ d, p.out = .stream d →
        let m := s.core.mesh
        let u := outUse d
        let conv : List (Flagged Nat) := (lanesOf lanes).zipIdx.map fun q =>
          if (streamFmt u.efmt p.fmt).isNone then ⟨m.image q.1.toNat, 0⟩
          else u.convScaled (p.scales[q.2]?.map (scaleVal u.sfp false)) p.fmt (.float m.fmt) .rne q.1.toNat
        (s.core.frozenAccess [p.out.bytes] = none → exec .mpushLand s =
          .next ((gone.modCore fun c =>
            { c with spad := writeMasked c.spad (u.stores (fun _ => true) (conv.map (·.val))) }).modMesh fun m =>
              m.stick (if joinFlags (conv.map (·.fl)) &&& fOVF != 0 then 8 else 0))) ∧
        (∀ a n, s.core.frozenAccess [p.out.bytes] = some (a, n) → exec .mpushLand s =
          .next (pushTrap p 0x50 (BitVec.ofNat 64 a) (s.core.frozenRecord n).1 (s.core.frozenRecord n).2 gone)))) ∧
    (∀ (s : State), landReady s = false → exec .mpushLand s = .next s) ∧
    (∀ (s : State) (o : PlaneOp) (os : List PlaneOp), s.core.mesh.unit = o :: os → unitReady s = true →
      let r := runItems o o.done ((unitItems o s.core.mesh).drop o.done) s
      exec .planeUnitOperation s = .next (r.2.modMesh fun m =>
        { m with unit := match r.1 with | none => os | some k => { o with done := k } :: os }) ∧
      (o.kind = .mswap → o.done = 0 → exec .planeUnitOperation s =
        .next (s.modMesh fun m => { m with active := !m.active, unit := os })) ∧
      (∀ v, o.kind = .mnrm v → o.done = 0 → exec .planeUnitOperation s =
        .next (s.modMesh fun m => { m with ntol := v, unit := os }))) ∧
    (∀ (s : State), unitReady s = false → exec .planeUnitOperation s = .next s)

/-- With a true guard, a queued operation whose checks pass enters its channel as the copy that they plan; one whose checks trap
traps with their cause; and entering gives the copy the next transfer ID, makes it current in a channel that holds no copy and
is not frozen, queues it behind others, and leaves every other channel alone. (R231, R252, R254, spec/17_copy_instructions.md) -/
def Obligations.CopiesEnterTheirChannel : Prop :=
    let enters (s : State) (ch : BitVec 3) (op : Nat) (b : CBody) (o : Out) : Prop :=
      (∀ c t, (planOf op b).run.run s = (.ok c, t) → o = .next (t.takeCopy ch.toNat c)) ∧
      (∀ cause addr d0 d1 t, (planOf op b).run.run s = (.error (.trap cause addr d0 d1), t) →
        o = .next (t.trapAtIssue cause addr d0 d1))
    (∀ (f : FmtT) (s : State), s.holds f.g = true →
      enters s f.ch 0x00 (.t f) (exec (.cpy f) s) ∧
      enters s f.ch 0x01 (.t f) (exec (.cst f) s) ∧
      enters s f.ch 0x02 (.t f) (exec (.cstz f) s) ∧
      enters s f.ch 0x06 (.t f) (exec (.cfil f) s) ∧
      enters s f.ch 0x07 (.t f) (exec (.cpyt f) s) ∧
      enters s f.ch 0x13 (.t f) (exec (.czip f) s) ∧
      enters s f.ch 0x14 (.t f) (exec (.cprf f) s) ∧
      enters s f.ch 0x15 (.t f) (exec (.cwb f) s) ∧
      enters s f.ch 0x16 (.t f) (exec (.cinv f) s) ∧
      enters s f.ch 0x1A (.t f) (exec (.cldm f) s) ∧
      enters s f.ch 0x1D (.t f) (exec (.cdup f) s) ∧
      enters s f.ch 0x1E (.t f) (exec (.cmsk f) s) ∧
      enters s f.ch 0x1F (.t f) (exec (.crpl f) s)) ∧
    (∀ (f : FmtL) (s : State), s.holds f.g = true →
      enters s f.ch 0x03 (.l f) (exec (.cll f) s)) ∧
    (∀ (f : FmtR) (s : State), s.holds f.g = true →
      enters s f.ch 0x04 (.r f) (exec (.cxr f) s) ∧
      enters s f.ch 0x05 (.r f) (exec (.cxw f) s)) ∧
    (∀ (f : FmtQ) (s : State), s.holds f.g = true →
      enters s f.ch 0x09 (.q f) (exec (.gath f) s) ∧
      enters s f.ch 0x0A (.q f) (exec (.scat f) s)) ∧
    (∀ (f : FmtKC) (s : State), s.holds f.g = true →
      enters s f.ch 0x12 (.kc f) (exec (.cscan f) s)) ∧
    (∀ (f : FmtKW) (s : State), s.holds f.g = true →
      enters s f.ch 0x17 (.kw f) (exec (.cwms f) s)) ∧
    (∀ (f : FmtKM) (s : State), s.holds f.g = true →
      enters s f.ch 0x18 (.km f) (exec (.cfnc f) s)) ∧
    (∀ (f : FmtKG) (s : State), s.holds f.g = true →
      enters s f.ch 0x19 (.kg f) (exec (.csig f) s)) ∧
    (∀ (s : State) (n : Nat) (c : Copy), n < 8 →
      let ch := vget s.core.chans n Channel.reset
      let h := vget (s.takeCopy n c).core.chans n Channel.reset
      let named := { c with num := s.core.nextId, tid := ch.tid + 1 }
      h.tid = ch.tid + 1 ∧ h.tcp = ch.tcp ∧
      (ch.cur.all Copy.ghost = true → ch.wm.frz = false → h.cur = some named ∧ h.queue = ch.queue) ∧
      (ch.cur.all Copy.ghost = false ∨ ch.wm.frz = true → h.cur = ch.cur ∧ h.queue = ch.queue ++ [named]) ∧
      (∀ k, k ≠ n → vget (s.takeCopy n c).core.chans k Channel.reset = vget s.core.chans k Channel.reset) ∧
      (s.takeCopy n c).core.spad = s.core.spad ∧ (s.takeCopy n c).hbm = s.hbm)

/-- With a true guard: WBND whose checks pass binds the window with the fields of its block, and for a tensor flow the channel
takes the fetch of its rows; WADV whose checks pass moves the window on by K rows, with K = 0 by none; one whose checks trap
traps with their cause; WREL of a bound window makes it inactive, and of no window traps 0x54. (R242, R268, R269,
spec/17_copy_instructions.md) -/
def Obligations.WindowsBindAndAdvance : Prop :=
    ∀ (f : FmtW) (s : State), s.holds f.g = true →
      let w := vget s.core.wins f.w.toNat Window.reset
      (w.wm.act = true → exec (.wrel f) s =
        .next (s.modCore fun c => c.modWin f.w.toNat fun w => { w with wm := { w.wm with act := false, ring := false } })) ∧
      (w.wm.act = false → exec (.wrel f) s = .next (s.trapAtIssue 0x54 (f.w.setWidth 64) 0x0D 0)) ∧
      (∀ d t, f.k.toNat = 0 → (planAdvance f).run.run s = (.ok d, t) → exec (.wadv f) s = .next t) ∧
      (∀ cause addr d0 d1 t, (planAdvance f).run.run s = (.error (.trap cause addr d0 d1), t) →
        exec (.wadv f) s = .next (t.trapAtIssue cause addr d0 d1)) ∧
      (∀ cause addr d0 d1 t, (planBind f).run.run s = (.error (.trap cause addr d0 d1), t) →
        exec (.wbnd f) s = .next (t.trapAtIssue cause addr d0 d1)) ∧
      (∀ d t, f.k.toNat ≠ 0 → (planAdvance f).run.run s = (.ok d, t) →
        let k := f.k.toNat
        let w := vget t.core.wins f.w.toNat Window.reset
        let moved (w : Window) : Window := { w with b := w.b + BitVec.ofNat 22 k, fetchable := w.fetchable + k }
        (w.flow ≠ 1 → exec (.wadv f) s = .next ((t.modCore fun c => c.modWin f.w.toNat moved).grant f.w k)) ∧
        (w.flow = 1 →
          let u := t.takeCopy f.ch.toNat (fetchCopy (.c 0x0C (.w f)) d t.bank.asid f.w w.row0.toNat w.fetchable k)
          exec (.wadv f) s = .next ((u.modCore fun c => c.modWin f.w.toNat fun w =>
            { moved w with wm := { w.wm with tid := (vget u.core.chans f.ch.toNat Channel.reset).tid } }).grant f.w k))) ∧
      (∀ b d t, (planBind f).run.run s = (.ok (b, d), t) →
        let n := bitsOf b 40 8 + 1
        let bound (tid : BitVec 32) (u : State) : State := (u.modCore fun c => c.modWin f.w.toNat fun _ =>
          { w0 := (BitVec.ofNat 64 b &&& ~~~(7#64 <<< 51)) ||| (f.ch.setWidth 64 <<< 51), b := 0,
            ident := BitVec.ofNat 384 (b / 2 ^ 128), wm := ⟨tid, true, false, true, false, 0⟩, fetchable := n, part := 0,
            row0 := BitVec.ofNat 32 (bitsOf b 96 32), tensor := BitVec.ofNat 12 (bitsOf b 64 12) }).grant f.w n
        (bitsOf b 48 3 ≠ 1 → exec (.wbnd f) s = .next (bound 0 t)) ∧
        (bitsOf b 48 3 = 1 →
          let u := t.takeCopy f.ch.toNat (fetchCopy (.c 0x0B (.w f)) d t.bank.asid f.w (bitsOf b 96 32) 0 n)
          exec (.wbnd f) s = .next (bound (vget u.core.chans f.ch.toNat Channel.reset).tid u)))

/-- With a true guard: GQIN appends to a gather queue of fewer than 64 entries and else traps 0x56; CSCH whose schedule reads well
replaces the schedule and clears CSTAGE; CSTEP with no waiting cause adds to CSTAGE and else takes the cause; CABT of a
running copy whose landing write is in flight marks it as ending, and else drops the current copy's requests and ends it: TCP
takes its ID and the next queued copy begins; CRSM of a frozen or aborted channel restarts its copy, with a new source where
one is named and passes its checks, and of any other traps 0x57; CPRI sets the priority; CSTS writes the state, the six copy
words and the watermark of the channel as they stood before the cycle to the scratchpad, and no other byte. (R244, R245, R248,
R267, R270, R271, R278, spec/17_copy_instructions.md) -/
def Obligations.ChannelControlActs : Prop :=
    (∀ (f : FmtGQ) (s : State), s.holds f.g = true →
      (s.core.gq.length < 64 →
        exec (.gqin f) s = .next (s.modCore fun c => { c with gq := c.gq ++ [(s.readX f.xa).setWidth 32] })) ∧
      (64 ≤ s.core.gq.length →
        exec (.gqin f) s = .next (s.trapAtIssue 0x56 (BitVec.ofNat 64 s.core.gq.length) 0x08 0))) ∧
    (∀ (f : FmtKS) (s : State), s.holds f.g = true → 
      (f.spa.toNat % 16 = 0 → ∀ l t, (readSchedule f.spa.toNat 1024 0 0 []).run.run s = (.ok l, t) →
        exec (.csch f) s = .next (t.modCore fun c => { c with sched := l, cstage := 0 })) ∧
      (f.spa.toNat % 16 ≠ 0 → exec (.csch f) s = .next (s.trapAtIssue 0x55 (BitVec.ofNat 64 f.spa.toNat) 0 0))) ∧
    (∀ (f : FmtKN) (s : State), s.holds f.g = true →
      (takeSchedCause s = none → exec (.cstep f) s = .next (s.modCore fun c => { c with cstage := c.cstage + f.n.setWidth 32 })) ∧
      (∀ r t, takeSchedCause s = some (r, t) → exec (.cstep f) s =
        .next (t.putBack.takeTrap { r with pc := t.ctx.entry.pc, rep := t.ctx.entry.rep, slots := slotMask t.ctx.slot }))) ∧
    (∀ (f : FmtKZ) (s : State), s.holds f.g = true →
      let ch := vget s.core.chans f.ch.toNat Channel.reset
      let t := s.dropWaiter (.copy s.coreNo f.ch)
      (ch.cur = none → exec (.cabt f) s = .next (t.modCore fun c => c.abortChan f.ch.toNat)) ∧
      (∀ c, ch.cur = some c →
        let flying := ch.runs && t.storing (.copy s.coreNo c.num)
        (flying = false → exec (.cabt f) s = .next ((t.dropAsker (.copy s.coreNo c.num)).modCore fun k => k.abortChan f.ch.toNat)) ∧
        (flying = true → exec (.cabt f) s = .next ((t.dropReads (.copy s.coreNo c.num)).modCore fun k => k.modChan f.ch.toNat fun h =>
          { h with state := 1, cur := h.cur.map fun c => { c with ending := true } })))) ∧
    (∀ (k : Core) (n : Nat), n < 8 →
      let ch := vget k.chans n Channel.reset
      let h := vget (k.abortChan n).chans n Channel.reset
      ch.cur.all Copy.ghost = false → h.tcp = ch.wm.tid ∧ h.tid = ch.tid ∧
        (ch.queue = [] → h.cur = none ∧ h.queue = [] ∧ h.wm.act = false ∧ h.state = 0) ∧
        (∀ c q, ch.queue = c :: q → h.cur = some c ∧ h.queue = q ∧ h.wm = c.startWm ∧ h.state = 1)) ∧
    (∀ (f : FmtKR) (s : State), s.holds f.g = true →
      let st := (vget s.core.chansSeen f.ch.toNat Channel.reset).state
      let restarted (d : Option TDesc) (t : State) : State :=
        let u := (vget t.core.chans f.ch.toNat Channel.reset).cur.elim t fun c => t.dropReads (.copy t.coreNo c.num)
        (u.modCore fun c => (c.syncFetch f.ch.toNat false).modChan f.ch.toNat fun ch =>
          ch.restart fun k => d.elim k fun d => { k with args := { k.args with desc := d }, next := none }).dropWaiter (.copy t.coreNo f.ch)
      (f.new = false → st = 3 ∨ st = 4 → exec (.crsm f) s = .next (restarted none s)) ∧
      (f.new = true → ∀ d t, (planResume f).run.run s = (.ok d, t) → exec (.crsm f) s = .next (restarted d t)) ∧
      (st ≠ 3 → st ≠ 4 → exec (.crsm f) s = .next (s.trapAtIssue 0x57 (BitVec.ofNat 64 f.ch.toNat) 0x11 0))) ∧
    (∀ (f : FmtKP) (s : State), s.holds f.g = true →
      exec (.cpri f) s = .next (s.modCore fun c => c.modChan f.ch.toNat fun ch => { ch with prio := f.p })) ∧
    (∀ (f : FmtKS) (s : State), s.holds f.g = true →
      let a := f.spa.toNat
      let ch := vget s.core.chansSeen f.ch.toNat Channel.reset
      let word (k : Nat) : BitVec 64 := ch.cur.elim 0 fun c => Copy.word c k
      (s.core.spadSize < a + 64 → exec (.csts f) s = .next (s.trapAtIssue 0x30 (BitVec.ofNat 64 (max a s.core.spadSize)) 0x1B 0)) ∧
      (a + 64 ≤ s.core.spadSize → a % 8 ≠ 0 → exec (.csts f) s = .next (s.trapAtIssue 0x31 (BitVec.ofNat 64 a) 0x1B 0)) ∧
      (a + 64 ≤ s.core.spadSize → a % 8 = 0 → s.core.frozenAccess [(List.range 64).map (a + ·)] = none → s.core.spad.wf = true →
        Answers (exec (.csts f) s) fun t =>
          t = s.writeSpad (wholeBytes a
            ([ch.chs, word 0, word 1, word 2, word 3, word 4, word 5, ch.wm.word].flatMap fun w => leBytes 8 w.toNat)) ∧
          t.core.spad.num a 8 = ch.chs.toNat ∧ (∀ k < 6, t.core.spad.num (a + 8 + 8 * k) 8 = (word k).toNat) ∧
          t.core.spad.num (a + 56) 8 = ch.wm.word.toNat ∧
          (∀ b, b < a ∨ a + 64 ≤ b → t.core.spad.read b = s.core.spad.read b) ∧
          t.core.chans = s.core.chans ∧ t.bank = s.bank))

/-- A ready idle entry leaves its queue; a ready sticky entry runs its remembered operation (shown for ADD); a legal bundle that
dispatch may take, after the end of a pass where one is due, is dispatched; the first result of a register in flight lands; a
tracked value lands; an unblocked load or store of a line that the home slice holds, and that has not joined the line's queue,
performs; a due single step traps 0x17 before the next bundle. (R23, R24, R29, R31, R33, R34, R74, R328,
spec/03_bundle_encoding.md) -/
def Obligations.SequencerEventsAct : Prop :=
    (∀ (s : State) (slot : Slot) (e : Entry) (q : List Entry), s.bank.queue slot = e :: q → slotReady s slot = true →
      (e.op = none → exec (.idleEntry slot) s = .next (s.modBank fun b => b.setQueue slot q)) ∧
      (e.sticky = true → ∀ f : FmtRR, e.op = some (Instr.add f).view →
        let t := (s.modBank fun b => b.setQueue slot q).seat slot e
        t.holds f.g = true → Answers (exec (.stickyReissue slot) s) (LandsX t f.d (t.readX f.a + t.readX f.b) 1))) ∧
    (∀ (s : State), mayDispatch s = true →
      let t := passEndIfDue s
      mayDispatch t = true → illegalCause t.core t.bank = none → bodyBroken t.core t.bank = false →
        exec .bundleDispatch s = .next (dispatchOne t)) ∧
    (∀ (s : State) (k : Nat) (f : InFlight), s.bank.inflight[k]? = some f →
      (∀ g ∈ s.bank.inflight.take k, g.reg ≠ f.reg) →
      exec (.resultLand k) s =
        .next ((s.modBank fun b => { b with inflight := b.inflight.eraseIdx k }).modCore fun c => c.landResult f)) ∧
    (∀ (s : State) (k : Nat) (t : Tracked) (v : BitVec 512), s.bank.tracked[k]? = some t → t.kind = .value v →
      exec (.trackedResultLand k) s =
        .next (s.modBank fun b => landTracked { b with tracked := b.tracked.eraseIdx k } t)) ∧
    (∀ (s : State) (k : Nat) (a : GAccess) (pa : Nat) (x : SliceLine), a.phase = .ready pa 0 → s.bank.blocked a = false →
      devOf pa = s.devId → rangeOf (localOf pa) = .hbm → s.sliceLine (lineOf pa) = some x →
      (∀ b, s.request (.home b) (s.askerOf s.core.cur a) (lineOf pa) = none) →
      (∀ t, s.bank.tracked[k]? = some t → t.kind = .access a → a.kind = .load → x.poison = false →
        exec (.trackedResultLand k) s = .next (s.landAccess s.core.cur a.id (readBytes x.data pa a.n))) ∧
      (s.bank.posted[k]? = some a → a.kind = .store → x.st = .d →
        exec (.postedStorePerform k) s =
          .next (((s.setSlice { x with
            data := pokeLine x.data (pa % 128) (leBytes a.n a.data.toNat),
            poison := x.poison && !((leBytes a.n a.data.toNat).length == 128) }).monTouch (lineOf pa)).dropAccess s.core.cur a.id))) ∧
    (∀ (s : State), stepDue s = true →
      let b := (passEndIfDue s).bank
      Answers (exec .singleStepTrap s) fun t => t.core.run = .freezing ∧
        ∃ addr, t.core.trap = some ⟨0x17, .atIssue, 0, b.pc, b.rep, addr, b.stepIds.extractLsb' 0 64,
          b.stepIds.extractLsb' 64 64⟩)

/-- A freeze that may complete makes its snapshot and record, and the policy of the cause acts, or a Collie core stops; a frozen
core resumes on CCTL; a drained task parks, or has its copies aborted at the drain bound; a late task takes 0xB0, one past its
watchdog 0xB1; a saved task returns and a release tick is set; the core goes back to bank A when due; a task ends once no
window of bank A waits for rows, and with the last one its launch completes; a launch named by the host ends. Choices and
readings of the model: the origin of the drain bound (log entry 49), what HALT in either bank ends (50), BUNDLE and REP of
imposed causes (98), credit of an ended task (121), the waits of HALT and of a saved context for stores (122), and a watchdog
that runs out while its task is parked or saved (125). (R99, R108, R111, R113, R114, R340, R342, R344, R396,
spec/07_traps_and_switching.md) -/
def Obligations.FreezeAndTaskEventsAct : Prop :=
    (∀ (s : State), s.core.run = .freezing → (freezeWaits s).core.freezeReady = true → (freezeWaits s).core.collie = false →
      let z := ((takeSnapshot (freezeWaits s)).modCore fun c => { c with run := .frozen }).writeRecord
      ∀ t, z.core.trap = some t →
        let pol := ((z.policyOf t.cause).extractLsb' 0 2).toNat
        (pol = 0 → exec .freezeComplete s = .next z.resume) ∧
        (pol = 1 → exec .freezeComplete s = .next (recordTrap z)) ∧
        (pol = 2 → t.cause.extractLsb' 4 4 ≠ 7 → exec .freezeComplete s = .next (recordTrap z)) ∧
        (pol = 2 → t.cause.extractLsb' 4 4 = 7 → exec .freezeComplete s =
          .next ((z.modCore fun c => { c with hold := true, polAt := z.tick }).pageAnew (.trap z.coreNo)
            (z.bankOf z.core.trapBank).asid t.addr.toNat (accessNeed z.core t.addr).1 (accessNeed z.core t.addr).2)) ∧
        (pol = 3 → (∀ l, z.launchOf z.core.launch = some l → exec .freezeComplete s = .next (endLaunch l 1 t.cause z)) ∧
          (z.launchOf z.core.launch = none → exec .freezeComplete s = .next (z.modCore Core.freed)))) ∧
    (∀ (s : State), s.core.run = .freezing →
      ((freezeWaits s).core.freezeReady = true → (freezeWaits s).core.collie = true →
        exec .freezeComplete s = .next (freezeWaits s).collieStop) ∧
      ((freezeWaits s).core.freezeReady = false → exec .freezeComplete s = .next (freezeWaits s))) ∧
    (∀ (s : State) (n : Nat), n < 128 → (s.focus n).core.run = .frozen →
      exec (.cctlResume n) s = .next ((((s.focus n).dropWaiter (.trap n)).resume).focus s.coreNo)) ∧
    (∀ (s : State) (q : Nat) (k : BitVec 32) (l : Launch), s.launchOf (some (q, k)) = some l →
      exec (.launchEnd q k) s = .next (endLaunch l 3 0 s)) ∧
    (∀ (s : State), s.core.drained = true →
      (s.core.copiesParked = true → exec .taskParked s = .next (s.modCore fun c => { c with run := .parked })) ∧
      (∀ t, s.core.drainAt = some t → s.core.drainB ≠ 0 → t + s.core.drainB.toNat ≤ s.tick →
        exec .drainBoundExpiry s = .next (s.modCore fun c => { c with chans := c.chans.map Channel.abortAtDrain }))) ∧
    (∀ (s : State), s.core.run = .running ∨ s.core.run = .draining →
      (∀ t, s.core.preReq = some t → s.core.preB ≠ 0 → t + s.core.preB.toNat ≤ s.tick →
        Answers (exec .preemptionEscalation s) fun u => u.core.run = .freezing ∧
          ∃ addr, u.core.trap = some ⟨0xB0, .escalated, 0, s.bank.pc, s.bank.rep, addr, BitVec.ofNat 64 (s.tick - t),
            bit s.bank.inSync ++ (0 : BitVec 63)⟩) ∧
      (s.core.wdogB ≠ 0 → s.core.launch.isSome = true → s.core.released + s.core.wdogB.toNat ≤ s.tick →
        Answers (exec .watchdogExpiry s) fun u => u.core.run = .freezing ∧ u.core.wdogB = 0 ∧
          ∃ addr d0 d1, u.core.trap = some ⟨0xB1, .escalated, 0, s.bank.pc, s.bank.rep, addr, d0, d1⟩)) ∧
    (∀ (s : State) (n : Nat) (c : Core), s.core.launch = none → s.core.run = .halted →
      (s.saved.find? fun p => p.1 == s.coreNo) = some (n, c) →
      Answers (exec .contextResume s) fun t => t.core.run = .parked ∧ (∃ r, s.tick + 2 ≤ r ∧ t.core.releaseAt = some r) ∧
        t.core.launch = c.launch ∧ t.core.spad = c.spad ∧ t.core.imem = c.imem ∧ t.core.trap = c.trap ∧
        t.core.trapSeq = s.core.trapSeq ∧ t.saved = s.saved.eraseP fun p => p.1 == s.coreNo) ∧
    (∀ (s : State), switchBackDue s.core = true → exec .bankSwitchBack s = .next s.toOtherBank) ∧
    (∀ (s : State), s.bank.ending = true → s.core.cur = true ∨ s.core.wins.toList.any Window.holdsEnd = false →
      let isB := s.core.cur
      let r := if isB then s.modCore fun c => { c with arm := false }
        else s.modCore fun c => { c with wins := c.wins.map Window.released, gq := [], sched := [] }
      let u := (r.modBank fun b =>
        { b with ending := false, ended := true, monaddr := b.monaddr &&& ~~~1, monLine := none, monSeen := [] }).modLaunch
          s.core.launch fun l => { l with tasks := l.tasks.filter (· != (s.coreNo, isB)) }
      let v := u.modCore fun c => { c.dropCredits with run := .halted, launch := none, preReq := none, drainAt := none }
      let other := s.core.bankOf !isB
      (other.ended = false → other.xfault = false → exec .taskEnd s = .next u.toOtherBank) ∧
      (other.ended = false → other.xfault = true → exec .taskEnd s = .next u) ∧
      (other.ended = true → (v.launchOf s.core.launch = none → exec .taskEnd s = .next v) ∧
        ∀ l, v.launchOf s.core.launch = some l →
          (l.tasks = [] → exec .taskEnd s = .next (completeLaunch l 0 0 v)) ∧
          (l.tasks ≠ [] → exec .taskEnd s = .next v))) ∧
    (∀ (s : State), s.core.cur = false → s.core.wins.toList.any Window.holdsEnd = true → exec .taskEnd s = .next s)

/-- A budget period clears what was moved and counts the periods in which each copy was held; a held copy past its grace traps
0xB2 and is counted anew; a frame tick counts the frame and returns every waiting FCLK; an expired Collie core is reset with
its memories kept, its queues passed on and the event logged; a claim takes the next item of its die, or steals half of the
largest other range. Choices and readings of the model: the memories that a Collie reset keeps (log entry 10), what counts in
which budget class (80), BUNDLE and REP of imposed causes (98). (R343, R345, R349, R350, spec/24_front_end.md) -/
def Obligations.PeriodsFramesAndClaimsAct : Prop :=
    (∀ (s : State), Answers (exec .budgetPeriod s) fun t => t = { s with moved := [], core := t.core, others := t.others } ∧
      ∀ n, ∀ k < 8, vget (t.coreAt n).chans k Channel.reset =
        let h := vget (s.coreAt n).chans k Channel.reset
        { h with cur := h.cur.map fun c => { c with held := if c.heldOn.isSome then c.held + 1 else 0 } }) ∧
    (∀ (s : State) (r : BitVec 2) (k : BitVec 3), s.core.run = .running →
      let grace := ((s.budget r.toNat k.toNat).extractLsb' 40 8).toNat
      let late (c : Copy) : Prop := grace ≠ 0 ∧ c.heldOn = some (8 * r.toNat + k.toNat) ∧ grace < c.held
      ((∃ h ∈ s.core.chans.toList, h.runs = true ∧ ∃ c, h.cur = some c ∧ late c) →
        Answers (exec (.budgetGraceExpiry r k) s) fun t => t.core.run = .freezing ∧
          (∃ addr d0 d1, t.core.trap = some ⟨0xB2, .escalated, 0, s.bank.pc, s.bank.rep, addr, d0, d1⟩) ∧
          ∀ h ∈ t.core.chans.toList, ∀ c, h.cur = some c → ¬ late c) ∧
      ((∀ h ∈ s.core.chans.toList, h.runs = true → ∀ c, h.cur = some c → ¬ late c) →
        exec (.budgetGraceExpiry r k) s = .next s)) ∧
    (∀ (s : State), Answers (exec .frameTick s) fun t => t.frameNo = s.frameNo + 1 ∧
      (∀ k < 8, t.coreAt (128 + k) = (s.coreAt (128 + k)).frameTick s.frameNo) ∧
      ∀ n < 128, t.coreAt n = s.coreAt n) ∧
    (∀ (s : State) (k : BitVec 3) (due : Nat), (s.coreAt (128 + k.toNat)).wdog = some due → due ≤ s.tick →
      Answers (exec (.collieWatchdogExpiry k) s) fun t =>
        let c := s.coreAt (128 + k.toNat)
        t.coreAt (128 + k.toNat) = { Core.reset true with imem := c.imem, spad := c.spad, spadBad := c.spadBad } ∧
        t.queueOwner = s.queueOwner.map (fun o => if o = k then k + 1 else o) ∧ t.logCnt = s.logCnt + 1) ∧
    (∀ (s : State) (d : BitVec 2),
      let p := vget s.ranges d.toNat (0, 0)
      let e := largestRange s.ranges d.toNat
      let q := vget s.ranges e.1 (0, 0)
      (p.1 < p.2 → exec (.rclaim d) s = .next { s with ranges := vset s.ranges d.toNat (p.1 + 1, p.2) }) ∧
      (p.2 ≤ p.1 → 2 ≤ e.2 → exec (.rclaim d) s =
        .next { s with ranges := vset (vset s.ranges e.1 (q.1, q.2 - e.2 / 2)) d.toNat (q.2 - e.2 / 2 + 1, q.2) }) ∧
      (p.2 ≤ p.1 → e.2 < 2 → exec (.rclaim d) s = .next s))

/-- The first arrival of a phase of two or more opens a counter; a further one is added, and the one that fills it completes the
phase for every arrival; one that comes after the phase completed takes 0xA3, which another device is told of; a withdrawal
takes out the arrivals of its launch; an arrival of a device that is not answered is dropped; a reported phase completes the
matching arrival of the core in focus and of the contexts saved from it; a timeout of a root that is another device traps 0xA6
at the core in focus whose arrival is overdue, and with no overdue arrival, or with this device as root, nothing happens.
Choices and readings of the model: the completed phase that is kept (log entry 6), the time that a Request Timeout counts
(83), an arrival of a device that is not answered (117). (R67, R357, spec/25_fabric.md) -/
def Obligations.BarrierEventsAct : Prop :=
    (∀ (s : State) (a : Arrival), a.dev = s.devId ∨ s.admits a.dev = true →
      (a.withdrawn = true → exec (.barrierArrival a) s = .next (counterWithdraw a s)) ∧
      (a.withdrawn = false → (s.counters.find? fun c => c.counts a) = none → a.count ≤ 1 →
        exec (.barrierArrival a) s =
          .next (tellComplete a { s with counters := s.counters ++ [⟨a.level, a.domid, a.phase, 0, [a]⟩] })) ∧
      (a.withdrawn = false → (s.counters.find? fun c => c.counts a) = none → 2 ≤ a.count →
        exec (.barrierArrival a) s =
          .next { s with counters := s.counters ++ [⟨a.level, a.domid, a.phase, a.count, [a]⟩] }) ∧
      (∀ c, a.withdrawn = false → (s.counters.find? fun c => c.counts a) = some c →
        (c.count ≠ 0 → c.arrivals.length + 1 < c.count → exec (.barrierArrival a) s = .next { s with
          counters := s.counters.map fun d => if d = c then { c with arrivals := c.arrivals ++ [a] } else d }) ∧
        (c.count ≠ 0 → c.count ≤ c.arrivals.length + 1 → exec (.barrierArrival a) s =
          .next ((c.arrivals ++ [a]).foldl (fun s a => tellComplete a s) { s with
            counters := s.counters.map fun d => if d = c then { c with arrivals := c.arrivals ++ [a], count := 0 } else d })) ∧
        (c.count = 0 → a.dev ≠ s.devId → exec (.barrierArrival a) s = .next (s.send (.excess a.dev a))) ∧
        (c.count = 0 → a.dev = s.devId → exec (.barrierArrival a) s = .next (arrivalTrap a 0xA3 s)))) ∧
    (∀ (s : State) (a : Arrival), a.dev ≠ s.devId → s.admits a.dev = false → exec (.barrierArrival a) s = .next s) ∧
    (∀ (s : State) (level : BitVec 2) (domid : BitVec 16) (phase : BitVec 32),
      Answers (exec (.phaseCompletion level domid phase) s) fun t =>
        t = { s with core := t.core, saved := t.saved } ∧
        t.saved = s.saved.map (fun p => if p.1 = s.coreNo then (p.1, p.2.completePhase level domid phase) else p) ∧ t.core.bankB = s.core.bankB.completePhase level domid phase ∧
        ∀ o, vget s.core.bankA.out level.toNat none = some o → o.phase = phase → o.domid = domid →
          t.core.bankA = { s.core.bankA with out := vset s.core.bankA.out level.toNat (some { o with completed := true }) }) ∧
    (∀ (s : State) (level : BitVec 2), s.barrierRoot level = s.devId ∨ s.anyOut level (Outstanding.overdue s.tick) = false →
      exec (.barrierRootTimeout level) s = .next s) ∧
    (∀ (s : State) (level : BitVec 2) (o : Outstanding) (d : Nat), s.barrierRoot level ≠ s.devId → s.coreNo < 136 →
      s.core.run = .running → vget s.core.bankA.out level.toNat none = some o → o.completed = false → o.due = some d → d ≤ s.tick →
      s.core.bankB.anyOut level Outstanding.waits = false →
      Answers (exec (.barrierRootTimeout level) s) fun t => (t.coreAt s.coreNo).run = .freezing ∧
        ∃ r, (t.coreAt s.coreNo).trap = some r ∧ r.cause = 0xA6 ∧ r.pc = o.pc ∧ r.rep = o.rep)

/-- On a running channel: an outstanding unit of a scratchpad source returns; a landing write into the scratchpad whose bytes have
returned lands, one whose bytes failed freezes the channel; a finished copy completes; CLDM takes the metadata word of a line
of this device; CSCAN reads a line that the home slice holds modified and drains what is in order, or closes; a released
schedule entry enters its channel; credit, window and OPM writes arrive, those of a device that is not answered are refused.
Choices and readings of the model: the order in which lines and fragments come (log entry 3), what a scan reads and an element
in two lines (62, 137), the registers of a schedule entry (64) and a trap at its release (114), a window or OPM write that is
answered by no message (118), credit before a release (121). (R230, R232, R234, R246, R247, R270, R274, R294, R355, R356,
spec/16_copy_channels.md) -/
def Obligations.CopyEventsAct : Prop :=
    (∀ (s : State) (ch : BitVec 3) (c : Copy), (s.chan ch.toNat).cur = some c → (s.chan ch.toNat).runs = true →
      s.copyEnds c = false →
      let n := ch.toNat
      (c.lidx < c.total → c.toTensor = false → c.onLines = false → c.isFetch = false → c.code = 0x00 →
        let a := c.addrAt c.lidx
        let m := min (min (c.e0 - c.lidx % c.e0) (64 - a % 64)) (c.total - c.lidx)
        (∀ l, c.need (run c.lidx m) = .have_ l →
          exec (.copyLandingWrite ch) s = .next ((s.landSpad a l).landedBytes n m)) ∧
        (∀ i fc, c.need (run c.lidx m) = .failing i fc →
          exec (.copyLandingWrite ch) s = .next (s.freezeUnit n fc (c.unitAt i)))) ∧
      (c.fromSpad = true → c.fresh = false → (s.chan n).queue = [] → c.lidx < c.total →
        (∃ i, c.fetchFrom ≤ i ∧ i < c.total ∧ c.outstanding i = true) →
        Answers (exec (.fragmentReturn ch) s) fun t => ∃ i k, c.fetchFrom ≤ i ∧ i < c.total ∧ c.outstanding i = true ∧
          let idx := (c.unitOf c.spadSrc i).filter fun m => !c.has m && (c.failOf m).isNone
          t = { s with choices := k }.onCopy n fun d => d.takeUnit idx (readSpadUnit c idx s)) ∧
      (completes n c s = true → exec (.copyComplete ch) s = .next (s.onChan n fun h =>
        ({ h with wm := if c.tracks then { h.wm with addr := BitVec.ofNat 22 c.hi } else h.wm } : Channel).finish)) ∧
      (c.code = 0x05 → (s.request .writeOnce (s.askerFor c) windowKey).isSome = true → exec (.refusedWrite ch) s =
        .next ((s.dropRequest .writeOnce (s.askerFor c) windowKey).freezeUnit n 4 c.args.xa.toNat)) ∧
      (s.request .writeOnce (s.askerFor c) windowKey = none → exec (.refusedWrite ch) s = .next s) ∧
      (∀ k u pa ca d t, c.code = 0x1A →
        let lines := regionLines c.args.desc c.args.coord c.args.ext
        let q := c.lidx / 4
        chooseFrom (lines.length - q) (fun k => c.outstanding (4 * (q + k))) s = (some k, u) → q + k < lines.length →
        c.failOf (4 * (q + k)) = none → copyWalk n c (lines.getD (q + k) 0 * 128) false true u = (.at_ pa ca d, t) →
        rangeOf (localOf pa) = .hbm → t.budgetOk c pa = true → devOf pa = t.devId →
        t.metaError (localLine (lineOf pa)) = false → t.txBusy (lineOf pa) = false →
        t.request (.home false) (t.askerFor c) (lineOf pa) = none →
        let idx := run (4 * (q + k)) 4
        exec (.metadataRead ch) s = .next ((t.budgetMove n c pa 4).onCopy n fun c => c.takeUnit idx (.bytes (idx.map fun i =>
          (i, (t.metaWord (localLine (lineOf pa))).extractLsb' (8 * (i % 4)) 8))))) ∧
      (∀ f, c.op = .c 0x12 (.kc f) → c.closed = false → c.failed = [] →
        let lines := c.scanLines
        let w := vget s.core.wins c.args.win.toNat Window.reset
        (c.scanLeft = [] → exec (.ganderScan ch) s = .next (s.onCopy n fun c => c.close w.rowb w.part)) ∧
        (∀ i u pa ca t x,
          chooseFrom lines.length (fun i => (c.readLine (lines.getD i 0)).isNone) s = (some i, u) →
          let l := lines.getD i 0
          copyWalk n c (128 * l) false true u = (.at_ pa ca false, t) → devOf pa = t.devId →
          rangeOf (localOf pa) = .hbm → t.budgetOk c pa = true → t.request (.home false) (t.askerFor c) (lineOf pa) = none →
          t.sliceLine (lineOf pa) = some x → x.st = .d → x.poison = false →
          let w := vget t.core.wins c.args.win.toNat Window.reset
          exec (.ganderScan ch) s = .next (((t.budgetMove n c pa 128).onCopy n (Copy.noteLine l 0 (some x.data))).onCopy n
            (Copy.drainLine f.cmp.toNat w.rowb w.part))))) ∧
    (∀ (s : State) (e : SchedEntry) (rest : List SchedEntry) (op : Nat) (b : CBody), s.core.sched = e :: rest →
      decodeSlot .c0 e.payload = .ok (.c op b) → e.stage ≤ s.core.cstage →
      let t := { s with ctx := ⟨.s, scheduleEntry s.bank (.c op b)⟩ }
      (t.holds b.guard = false → exec .scheduleEntryRelease s = .next (s.modCore fun c => { c with sched := rest })) ∧
      (t.holds b.guard = true → copyHeld t (.c op b) = false → watermarkHeld t t.zreg (.c op b) = false →
        ∀ c u, (planOf op b).run.run t = (.ok c, u) → exec .scheduleEntryRelease s =
          .next { ((u.modCore fun c => { c with sched := rest }).takeCopy b.ch.toNat c) with ctx := s.ctx })) ∧
    (∀ (s : State) (ch : BitVec 3) (w : WindowName) (rows : Nat) (rowb : BitVec 16),
      Answers (exec (.creditGrant ch w rows rowb) s) fun t =>
        (t.chan ch.toNat).held w = (s.chan ch.toNat).held w + rows * rowb.toNat ∧ t.core.spad = s.core.spad ∧
        ∀ n, n ≠ ch.toNat → t.chan n = s.chan n) ∧
    (∀ (s : State) (w : BitVec 3) (src : FlowSource) (l : List (BitVec 8)),
      let win := vget s.core.wins w.toNat Window.reset
      (s.admits src.dev = true → win.takes src = true → win.landed < win.fetchable →
        exec (.remoteFlowWrite w src l) s = .next (s.modCore fun c => c.flowLand w.toNat (l.length + 1) l)) ∧
      (s.admits src.dev = false ∨ win.takes src = false ∨ win.fetchable ≤ win.landed → exec (.remoteFlowWrite w src l) s =
        .next (if s.inDomain then s.send (.refused src ⟨s.devId, BitVec.ofNat 7 s.coreNo, w⟩) else s))) ∧
    (∀ (s : State) (y : BitVec 6) (k : BitVec 7) (off : BitVec 26) (l : List (BitVec 8)),
      (s.admits y = true → s.hostOps.any (·.dev == some y) = true → exec (.remoteOpmWrite ⟨y, k⟩ off l) s =
        .next { s with hostOps := s.hostOps ++ [⟨some y, 0, 0x3F0000000000 + k.toNat * 2 ^ 26 + off.toNat, l.length, some l⟩] }) ∧
      (s.admits y = true → s.hostOps.any (·.dev == some y) = false → off.toNat + l.length ≤ 0x300000 →
        Answers (exec (.remoteOpmWrite ⟨y, k⟩ off l) s) fun t => t.hbm = s.hbm ∧
          (t.coreAt k.toNat).spad = (s.coreAt k.toNat).spad.store off.toNat l ∧
          (t.coreAt k.toNat).bankA = (s.coreAt k.toNat).bankA) ∧
      (s.admits y = false → exec (.remoteOpmWrite ⟨y, k⟩ off l) s =
        .next (s.turnAway y (lineBase s.devId + (0x3F0000000000 + k.toNat * 2 ^ 26 + off.toNat) / 128))))

/-- A TXQ write that the port accepts queues its frame, any other is counted in REJ; the oldest frame of a port is read from the
scratchpad, padded to 60 bytes, given its FCS and sent; a good frame lands as a row of the first window that matches it; one
with a bad FCS, without a window, too long for its window, or without room is dropped and counted. Choices and readings of the
model: the byte order of a filter MAC (log entry 30), bytes past the scratchpad (69). (R360, R361, R362, R363,
spec/25_fabric.md) -/
def Obligations.WireFramesMove : Prop :=
    (∀ (s : State) (port : BitVec 1) (w : BitVec 64),
      (txqAccepts (vget s.wires port.toNat WirePort.reset) w = true →
        exec (.txq port w) s = .next (s.modWire port fun p => { p with txq := p.txq ++ [w], got := p.got ++ [[]] })) ∧
      (txqAccepts (vget s.wires port.toNat WirePort.reset) w = false →
        exec (.txq port w) s = .next (s.modWire port fun p => { p with rej := p.rej + 1 }))) ∧
    (∀ (s : State) (port : BitVec 1) (w : BitVec 64) (rest : List (BitVec 64)),
      let p := vget s.wires port.toNat WirePort.reset
      p.txq = w :: rest →
      let c := s.coreAt (w.extractLsb' 36 7).toNat
      let a := (w.extractLsb' 0 22).toNat
      let n := (w.extractLsb' 22 14).toNat
      let frame (bytes : List (BitVec 8)) : List (BitVec 8) := bytes ++ List.replicate (60 - bytes.length) 0
      let out (f : List (BitVec 8)) : Out := .next ((s.modWire port fun p => { p with
        txq := rest, got := p.got.tail, sent := p.sent + 1, txs := (ptpSplit s.ptpNs).1.setWidth 32, txn := (ptpSplit s.ptpNs).2 }).send
          (.frame port (f ++ leBytes 4 (frameCrc f).toNat)))
      (p.got.headD [] = [] → a + n ≤ c.spadSize → exec (.frameTransmit port) s = out (frame (c.spad.bytes a n))) ∧
      (∀ old : Nat → List (BitVec 8), (∀ g < granulesOf w, (p.got.headD []).find? (·.1 == g) = some (g, old g)) →
        exec (.frameTransmit port) s = out (frame ((List.range (granulesOf w)).flatMap old)))) ∧
    (∀ (s : State) (port : BitVec 1) (f : List (BitVec 8)), 60 ≤ f.length → f.length ≤ 9212 →
      exec (.frameReceive port f false) s = .next (s.modWire port fun p => { p with dfcs := p.dfcs + 1 }) ∧
      (s.frameWindow port f = none →
        exec (.frameReceive port f true) s = .next (s.modWire port fun p => { p with dnone := p.dnone + 1 })) ∧
      (∀ n k, s.frameWindow port f = some (n, k) →
        let w := vget (s.coreAt n).wins k Window.reset
        (w.rowb < f.length + 16 →
          exec (.frameReceive port f true) s = .next (s.modWire port fun p => { p with dlong := p.dlong + 1 })) ∧
        (f.length + 16 ≤ w.rowb → w.b.toNat + w.slots ≤ w.landed →
          exec (.frameReceive port f true) s = .next (s.modWire port fun p => { p with dfull := p.dfull + 1 })) ∧
        (f.length + 16 ≤ w.rowb → w.landed < w.b.toNat + w.slots →
          exec (.frameReceive port f true) s =
            .next (s.modCoreAt n fun c => c.flowLand k (w.rowb + 1) (frameRow w.rowb f s.ptpNs)))))

/-- For an admitted device and a line of this home with a valid word: a request that needs no message ends at once as its
transaction says; an RdS of a line nobody holds grants E with the data; an RdS of an owned line recalls it from the owner, and
passes over an owner that cannot be reached, poisoning the line; one of a line whose word is in error is held and reported; a
device that is not admitted is turned away; WBD and EVC of the owner update the word; the last ACK to an Inv sends the Recall
that waited for it, the last ACK ends its transaction; a firmware rebuild of an invalid word, under the repair budget, recalls
the line from every other device, or ends at once outside a domain. Choices and readings of the model: effects that chapter 21
leaves to the reader (log entry 65), a refused request (66), one atomic act at home (84), a write that is answered by no
message (118). (R313, R315, R317, R318, R320, R321, spec/21_coherence.md) -/
def Obligations.HomeAnswersRequests : Prop :=
    (∀ (s : State) (y : BitVec 6) (line : Nat), s.admits y = true → s.homeLine line = true → s.txBusy line = false →
      s.metaError (localLine line) = false →
      let l := localLine line
      let w := s.metaWord l
      let tx (e : HomeEvent) : HomeTx := ⟨line, e, [], none, none, false, none, false, false, 0⟩
      let at_ (e : HomeEvent) : State := { s with homeTx := s.homeTx ++ [tx e] }
      let quick (e : HomeEvent) (o : Out) : Prop :=
        txMessages (at_ e) (tx e) = ([], none) → o = .next (finishTx (tx e) (at_ e))
      quick (.rds y) (exec (.rds y line) s) ∧
      (∀ full, quick (.rdx y full) (exec (.rdx y line full) s)) ∧
      quick (.upg y) (exec (.upg y line) s) ∧
      (s.sliceLine line = none → quick .localRead (exec (.homeLocalRead line) s)) ∧
      quick .localWrite (exec (.homeLocalWrite line) s) ∧
      (∀ k < 128, ∀ n, quick (.uncachedRead y) (exec (.uncachedRead y ⟨128 * line + k, n⟩) s)) ∧
      (∀ k < 128, ∀ bytes z, quick (.uncachedWrite y (128 * line + k) bytes z)
        (exec (.uncachedWrite y (128 * line + k) ⟨bytes, z⟩) s)) ∧
      (hst w = 0 → s.sliceLine line = none → s.lineBad l = false →
        exec (.rds y line) s =
          .next (((s.setMeta l (wordState w 2 y 0)).send (.dat y line .e (psn w) false (s.dram l))).monTouch line)) ∧
      (2 ≤ hst w → s.fabricCause (own w) = none → exec (.rds y line) s = .next (({ s with
        homeTx := s.homeTx ++ [HomeTx.mk line (.rds y) [] none (some (own w)) false none false true (s.tick + s.tmo)] } : State).send
          (.recall (own w) line true (some y)))) ∧
      (hst w = 2 ∨ hst w = 3 → s.fabricCause (own w) ≠ none →
        exec (.rds y line) s = .next (finishTx { tx (.rds y) with dead := true } (at_ (.rds y))))) ∧
    (∀ (s : State) (y : BitVec 6) (line : Nat), s.admits y = true → s.homeLine line = true → s.txBusy line = false →
      s.metaError (localLine line) = true → exec (.rds y line) s = .next (State.reportMeta
        { s with homeTx := s.homeTx ++ [⟨line, .rds y, [], none, none, false, none, false, false, 0⟩] } line)) ∧
    (∀ (s : State) (y : BitVec 6) (line : Nat), s.admits y = false →
      let away : Out := .next (s.turnAway y line)
      exec (.rds y line) s = away ∧ (∀ full, exec (.rdx y line full) s = away) ∧ exec (.upg y line) s = away ∧
      ∀ k < 128, (∀ n, exec (.uncachedRead y ⟨128 * line + k, n⟩) s = away) ∧
        ∀ bytes z, exec (.uncachedWrite y (128 * line + k) ⟨bytes, z⟩) s = away) ∧
    (∀ (s : State) (x : BitVec 6) (line : Nat), s.admits x = true → s.homeLine line = true →
      own (s.metaWord (localLine line)) = x →
      (hst (s.metaWord (localLine line)) = 2 →
        exec (.evc x line) s =
          .next (s.setMeta (localLine line) (wordState (s.metaWord (localLine line)) 0 0 0))) ∧
      (hst (s.metaWord (localLine line)) = 3 → ∀ z p d,
        let t := if z then s.setSector (localLine line) d else s.setDram (localLine line) d false
        let w := t.metaWord (localLine line)
        exec (.wbd x line false z p d) s = .next ((t.setMeta (localLine line) (wordPoison (wordState w 0 0 0) p)).monTouch line) ∧
        exec (.wbd x line true z p d) s = .next ((t.setMeta (localLine line) (wordPoison (wordState w 2 x 0) p)).monTouch line))) ∧
    (∀ (s : State) (x : BitVec 6) (line : Nat) (t : HomeTx) (dirty notHeld : Bool) (d : Option (BitVec 1024)),
      (s.homeTx.find? fun t => t.line == line && t.active) = some t →
      let w := s.metaWord (localLine line)
      (t.owes = some x → t.invs = [] → t.call = none →
        let u : HomeTx := { t with
          owes := none, dirty := t.dirty || dirty, data := if dirty && d.isSome then d else t.data,
          dead := t.dead || (notHeld && 2 ≤ hst w && own w == x) }
        exec (.ack x line dirty notHeld d) s = .next ((finishTx u (s.setTx t u)).pump line)) ∧
      (∀ o k f, t.owes = none → t.invs = [x] → t.call = some (o, k, f) → t.event ≠ .rebuild → s.fabricCause o = none →
        let u : HomeTx := { t with invs := [] }
        exec (.ack x line dirty notHeld d) s = .next (((s.setTx t u).setTx u
          { u with call := none, owes := some o, due := s.tick + s.tmo }).send (.recall o line k f)))) ∧
    (∀ (s : State) (line : Nat), s.homeLine line = true → s.mayRepair = true → s.metaError (localLine line) = true →
      (s.homeTx.any fun t => t.line == line && t.active) = false →
      let t (l : List (BitVec 6)) : HomeTx := ⟨line, .rebuild, l, none, none, false, none, false, true, s.tick + s.tmo⟩
      let u (l : List (BitVec 6)) : State := { (s.move 0 5 128) with homeTx := t l :: s.homeTx }
      (s.inDomain = false → exec (.metadataRebuild line) s = .next ((finishTx (t []) (u [])).pump line)) ∧
      (∀ d ds, s.reached = d :: ds →
        exec (.metadataRebuild line) s = .next ((d :: ds).foldl (fun v d => v.send (.recall d line false none)) (u (d :: ds)))))

/-- INV drops an S copy and is acknowledged; RECALL of a held line forwards its data and says whether it was modified, of one not
held or shared says that it is not owned; a poisoned modified copy goes home by WbD; DAT and CMP with a waiting request place
the line in the state of the grant, expanded where it comes as a sector, or write a line that is to be written whole; a home
slice that gives up a modified line writes it to DRAM, a holder that gives up a clean exclusive line sends EVC; a home that is
not admitted is turned away. Choices and readings of the model: ownership without data (log entry 27), effects that chapter 21
leaves to the reader (65), Cmp with grant S (118), poisoned data that comes home (140), a poisoned copy that becomes owned
(143). (R287, R313, R314, R317, R318, spec/21_coherence.md) -/
def Obligations.HolderAnswersMessages : Prop :=
    (∀ (s : State) (line : Nat) (x : SliceLine), s.sliceLine line = some x → x.line = line →
      let home := devOf (128 * line)
      let gone := (s.dropSlice line).monTouch line
      (s.admits home = true → x.st = .s →
        exec (.inv line) s = .next (gone.send (.ack home line false false none)) ∧
        ∀ fwd, exec (.recall line false fwd) s = .next (gone.send (.ack home line false true none))) ∧
      (s.admits home = true → x.st = .o → exec (.recall line false (some s.devId)) s = .next (({ s with
        requests := s.requests.filter fun r => !(r.wanting && r.line == line) } : State).setSlice { x with st := .m } |>.send
          (.ack home line true false none))) ∧
      (s.admits home = true → x.st = .m → x.poison = true → ∀ keep, exec (.recall line keep none) s =
        .next ((gone.send (.wbd home line false false true x.data)).send (.ack home line false true none))) ∧
      (s.admits home = true → x.st = .m → ∀ y, y ≠ s.devId →
        exec (.recall line false (some y)) s = .next ((((s.dropSlice line).monTouch line).send
          (.dat y line .m x.poison false x.data)).send (.ack home line true false none)) ∧
        exec (.recall line true (some y)) s = .next ((((s.setSlice { x with st := .o }).monTouch line).send
          (.dat y line .s x.poison false x.data)).send (.ack home line true false none))) ∧
      (s.admits home = true → x.st = .m → x.poison = false → exec (.recall line true none) s = .next (((s.setSlice { x with st := .s }).monTouch line).send
        (.ack home line true false (some x.data)))) ∧
      (x.st = .d → s.homeLine line = true →
        exec (.homeSliceEvict line) s = .next (((s.writeBack x).dropSlice line).monTouch line)) ∧
      (x.st = .c → s.homeLine line = true →
        exec (.homeSliceEvict line) s = .next ((s.dropSlice line).monTouch line)) ∧
      (x.st = .e → s.homeLine line = false →
        Answers (exec (.sliceEviction line) s) fun t => t.sliceLine line = none ∧
          t.sent = s.sent ++ [.evc (devOf (128 * line)) line] ∧ t.hbm = s.hbm)) ∧
    (∀ (s : State) (line : Nat),
      let home := devOf (128 * line)
      (s.admits home = true → s.sliceLine line = none →
        exec (.inv line) s = .next (s.send (.ack home line false false none)) ∧
        ∀ keep fwd, exec (.recall line keep fwd) s = .next (s.send (.ack home line false true none))) ∧
      (s.admits home = false → exec (.inv line) s = .next (s.turnAway home line) ∧
        ∀ keep fwd, exec (.recall line keep fwd) s = .next (s.turnAway home line))) ∧
    (∀ (s : State) (line : Nat) (g : Grant) (p : Bool) (d : BitVec 1024) (r : Request),
      (s.requests.find? fun r => r.wanting && r.line == line) = some r →
      let t := { s with requests := s.requests.filter (· != r) }
      (r.store = none →
        exec (.dat line g p ⟨.raw, d⟩) s = .next (t.fillSlice ⟨line, grantState g, d, p, 0⟩) ∧
        exec (.dat line g p ⟨.sector, d⟩) s = .next (t.fillSlice ⟨line, grantState g, unpackLine d, p, 0⟩) ∧
        (g ≠ .s → ∀ x, s.sliceLine line = some x →
          exec (.cmp line g) s = .next (t.fillSlice { x with st := if x.poison then .m else grantState g })) ∧
        (g ≠ .s → s.sliceLine line = none → Answers (exec (.cmp line g) s) fun u =>
          ∃ v, u.sliceLine line = some ⟨line, grantState g, v, false, 0⟩ ∧ u.requests = t.requests)) ∧
      (∀ w z, r.store = some (w, z) → g ≠ .s → exec (.cmp line g) s = .next (State.storeWhole
        { s with requests := s.requests.map fun q => if q = r then { q with answer := some (0, false) } else q } r.line w z))) ∧
    (∀ (s : State) (line : Nat) (g : Grant) (p : Bool) (d : BitVec 1024),
      exec (.dat line g p ⟨.plain, d⟩) s = .next { s with
        requests := answerFirst (fun r => r.kind == .readOnce && r.line == line) (d, p) s.requests } ∧
      exec (.dat line g p ⟨.word, d⟩) s = .next { s with
        requests := answerFirst (fun r => r.kind == .metadata && r.line == line) (d, p) s.requests } ∧
      exec (.cmp line .s) s = .next { s with requests := answerFirst (fun r =>
        r.kind == .writeOnce && (r.line == line || r.line / 128 == line)) (0, false) s.requests })

/-- A stack at rest with a failing layer begins to migrate it; a migration moves its next row, the last one too, under the repair
budget, and after the last logs the repair; a further failing layer is noted; above HIGH demotion takes the page of the first
frame from the clock hand whose access bit is clear; the entry of a page that moves is marked at home, this device drops it
from its translation caches, and the other devices of the domain are to drop it. Choices and readings of the model: the number
of rows (log entry 28), the frame (29). (R291, R292, R293, R299, R300, R301, spec/19_global_memory.md) -/
def Obligations.RepairAndDemotionAct : Prop :=
    (∀ (s : State) (k : BitVec 3),
      let r := vget s.repairs k.toNat ⟨0, 0, 0, [], []⟩
      let put (q : Repair) : State := { s with repairs := vset s.repairs k.toNat q }
      (∀ l, r.state = 0 → failingLayer r = some l →
        exec (.layerMigration k) s = .next (put { r with state := 1, layer := BitVec.ofNat 4 l, bound := 0 })) ∧
      (r.state = 1 → r.bound ≠ BitVec.allOnes 20 → s.mayRepair = true →
        exec (.layerMigration k) s = .next ((put { r with bound := r.bound + 1 }).move 0 5 4096)) ∧
      (r.state = 1 → s.mayRepair = false → exec (.layerMigration k) s = .next s) ∧
      (r.state = 1 → r.bound = BitVec.allOnes 20 → s.mayRepair = true → exec (.layerMigration k) s =
        .next (((put { r with state := 2 }).move 0 5 4096).logError 3 0 (k.setWidth 16) (r.layer.setWidth 64))) ∧
      (∀ l, r.state = 2 → failingLayer { r with lasting := r.lasting.filter fun e => e.1 != r.layer.toNat } = some l →
        exec (.layerMigration k) s = .next (put { r with state := 3 }))) ∧
    (∀ (s : State) (k : BitVec 1) (frame p : Nat) (rest : List Nat) (o : PageOwner),
      let t := vget s.tiers k.toNat Tier.reset
      t.high < t.pages.length → s.moving = [] →
      (t.pages.filter fun p => t.hand ≤ p) = p :: rest → t.access.contains p = false →
      (s.owners.find? fun o => o.covers p) = some o →
      Answers (exec (.tierDemotion k frame) s) fun u => u = { s with tiers := u.tiers, moving := [⟨o, false, [], none, 0⟩] } ∧
        (vget u.tiers k.toNat Tier.reset).hand = p + 1 ∧ (vget u.tiers k.toNat Tier.reset).active = true ∧
        (vget u.tiers k.toNat Tier.reset).pages = t.pages) ∧
    (∀ (s : State) (k : BitVec 1) (frame : Nat) (m : Move), s.moving = [m] → m.marked = false →
      (rangeOf (m.page.frame * 2 ^ 18) = .hbm ↔ k = 0) →
      let o := m.page
      let line := lineOf o.pteAddr
      s.metaError (localLine line) = false → s.txBusy line = false → hst (s.metaWord (localLine line)) = 0 →
      s.request (.home true) o.asker line = none →
      Answers (exec (.tierDemotion k frame) s) fun u =>
        u.moving = [{ m with marked := true, invalid := s.reached.map fun d => (d, 0) }] ∧
        (∀ x ∈ u.tlb, o.covers (x.pte.extractLsb' 18 28).toNat = false ∨ x.pte.extractLsb' 46 6 ≠ s.devId) ∧
        u.hostMem = s.hostMem ∧ u.tierMem = s.tierMem)

/-- An access that its translation places goes on with the physical address, one that faults waits for the page, one that meets a
migration mark is translated again; a successful response makes a waiting access walk again; a waiting access past the fault
bound traps 0x74; each invalidation begins unless one runs, and ends by dropping the entries it names once no translated
access of the device is unperformed; clearing PRI Stopped lets requests out. Choices and readings of the model: a bound on
rewalks (log entry 14), response codes (31), when invalidated entries are dropped (74), a Response Failure of one port (112).
(R304, R306, R308, R309, R310, R311, spec/20_translation.md) -/
def Obligations.TranslationEventsAct : Prop :=
    (∀ (s : State) (k : Nat) (a : GAccess), s.bank.accessAt k = some a →
      let (rd, wr) := a.needs
      let r := translate (s.askerOf s.core.cur a) s.bank.asid a.va.toNat rd wr s
      (∀ pa ca d t, r = (.leaf pa ca d, t) →
        (a.phase = .walk → exec (.translationWalk k) s = .next (placeAccess s.core.cur a pa ca d t)) ∧
        (∀ seen, a.phase = .migrating seen → exec (.migrationRewalk k) s = .next (placeAccess s.core.cur a pa ca d t))) ∧
      (∀ t, r = (.fault, t) → a.kind ≠ .monitor →
        let u := ((t.setAccess s.core.cur { (a.count t.tick) with phase := .fault }).pageFault (.access t.coreNo s.core.cur a.id) s.bank.asid
          a.va.toNat rd wr).bankWaits s.core.cur
        (a.phase = .walk → exec (.translationWalk k) s = .next u) ∧
        (∀ seen, a.phase = .migrating seen → exec (.migrationRewalk k) s = .next u)) ∧
      (∀ t, r = (.migrating, t) → a.phase = .walk →
        exec (.translationWalk k) s = .next (t.setAccess s.core.cur { a with phase := .migrating t.tick }))) ∧
    (∀ (s : State) (isB : Bool) (a : GAccess) (pa : Nat) (ca : BitVec 2), rangeCause a pa ca s = none →
      placeAccess isB a pa ca false s = s.setAccess isB { a with phase := .ready pa ca }) ∧
    (∀ (s : State) (tag : BitVec 8) (r : PageReq), (s.pageReqs.find? fun r => r.tag == tag.toNat) = some r →
      let left (t : State) : State := { t with pageReqs := t.pageReqs.filter (· != r) }
      (r.waiters = [] → s.pageWait = [] →
        exec (.pageResponse tag .success) s = .next (left s) ∧
        exec (.pageResponse tag .responseFailure) s =
          .next { left s with priStopped := s.priStopped ||| (1#2 <<< (s.asidPort r.asid).toNat) }) ∧
      (∀ id, r.waiters = [.access s.coreNo s.core.cur id] → s.pageWait = [] →
        Answers (exec (.pageResponse tag .invalidRequest) s) fun t => t.pageReqs = s.pageReqs.filter (· != r) ∧
          ∀ a, (s.bank.accesses.find? fun a => a.id == id) = some a → s.core.run = .running →
            ∃ v, t.core.trap = some v ∧ v.cause = 0x70 ∧ v.addr = a.va ∧ v.pc = a.pc)) ∧
    (∀ (s : State) (k : Nat) (a : GAccess) (t : Tracked), s.bank.tracked[k]? = some t → t.kind = .access a →
      s.core.faultB ≠ 0 → s.core.faultB.toNat ≤ a.waited → s.waitsOnPage (.access s.coreNo s.core.cur a.id) = true →
      exec (.faultBoundExpiry k) s = .next (waitFails s.core.cur a.id 0x74 (BitVec.ofNat 64 a.waited)
        (BitVec.ofNat 64 (s.tagOf (.access s.coreNo s.core.cur a.id))) (s.dropWaiter (.access s.coreNo s.core.cur a.id)))) ∧
    (∀ (s : State) (asid : BitVec 8),
      (s.xbusy = false →
        let begins (kind n : Nat) (o : Out) : Prop := o = .next { s with
          xbusy := true, xinvc := BitVec.ofNat 64 (kind * 256 + n), xpage := (s.xinva.extractLsb' 18 36).toNat * 2 ^ 18 }
        begins 0 0 (exec .invalidateAll s) ∧ begins 1 asid.toNat (exec (.invalidateAsid asid) s) ∧
        begins 2 asid.toNat (exec (.invalidatePage asid) s) ∧ begins 3 asid.toNat (exec (.invalidateTensors asid) s)) ∧
      (s.xbusy = true → exec .invalidateAll s = .next s ∧
        (s.settled = false → exec .invalidationDone s = .next s) ∧
        (s.settled = true →
          Answers (exec .invalidationDone s) fun t => t.xbusy = false ∧ t.tlb = s.tlb.filter (fun e => !s.dropsEntry e)))) ∧
    (∀ (s : State) (port : BitVec 1), s.pageWait = [] →
      exec (.priStoppedClear port) s = .next { s with priStopped := s.priStopped &&& ~~~(1#2 <<< port.toNat) })

/-- A new flit in error begins the count of its replays, the first fifteen that fail are counted, the sixteenth takes the link
down, and of the messages towards next devices that no link reaches any more an openly chosen one, or none, fails with 0x94; a
request past its TMO fails with 0x91, a host or CXL request without a completion with 0x84 or 0x83; a holder that does not
answer within TMO is passed over; a port with a lasting lane is retrained once at half width and logged; a link that goes down
stays down. Choices and readings of the model: which flit and whose (log entry 3), the next devices of a route (138), the AER
message (146). (R322, R353, R358, R369, R370, R380, spec/25_fabric.md) -/
def Obligations.LinkFailuresAct : Prop :=
    (∀ (s : State) (port : BitVec 4),
      let l := vget s.links port.toNat FabricPort.none_
      let put (l : FabricPort) (u : State) : State := { u with links := vset u.links port.toNat l }
      (∀ u, l.up = true → s.choose 2 = (1, u) → exec (.flitCrcError port) s = .next (put { l with replays := 0 } u)) ∧
      (∀ u, l.up = true → s.choose 2 = (0, u) → l.replays < 15 →
        exec (.flitCrcError port) s = .next (put { l with replays := l.replays + 1 } u)) ∧
      (∀ u, l.up = true → s.choose 2 = (0, u) → 15 ≤ l.replays →
        let t := put { l with up := false, replays := 0 } u
        let lost := t.stranded l
        ∀ i v, t.choose (lost.length + 1) = (i, v) → exec (.flitCrcError port) s =
          .next (match lost[i]? with | some j => failAt j 0x94 v | none => v)) ∧
      (l.up = false → exec (.flitCrcError port) s = .next s) ∧
      (∀ p, s.lastingLane port = some p → l.half = false → exec (.laneRetrain port) s = .next
        (State.logError { s with links := vset s.links port.toNat { l with half := true } } 3 3 (port.setWidth 16) p.at_)) ∧
      (s.lastingLane port = none ∨ l.half = true → exec (.laneRetrain port) s = .next s)) ∧
    (∀ (s : State) (k : Nat) (r : Request), s.requests[k]? = some r →
      (r.unanswered = true → r.due ≤ s.tick → Answers (exec (.fabricTimeout k) s) fun t =>
          t = { s with requests := t.requests } ∧ t.requests[k]? = some { r with failed := some 0x91 } ∧
          ∀ j, j ≠ k → t.requests[j]? = s.requests[j]?) ∧
      (r.unanswered = false ∨ s.tick < r.due → exec (.fabricTimeout k) s = .next s) ∧
      (r.kind = .port → Answers (exec (.completionTimeout k) s) fun t =>
        t = { s with requests := t.requests, sent := s.sent ++
          (if r.port = some .p0 ∨ r.port = some .p1 then [.aer (r.port.getD .p0) false] else []) } ∧
        t.requests[k]? = some { r with failed := some (if r.port = some .p0 ∨ r.port = some .p1 then 0x84 else 0x83) } ∧
        ∀ j, j ≠ k → t.requests[j]? = s.requests[j]?)) ∧
    (∀ (s : State) (k : Nat) (t : HomeTx) (d : BitVec 6), s.owed[k]? = some (t, d) →
      (t.due ≤ s.tick → exec (.fabricTimeout (s.requests.length + k)) s = .next (abandon t d s)) ∧
      (s.tick < t.due → exec (.fabricTimeout (s.requests.length + k)) s = .next s)) ∧
    (∀ (s : State) (port : Port), Answers (exec (.portLinkDown port) s) fun t => port ∈ t.portDown ∧
      (∀ p, p ≠ port → (p ∈ t.portDown ↔ p ∈ s.portDown)) ∧ t = { s with portDown := t.portDown })

/-- At its one poll slot in a frame a served host queue takes every record posted, in ring order and with the next numbers, and
HEAD moves to TAIL; a taken record of an ASID that is not live is refused with reason 1; the one waiting record whose cores
are free, with no store of an ended launch left (log entry 122), is loaded: its cores hold the image, halted, and a release
tick at least 2 ticks later is set; at that tick, before any of its cores has had its turn in the cycle, each of them runs.
Choices and readings of the model: refused fields (log entries 47 and 48), the round robin (53), poll slots (119), stores of
an ended launch (122). (R337, R339, R340, R341, spec/24_front_end.md) -/
def Obligations.LaunchesBegin : Prop :=
    (∀ (s : State) (q : Nat), q < 256 → s.served q = true → s.hasPolled q = false →
      let d := s.queueAt q
      let n := (d.tail - d.head).toNat
      let t := takeRecord q s
      t.taking = s.taking ++ (List.range n).map (fun k => ⟨q, d.seq + 1 + BitVec.ofNat 32 k,
        ((d.word 1).toNat + 256 * ((d.head + BitVec.ofNat 32 k).toNat % 2 ^ d.log2)) % 2 ^ 64, d.asid, false⟩) ∧
      (t.queueAt q).head = d.tail ∧ (t.queueAt q).seq = d.seq + BitVec.ofNat 32 n ∧ (t.queueAt q).tail = d.tail) ∧
    (∀ (s : State) (q : Nat), s.hasPolled q = true → takeRecord q s = s) ∧
    (∀ (s : State) (q : Nat), q < 272 →
      let u := takeRecord q s
      (∀ t, (u.taking.find? fun t => t.queue == q) = some t → t.failed = false → u.asidLive t.asid = false →
        let v := refuseRecord q t.seq 0 1 u
        let w := { v with taking := v.taking.filter (· != t) }
        w.waiting = [] → exec (.launchStart q) s = .next w) ∧
      (∀ r, (u.taking.any fun t => t.queue == q) = false → u.waiting = [r] → r.queue = q → u.saved = [] →
        (∀ n < 128, (u.coreAt n).launch = none ∧ (u.coreAt n).storesLeft = false) → exec (.launchStart q) s = .next (loadLaunch r u))) ∧
    (∀ (s u : State) (r : LaunchRec) (image : List (BitVec 8)),
      feRead (.launch r.queue r.seq) r.asid r.img.toNat r.len (r.len / 64 + 2) [] s = (.got image, u) →
      let t := loadLaunch r s
      t.waiting = u.waiting.filter (· != r) ∧
      (∃ rt, u.tick + 2 ≤ rt ∧ t.launches = u.launches ++
        [⟨r, rt, false, r.coreList.flatMap fun n => (n, false) :: (if r.armb then [(n, true)] else []), 0, []⟩]) ∧
      ∀ n < 128, (r.cores.getLsbD n = true → (t.coreAt n).imem = Memory.ofBytes image ∧ (t.coreAt n).run = .halted ∧
          (t.coreAt n).launch = some (r.queue, r.seq) ∧ (t.coreAt n).bankA.pc = 0 ∧ (t.coreAt n).spad = (u.coreAt n).spad) ∧
        (r.cores.getLsbD n = false → t.coreAt n = u.coreAt n)) ∧
    (∀ (s : State) (q : Nat) (k : BitVec 32) (l : Launch), s.launchOf (some (q, k)) = some l →
      (s.tick < l.rt → exec (.taskRelease q k) s = .next s) ∧
      (l.released = false → l.rt ≤ s.tick → (∀ n < s.coreNo, n < 128 → l.record.cores.getLsbD n = false) →
      Answers (exec (.taskRelease q k) s) fun t =>
        (∀ n < 128, l.record.cores.getLsbD n = true →
          (t.coreAt n).run = .running ∧ (t.coreAt n).released = l.rt ∧ (t.coreAt n).bankA = (s.coreAt n).bankA ∧
          ((s.coreAt n).mesh.written = [] → t.coreAt n = { s.coreAt n with
            run := .running, released := l.rt, mesh := { (s.coreAt n).mesh with frz := false } })) ∧
        (∀ n < 136, (128 ≤ n ∨ l.record.cores.getLsbD n = false) → t.coreAt n = s.coreAt n) ∧
        t.launches = s.launches.map fun m => if m.record.queue = q ∧ m.record.seq = k then { m with released := true } else m))

/-- A free HSEM is acquired, by P0 where both ports write in one cycle, and its owner releases it; the owner alone resets the
device or starts an update; a reset boots the next image, resets the registers and keeps the log, with the SRAM rows that it
mapped and the lanes that training replaced, which a power-on begins empty; a finished update sets STATUS and NEXT; fuses
follow a booted image; an attestation snapshot is taken, then reported; a function reset frees its HSEM and clears its MSI-X
table; thermal events are logged. Choices and readings of the model: what a reset keeps (log entry 11), the randomizer of a
signature (20), training results (147). (R347, R370, R371, R372, R373, R374, R375, R377, R381,
spec/27_host_security_reliability.md) -/
def Obligations.SecurityEventsAct : Prop :=
    (∀ (s : State) (port : BitVec 1),
      (s.hsem = 0 → exec (.hsemAcquire port) s = .next { s with hsem := port.setWidth 2 + 1, hsemAsk := port == 1 }) ∧
      (s.hsem ≠ 0 → port = 1 ∨ s.hsemAsk = false → exec (.hsemAcquire port) s = .next s) ∧
      (s.hsem ≠ 0 → port = 0 → s.hsemAsk = true → exec (.hsemAcquire port) s = .next { s with hsem := 1, hsemAsk := false }) ∧
      (s.ownsHsem port = true →
        exec (.hsemRelease port) s = .next { s with hsem := 0 } ∧
        exec (.deviceReset port) s = .next (resetDevice s) ∧
        (s.fw.busy = false → ∀ fuse, exec (.firmwareUpdate port fuse) s =
          .next { s with fw := { s.fw with busy := true, status := 0, askFuse := fuse, since := s.tick } })) ∧
      (s.ownsHsem port = false →
        exec (.hsemRelease port) s = .next s ∧
        exec (.deviceReset port) s = .next { s with hsemx := s.hsemx + 1 } ∧
        ∀ fuse, exec (.firmwareUpdate port fuse) s = .next { s with hsemx := s.hsemx + 1 }) ∧
      (s.hostOps = [] → s.pageWait = [] → Answers (exec (.functionLevelReset port) s) fun t =>
        t.hsem = (if s.ownsHsem port then 0 else s.hsem) ∧ t.priStopped = s.priStopped &&& ~~~(1#2 <<< port.toNat) ∧ t.core = s.core ∧ t.hbm = s.hbm ∧
        t.msix = s.msix.filter fun e => e.1 / 512 != port.toNat) ∧
      (s.attest.busy = false → Answers (exec (.attestationRequest port) s) fun t =>
        t = { s with attest := { s.attest with busy := true, status := 0, port := port, snapshot := reportBytes s, since := s.tick } }) ∧
      (s.attest.busy = true →
        (Answers (exec (.attestationReport true) s) fun t => t.attest.busy = false ∧ t.attest.status = 2 ∧ t.hostMem = s.hostMem) ∧
        Answers (exec (.attestationReport false) s) fun t => t.attest.busy = false ∧ t.attest.status = 1 ∧ ∃ r : BitVec 128,
          t.hostMem = s.hostMem.store (s.attest.dest.toNat / 64 * 64 % 2 ^ 44)
            (s.attest.snapshot ++ slhSign (identitySecret s.fw.seed) (leBytes 16 r.toNat) s.attest.snapshot))) ∧
    (∀ (s : State),
      exec .powerOnReset s = .next (resetDevice { s with log := [], logCnt := 0 }) ∧
      (s.launches = [] → s.feWrites = [] → s.log.length ≤ 4096 → imageStatus (s.fw.slot s.fw.nextSlot)
          { s.fw with staged := [], busy := false, status := 0, askFuse := false } = 1 →
        (resetDevice s).devrdy = true ∧ (resetDevice s).fw.runSlot = s.fw.nextSlot ∧ (resetDevice s).fw.recovery = false ∧
        (∃ new : List LogEntry, (resetDevice s).log = (new ++ (mapRows s).log).take 4096 ∧ ∀ e ∈ new, e.kind = 3 ∧ e.unit = 0) ∧
        (resetDevice s).hsem = 0 ∧ (resetDevice s).cycle = 0 ∧ (resetDevice s).hbm = []) ∧
      (s.fw.fuse = true → s.fw.runSlot = s.fw.nextSlot → s.fw.recovery = false → exec .firmwareUpdateFuse s =
        .next { s with fw := { s.fw with fuse := false, fusedCount := max s.fw.fusedCount s.fw.svn } }) ∧
      (s.fw.busy = true → imageStatus s.fw.staged s.fw = 1 → Answers (exec (.firmwareUpdateDone false) s) fun t =>
        t.fw.busy = false ∧ t.fw.status = 1 ∧ t.fw.nextSlot = !s.fw.runSlot ∧ t.fw.slot (!s.fw.runSlot) = s.fw.staged ∧
        t.fw.slot s.fw.runSlot = s.fw.slot s.fw.runSlot) ∧
      (s.fw.busy = true → imageStatus s.fw.staged s.fw = 1 → Answers (exec (.firmwareUpdateDone true) s) fun t =>
        t.fw.busy = false ∧ t.fw.status = 8 ∧ t.fw.nextSlot = s.fw.nextSlot ∧
        t.fw.slot s.fw.runSlot = s.fw.slot s.fw.runSlot) ∧
      (s.fw.busy = true → imageStatus s.fw.staged s.fw ≠ 1 → ∀ e, exec (.firmwareUpdateDone e) s =
        .next { s with fw := { s.fw with busy := false, status := imageStatus s.fw.staged s.fw, staged := [] } }) ∧
      (Answers (exec .thermalWarning s) fun t => t.logCnt = s.logCnt + 1 ∧ t.core = s.core ∧ ∃ e rest, t.log = e :: rest ∧ e.kind = 4) ∧
      Answers (exec .thermalTrip s) fun t => ∃ e c, e.kind = 4 ∧
        t = resetDevice { s with choices := c, log := e :: s.log.take 4095, logCnt := s.logCnt + 1 })

/-- A host access through an open window joins the accesses of its port, which go on: with none before it, a write of a control
register at its natural size acts, a read answers, another size or a misaligned address completes with Unsupported Request;
behind one that waits it stays; a closed window, an unassigned range, no bytes or too many answer Unsupported Request; bytes
written to an OPM window land in the scratchpad; a register write of 4 or 8 aligned bytes acts, behind a waiting access of its
port it joins them, any other is not accepted; a pattern test runs unless one does, ends with its saturated count, and a
waiting PTEST read then returns it. The lengths of log entry 145 are a choice of the model. (R283, R285, R367, R368, R396,
R397, spec/19_global_memory.md) -/
def Obligations.HostAccessesAct : Prop :=
    (∀ (s : State) (port : BitVec 1) (off : BitVec 36) (len : Nat) (data : Option (List (BitVec 8))),
      let w := vget s.hap port.toNat 0
      let la := (w.extractLsb' 0 10).toNat * 2 ^ 36 + off.toNat
      let n := (data.map List.length).getD len
      let most := if data.isSome then 512 else 4096
      let h : HostOp := ⟨none, port, la, n, data⟩
      let went := exec (.hostWindowAccess port off len data) s
      (w.getLsbD 63 = false ∨ rangeOf la = .unassigned ∨ n = 0 ∨ most < n → went = .next (s.send (.unsupported port))) ∧
      (w.getLsbD 63 = true → rangeOf la ≠ .unassigned → 0 < n → n ≤ most →
        went = .next (State.pumpHost { s with hostOps := s.hostOps ++ [h] }) ∧
        (∀ g t, s.hostOps = [g] → g.fromPort port = true → hostStep g { s with hostOps := [g, h] } = (false, t) →
          t.hostOps = [g, h] → went = .next t) ∧
        (rangeOf la = .control → s.hostOps = [] →
          let q : State := { s with hostOps := [h] }
          (devSizeOk la n = false → went = .next (s.send (.unsupported port))) ∧
          (∀ l, data = some l → devSizeOk la n = true → (devWrite (.host port) la l q).hostOps = [h] →
            went = .next { devWrite (.host port) la l q with hostOps := [] }) ∧
          (∀ l t, data = none → devSizeOk la n = true → devRead la n q = (some l, t) → t.hostOps = [h] →
            went = .next (State.send { t with hostOps := [] } (.hostRead port n l)))))) ∧
    (∀ (s : State) (k : BitVec 7) (off : BitVec 26) (l : List (BitVec 8)), off.toNat + l.length ≤ 0x300000 →
      Answers (exec (.opmWrite k off l) s) fun t => t.hbm = s.hbm ∧
        (t.coreAt k.toNat).spad = (s.coreAt k.toNat).spad.store off.toNat l) ∧
    (∀ (s : State) (who : Writer) (off : BitVec 46) (n : Nat) (v : BitVec 64),
      let first : Prop := ∀ port, who = .host port → s.hostOps.any (HostOp.fromPort port) = false
      (rangeOf off.toNat = .control → n = 4 ∨ n = 8 → off.toNat % n = 0 →
        (first → exec (.registerWrite who off n v) s = .next (regWrite who (off.toNat - 0x3E0000000000) n v s)) ∧
        (∀ port, who = .host port → s.hostOps.any (HostOp.fromPort port) = true → exec (.registerWrite who off n v) s = .next
          (State.pumpHost { s with hostOps := s.hostOps ++ [⟨none, port, off.toNat, n, some (leBytes n v.toNat)⟩] }))) ∧
      (rangeOf off.toNat ≠ .control ∨ (n ≠ 4 ∧ n ≠ 8) ∨ off.toNat % n ≠ 0 → exec (.registerWrite who off n v) s = .next s) ∧
      (s.fw.recovery = false → first → exec (.registerWrite who 0x3E0000210000#46 8 v) s = .next { s with xinva := v })) ∧
    (∀ (s : State) (ch : BitVec 8),
      ((s.phy ch.toNat).running = true → Answers (exec (.patternTest ch) s) fun t => ∀ k, t.phy k = s.phy k) ∧
      ((s.phy ch.toNat).running = false → Answers (exec (.patternTest ch) s) fun t =>
        t.phy ch.toNat = { s.phy ch.toNat with running := true, since := s.tick } ∧ ∀ k, k ≠ ch.toNat → t.phy k = s.phy k) ∧
      ((s.phy ch.toNat).running = true → ∀ wrong, Answers (exec (.patternTestDone ch wrong) s) fun t =>
        t.phy ch.toNat = { s.phy ch.toNat with running := false, errors := BitVec.ofNat 32 (min wrong 0xFFFFFFFF) }) ∧
      ((s.phy ch.toNat).running = false → s.fw.recovery = false → ∀ a,
        (s.bank.accesses.find? fun a => a.readsPtest s.devId ch) = some a →
        s.bank.blocked a = false → a.n = 4 →
        exec (.ptestRead ch) s = .next (s.landAccess s.core.cur a.id ((s.phy ch.toNat).errors.setWidth 128))))

/-- The oldest input from outside is taken first; with none, and an event on the agenda, the step is that event at its core,
whatever it answers, and the focus returns to the core it was on; an event that names no core of the device stops the machine.
Inputs and agenda are the order in which the model plays what happens (log entries 86 and 91), a choice of the model. (R3, R7,
R348, spec/00_scope.md) -/
def Obligations.StepTakesEvent : Prop :=
    (∀ (s : State) (i : Input) (rest : List Input), s.inputs = i :: rest →
      step s = .next (takeInput i { s with inputs := rest })) ∧
    ∀ (s : State) (n : Nat) (i : Instr) (rest : List (Nat × Instr)), s.inputs = [] → s.agenda = (n, i) :: rest →
      (n < 136 →
        (∀ t, exec i ({ s with agenda := rest }.focus n) = .next t → step s = .next (t.focus s.coreNo)) ∧
        (∀ r, exec i ({ s with agenda := rest }.focus n) = .refused r → step s = .refused r)) ∧
      (136 ≤ n → step s = .fault .noSuchCore)

/-- With no input and no event, after the bounds of waits, the schedule, dispatch and what the copy slots ask for, when a slot
whose head entry holds a well-formed instruction issues and every other slot that issues holds an idle entry: the step is exec
of the instruction with its entry in the seat, join observations before it fixed, then the idle entries, the engines and the
end of the cycle; where slots issue together, what the instruction writes to the scratchpad is written at the end of the
issue. Choices of the model: the order of cores (log entry 13), open choices (3). (R4, R23, R24, R97,
spec/03_bundle_encoding.md) -/
def Obligations.StepRunsTheInstruction : Prop :=
    ∀ (s : State) (i : Instr) (h slot : Slot) (pre post : List Slot) (e : Entry) (q : List Entry) (t : State),
      s.inputs = [] → s.agenda = [] → (beginWork s).core.run.issues = true →
      let held := (askSlots (trapIllegal (dispatch (beginWork s)))).1
      let d := (askSlots (trapIllegal (dispatch (beginWork s)))).2
      let joint : Bool := i.view.spadWrites && !(pre ++ post).isEmpty
      issueSetBut d held = pre ++ slot :: post → (∀ p ∈ pre ++ post, IdleHead d p) →
      let u := pre.foldl issueIdle
        (d.modCore fun c => { c with seen := some (c.chans, c.wins), wrote := if joint then [] else c.wrote })
      u.bank.queue slot = e :: q → e.op = some i.view → i.WellFormed → i.view.homeSlot = some h →
      exec i (((u.modBank fun b => b.setQueue slot q).seat slot e).modBank fun b => b.fixJoins e i.view) = .next t → (∀ p ∈ post, IdleHead t p) →
      let r := post.foldl issueIdle t
      let joined := if joint then r.modCore fun c => { c with
        spad := writeMasked d.core.spad t.core.wrote, spadBad := stillBad d.core.spadBad t.core.wrote } else r
      newTrap d joined = none →
        step s = .next (nextCore (afterIssue (joined.modCore fun c => { c with wrote := [] })))

/-- Where dispatch may take a bundle, after the end of a pass where one is due: a legal one appends to each queue the entry its
slot receives, decoded, with the address, repetition and stage predicates of now; the next address is taken after the last
repetition; a control transfer or wait holds dispatch; an illegal bundle is noted with its cause and nothing is queued.
Choices and readings of the model: TSLOTS of causes 0x04 to 0x06 (log entry 39), a bundle read in one step (85), a wait with a
false predicate (93). (R17, R18, R23, R25, R27, R28, R29, R37, spec/03_bundle_encoding.md) -/
def Obligations.DispatchQueuesTheBundle : Prop :=
    ∀ (s : State), mayDispatch s = true →
      let u := passEndIfDue s
      let b := u.bank
      let c := u.core
      let h := c.header b
      mayDispatch u = true →
      (∀ cause slots, illegalCause c b = some (cause, slots) →
        dispatch s = u.modBank fun b => { b with illegal := some ⟨cause, slots, b.pc, b.rep⟩ }) ∧
      (illegalCause c b = none → bodyBroken c b = true →
        dispatch s = u.modBank fun b => { b with illegal := some ⟨0x13, slotMask .s, b.pc, b.rep⟩ }) ∧
      (illegalCause c b = none → bodyBroken c b = false →
        let t := (dispatch s).bank
        let a := { b with ioS := ioAfter b.seqNext h.sync b.ioS }
        (∀ slot, t.queue slot = b.queue slot ++ [makeEntry a h slot (c.given b h slot)]) ∧ t.ioS = a.ioS ∧
        t.seqNext = b.seqNext + 1 ∧
        (b.rep = h.rpt.toNat → t.pc = b.pc + h.len ∧ t.rep = 0) ∧
        (b.rep ≠ h.rpt.toNat → t.pc = b.pc ∧ t.rep = b.rep + 1) ∧
        (∀ v, c.sOp b = some v → v.isControl = true → t.hold = .control b.seqNext) ∧
        (∀ v, c.sOp b = some v → v.isControl = false → v.isWait = true → t.hold = .wait b.seqNext) ∧
        t.x = b.x ∧ t.p = b.p ∧ t.v = b.v ∧ t.inflight = b.inflight ∧ (dispatch s).core.spad = c.spad)

/-- For every operation of every slot whose guard fails: it answers the state unchanged, and a control transfer or wait lets
dispatch go on with the next bundle; LOOP and LOOPI, which then pass their body, have their own statement. Choices of the
model: a SYNC or MWAIT with a false predicate holds dispatch until it issues (log entry 93); LOOP (94). (R20, R73,
spec/03_bundle_encoding.md) -/
def Obligations.FalsePredicateDoesNothing : Prop :=
    ∀ (i : Instr) (s : State), i.view.homeSlot.isSome = true → s.holds i.view.guard = false →
      ((i.view.isControl || i.view.isWait) = false → exec i s = .next s) ∧
      ((i.view.isControl || i.view.isWait) = true → (∀ f, i ≠ .loop f) → (∀ f, i ≠ .loopi f) →
        exec i s = .next s.fallThrough)

/-- A trap of a running core freezes it and its mesh and is noted with its bank and cycle; one of the same cycle joins it, the
first in slot order reported with the slots of both, and a later one is kept unless its entry raises it again; the record is
numbered and kept, is 64 bytes long, and TCAUSE, TBUNDLE, TSLOTS and TADDR of the trapping bank show it; a resume with an
empty buffer and nothing held back runs the core again, or drains it on. Choices and readings of the model: unstated fields
(log entry 5), the first SEQ (8), a cause imposed on a freezing core (82), BUNDLE and REP of imposed causes (98). (R96, R98,
R99, R102, R103, R104, spec/07_traps_and_switching.md) -/
def Obligations.TrapsAreTakenAndLeft : Prop :=
    (∀ (s : State) (isB : Bool) (t : Trap), s.takeTrap t = s.takeTrapIn s.core.cur t ∧
      (s.core.run = .running ∨ s.core.run = .draining → s.takeTrapIn isB t = s.modCore fun c =>
        { c with run := .freezing, trap := some t, trapBank := isB, freezeAt := s.cycle, mesh := { c.mesh with frz := true } }) ∧
      (∀ u, s.core.run = .freezing → s.core.trap = some u →
        (s.core.freezeAt ≠ s.cycle → s.takeTrapIn isB t = s.modCore fun c =>
          { c with deferred := c.deferred ++ if t.kind = .atIssue then [] else [(t, isB)] }) ∧
        (s.core.freezeAt = s.cycle → ∃ r, (s.takeTrapIn isB t).core.trap = some r ∧ r.slots = u.slots ||| t.slots ∧
          r.cause = (if t.precedes u then t.cause else u.cause) ∧ (s.takeTrapIn isB t).core.run = .freezing))) ∧
    (∀ (s : State) (t : Trap), s.core.trap = some t →
      let u := s.writeRecord
      let b := u.bankOf s.core.trapBank
      ∃ r : TrapRecord, u.core.records = s.core.records ++ [r] ∧ u.core.trapSeq = s.core.trapSeq + 1 ∧ r.trap = t ∧
        r.bankB = s.core.trapBank ∧ r.core = s.coreNo ∧ r.seq = s.core.trapSeq ∧ r.psb = s.core.psbCnt ∧
        (r.bytes s.devId).length = 64 ∧ b.tcause = (r.word0 s.devId).setWidth 64 ∧ b.tbundle = BitVec.ofNat 64 t.pc ∧
        b.tslots = t.slots.setWidth 64 ∧ b.taddr = t.addr ∧ b.x = (s.bankOf s.core.trapBank).x) ∧
    (∀ (s : State), (∀ i < 48, (vget s.core.psb i ⟨0, 0⟩).header.getLsbD 63 = false) → s.core.badEntry = none →
      s.core.deferred = [] →
      let t := s.resume
      t.core.run = (if s.bank.draining then .draining else .running) ∧ t.core.trap = none ∧ t.core.mesh.frz = false ∧
      t.core.hold = false ∧ t.bank.x = s.bank.x ∧ t.bank.v = s.bank.v ∧ t.bank.pc = s.bank.pc ∧ t.core.spad = s.core.spad)

/-- A result lands in the register it names: an x, p, m or z register takes the value; a vector register takes the lanes of the
result and keeps the others; a write of x0, p0 or m0 is discarded; every other register, and everything but the bank, is as
before; p0 reads true and m0 all ones whatever is stored. (R31, R58, R135, spec/05_sequencer_model.md,
spec/09_vector_state_streams.md) -/
def Obligations.ResultsLandInRegisters : Prop :=
    (∀ (b : Bank) (v : BitVec 4096) (l : BitVec 128) (n : Nat),
      b.writeReg ⟨.x, 0⟩ v l = b ∧ b.writeReg ⟨.p, 0⟩ v l = b ∧ b.writeReg ⟨.m, 0⟩ v l = b ∧
      (0 < n → n < 64 → b.writeReg ⟨.x, n⟩ v l = { b with x := (b.writeReg ⟨.x, n⟩ v l).x } ∧
        ∀ k < 64, vget (b.writeReg ⟨.x, n⟩ v l).x k 0 = if k = n then v.setWidth 64 else vget b.x k 0) ∧
      (0 < n → n < 16 → b.writeReg ⟨.p, n⟩ v l = { b with p := (b.writeReg ⟨.p, n⟩ v l).p } ∧
        ∀ k < 16, (b.writeReg ⟨.p, n⟩ v l).p.getLsbD k = if k = n then v.getLsbD 0 else b.p.getLsbD k) ∧
      (0 < n → n < 8 → b.writeReg ⟨.m, n⟩ v l = { b with m := (b.writeReg ⟨.m, n⟩ v l).m } ∧
        ∀ k < 8, vget (b.writeReg ⟨.m, n⟩ v l).m k 0 = if k = n then v.setWidth 128 else vget b.m k 0) ∧
      (n < 16 → b.writeReg ⟨.z, n⟩ v l = { b with z := (b.writeReg ⟨.z, n⟩ v l).z } ∧
        ∀ k < 16, vget (b.writeReg ⟨.z, n⟩ v l).z k 0 = if k = n then v.setWidth 512 else vget b.z k 0) ∧
      (n < 64 → b.writeReg ⟨.v, n⟩ v l = { b with v := (b.writeReg ⟨.v, n⟩ v l).v } ∧
        (∀ k < 64, k ≠ n → vget (b.writeReg ⟨.v, n⟩ v l).v k 0 = vget b.v k 0) ∧
        ∀ i < 128, lane (vget (b.writeReg ⟨.v, n⟩ v l).v n 0) i = if l.getLsbD i then lane v i else lane (vget b.v n 0) i)) ∧
    (∀ (s : State), s.readP 0 = true ∧ s.readM 0 = BitVec.allOnes 128 ∧ s.readX 0 = vget s.bank.x 0 0) ∧
    (∀ (c : Core) (f : InFlight), f.reg.file ≠ .sr → c.landResult f = c.setBank (c.bank.writeReg f.reg f.value f.lanes))

/-- After reset every core is halted, the stage counters, VCTL, VFLAGS and trap registers are zero, p0 and m0 hold their
constants, FMT has SGN set, memories list nothing, HSEM is free, the error log is empty, every policy is 1 and DEVRDY is
clear; zero for the x, v and z registers and memories is the choice of the model (log entries 2, 11 and 12). (R14, R58, R60,
R102, R371, spec/05_sequencer_model.md, spec/27_host_security_reliability.md) -/
def Obligations.ResetState : Prop :=
    (∀ n < 136, (State.reset.coreAt n).run = .halted ∧ (State.reset.coreAt n).trap = none ∧ (State.reset.coreAt n).psbCnt = 0 ∧
      (State.reset.coreAt n).spad = [] ∧ (State.reset.coreAt n).imem = [] ∧
      ∀ b ∈ [(State.reset.coreAt n).bankA, (State.reset.coreAt n).bankB],
        b.irc = 0 ∧ b.drc = 0 ∧ b.rotb = 0 ∧ b.loop.act = false ∧ b.vctl = 0 ∧ b.vflags = 0 ∧ b.fmt = 1 ∧ b.p = 1 ∧
        vget b.m 0 0 = BitVec.allOnes 128 ∧ b.monaddr = 0 ∧ b.tcause = 0 ∧ (∀ k < 64, vget b.x k 1 = 0) ∧
        (∀ k < 64, vget b.v k 1 = 0) ∧ (∀ k < 16, vget b.z k 1 = 0) ∧
        (∀ k < 6, vget b.rem k (some 0) = none)) ∧
    State.reset.cycle = 0 ∧ State.reset.hbm = [] ∧ State.reset.metaWords = [] ∧ State.reset.slice = [] ∧ State.reset.tlb = [] ∧
    State.reset.hsem = 0 ∧ State.reset.hsemx = 0 ∧ State.reset.devrdy = false ∧ State.reset.log = [] ∧
    (∀ c, State.reset.policyOf c = 1) ∧ (∀ q < 272, (State.reset.queueAt q).en = false) ∧ Quiet State.reset

/-- A byte written reads back and every other address reads as before; a write, a store of bytes and a store of a number keep the
canonical form; a stored number reads back, little-endian; two canonical memories that read alike are equal; masked bytes
written keep the form, and every address that they do not name reads as before. (R2, R46, spec/00_scope.md) -/
def Obligations.MemoryIsCanonical : Prop :=
    (∀ (m : Memory) (a k : Nat) (b : BitVec 8), m.wf = true →
      (m.write a b).wf = true ∧ (m.write a b).read a = b ∧ (k ≠ a → (m.write a b).read k = m.read k)) ∧
    (∀ (m : Memory) (a k : Nat) (l : List (BitVec 8)), m.wf = true →
      (m.store a l).wf = true ∧ (m.store a l).bytes a l.length = l ∧
      (k < a ∨ a + l.length ≤ k → (m.store a l).read k = m.read k)) ∧
    (∀ (m : Memory) (a n v : Nat), m.wf = true → (m.put a n v).wf = true ∧ (m.put a n v).num a n = v % 2 ^ (8 * n)) ∧
    (∀ (m o : Memory), m.wf = true → o.wf = true → (∀ a, m.read a = o.read a) → m = o) ∧
    (∀ (m : Memory) (l : List (Nat × BitVec 8 × BitVec 8)) (k : Nat), m.wf = true →
      (writeMasked m l).wf = true ∧ ((∀ p ∈ l, p.1 ≠ k) → (writeMasked m l).read k = m.read k))

/-- In every state at rest a step answers a next state, which is at rest again, one cycle later: no open choice is taken, no byte,
register, message, log entry or core has changed. (R3, R24, R51, R337, R349, spec/00_scope.md) -/
def Obligations.QuietMachineStaysQuiet : Prop :=
    ∀ (s : State), Quiet s → ∃ t, step s = .next t ∧ Quiet t ∧ t.cycle = s.cycle + 1 ∧ t.choices = s.choices ∧ t.core = s.core ∧
      t.hbm = s.hbm ∧ t.hostMem = s.hostMem ∧ t.tierMem = s.tierMem ∧ t.metaWords = s.metaWords ∧ t.sent = s.sent ∧ t.log = s.log ∧
      t.coreNo = s.coreNo ∧ ∀ n < 136, t.coreAt n = s.coreAt n
end

