-- ==== Sys2Proof/Laws/Exec.lean ====
section
/-! SUPPORT. Each arm of `exec`, as an equation: a proof about an instruction rewrites with its own and never unfolds `exec`. -/
namespace Sys2Proof.Machine

@[simp] theorem exec_add {s : State} (f): exec (.add f) s = execAdd f s := rfl
@[simp] theorem exec_sub {s : State} (f): exec (.sub f) s = execSub f s := rfl
@[simp] theorem exec_and {s : State} (f): exec (.and f) s = execAnd f s := rfl
@[simp] theorem exec_or {s : State} (f): exec (.or f) s = execOr f s := rfl
@[simp] theorem exec_xor {s : State} (f): exec (.xor f) s = execXor f s := rfl
@[simp] theorem exec_shl {s : State} (f): exec (.shl f) s = execShl f s := rfl
@[simp] theorem exec_shr {s : State} (f): exec (.shr f) s = execShr f s := rfl
@[simp] theorem exec_sha {s : State} (f): exec (.sha f) s = execSha f s := rfl
@[simp] theorem exec_mul {s : State} (f): exec (.mul f) s = execMul f s := rfl
@[simp] theorem exec_mulhs {s : State} (f): exec (.mulhs f) s = execMulhs f s := rfl
@[simp] theorem exec_mulhu {s : State} (f): exec (.mulhu f) s = execMulhu f s := rfl
@[simp] theorem exec_divs {s : State} (f): exec (.divs f) s = execDivs f s := rfl
@[simp] theorem exec_divu {s : State} (f): exec (.divu f) s = execDivu f s := rfl
@[simp] theorem exec_rems {s : State} (f): exec (.rems f) s = execRems f s := rfl
@[simp] theorem exec_remu {s : State} (f): exec (.remu f) s = execRemu f s := rfl
@[simp] theorem exec_mins {s : State} (f): exec (.mins f) s = execMins f s := rfl
@[simp] theorem exec_maxs {s : State} (f): exec (.maxs f) s = execMaxs f s := rfl
@[simp] theorem exec_minu {s : State} (f): exec (.minu f) s = execMinu f s := rfl
@[simp] theorem exec_maxu {s : State} (f): exec (.maxu f) s = execMaxu f s := rfl
@[simp] theorem exec_clz {s : State} (f): exec (.clz f) s = execClz f s := rfl
@[simp] theorem exec_popc {s : State} (f): exec (.popc f) s = execPopc f s := rfl
@[simp] theorem exec_bext {s : State} (f): exec (.bext f) s = execBext f s := rfl
@[simp] theorem exec_bdep {s : State} (f): exec (.bdep f) s = execBdep f s := rfl
@[simp] theorem exec_sel {s : State} (f): exec (.sel f) s = execSel f s := rfl
@[simp] theorem exec_addi {s : State} (f): exec (.addi f) s = execAddi f s := rfl
@[simp] theorem exec_andi {s : State} (f): exec (.andi f) s = execAndi f s := rfl
@[simp] theorem exec_ori {s : State} (f): exec (.ori f) s = execOri f s := rfl
@[simp] theorem exec_xori {s : State} (f): exec (.xori f) s = execXori f s := rfl
@[simp] theorem exec_shli {s : State} (f): exec (.shli f) s = execShli f s := rfl
@[simp] theorem exec_shri {s : State} (f): exec (.shri f) s = execShri f s := rfl
@[simp] theorem exec_shai {s : State} (f): exec (.shai f) s = execShai f s := rfl
@[simp] theorem exec_li {s : State} (f): exec (.li f) s = execLi f s := rfl
@[simp] theorem exec_lis {s : State} (f): exec (.lis f) s = execLis f s := rfl
@[simp] theorem exec_cmpEq {s : State} (f): exec (.cmpEq f) s = execCmpEq f s := rfl
@[simp] theorem exec_cmpNe {s : State} (f): exec (.cmpNe f) s = execCmpNe f s := rfl
@[simp] theorem exec_cmpLts {s : State} (f): exec (.cmpLts f) s = execCmpLts f s := rfl
@[simp] theorem exec_cmpLes {s : State} (f): exec (.cmpLes f) s = execCmpLes f s := rfl
@[simp] theorem exec_cmpLtu {s : State} (f): exec (.cmpLtu f) s = execCmpLtu f s := rfl
@[simp] theorem exec_cmpLeu {s : State} (f): exec (.cmpLeu f) s = execCmpLeu f s := rfl
@[simp] theorem exec_cmpiEq {s : State} (f): exec (.cmpiEq f) s = execCmpiEq f s := rfl
@[simp] theorem exec_cmpiNe {s : State} (f): exec (.cmpiNe f) s = execCmpiNe f s := rfl
@[simp] theorem exec_cmpiLts {s : State} (f): exec (.cmpiLts f) s = execCmpiLts f s := rfl
@[simp] theorem exec_cmpiLtu {s : State} (f): exec (.cmpiLtu f) s = execCmpiLtu f s := rfl
@[simp] theorem exec_pand {s : State} (f): exec (.pand f) s = execPand f s := rfl
@[simp] theorem exec_por {s : State} (f): exec (.por f) s = execPor f s := rfl
@[simp] theorem exec_pxor {s : State} (f): exec (.pxor f) s = execPxor f s := rfl
@[simp] theorem exec_pnot {s : State} (f): exec (.pnot f) s = execPnot f s := rfl
@[simp] theorem exec_br {s : State} (f): exec (.br f) s = execBr f s := rfl
@[simp] theorem exec_jmp {s : State} (f): exec (.jmp f) s = execJmp f s := rfl
@[simp] theorem exec_call {s : State} (f): exec (.call f) s = execCall f s := rfl
@[simp] theorem exec_ret {s : State} (f): exec (.ret f) s = execRet f s := rfl
@[simp] theorem exec_loop {s : State} (f): exec (.loop f) s = execLoop f s := rfl
@[simp] theorem exec_loopi {s : State} (f): exec (.loopi f) s = execLoopi f s := rfl
@[simp] theorem exec_lbrk {s : State} (f): exec (.lbrk f) s = execLbrk f s := rfl
@[simp] theorem exec_ppt {s : State} (f): exec (.ppt f) s = execPpt f s := rfl
@[simp] theorem exec_gets {s : State} (f): exec (.gets f) s = execGets f s := rfl
@[simp] theorem exec_sets {s : State} (f): exec (.sets f) s = execSets f s := rfl
@[simp] theorem exec_setsi {s : State} (f): exec (.setsi f) s = execSetsi f s := rfl
@[simp] theorem exec_ldgB {s : State} (f): exec (.ldgB f) s = execLdgB f s := rfl
@[simp] theorem exec_ldgH {s : State} (f): exec (.ldgH f) s = execLdgH f s := rfl
@[simp] theorem exec_ldgW {s : State} (f): exec (.ldgW f) s = execLdgW f s := rfl
@[simp] theorem exec_ldgD {s : State} (f): exec (.ldgD f) s = execLdgD f s := rfl
@[simp] theorem exec_ldgQ {s : State} (f): exec (.ldgQ f) s = execLdgQ f s := rfl
@[simp] theorem exec_stgB {s : State} (f): exec (.stgB f) s = execStgB f s := rfl
@[simp] theorem exec_stgH {s : State} (f): exec (.stgH f) s = execStgH f s := rfl
@[simp] theorem exec_stgW {s : State} (f): exec (.stgW f) s = execStgW f s := rfl
@[simp] theorem exec_stgD {s : State} (f): exec (.stgD f) s = execStgD f s := rfl
@[simp] theorem exec_stgQ {s : State} (f): exec (.stgQ f) s = execStgQ f s := rfl
@[simp] theorem exec_aadd {s : State} (f): exec (.aadd f) s = execAadd f s := rfl
@[simp] theorem exec_aand {s : State} (f): exec (.aand f) s = execAand f s := rfl
@[simp] theorem exec_aor {s : State} (f): exec (.aor f) s = execAor f s := rfl
@[simp] theorem exec_axor {s : State} (f): exec (.axor f) s = execAxor f s := rfl
@[simp] theorem exec_amins {s : State} (f): exec (.amins f) s = execAmins f s := rfl
@[simp] theorem exec_amaxs {s : State} (f): exec (.amaxs f) s = execAmaxs f s := rfl
@[simp] theorem exec_axch {s : State} (f): exec (.axch f) s = execAxch f s := rfl
@[simp] theorem exec_acas {s : State} (f): exec (.acas f) s = execAcas f s := rfl
@[simp] theorem exec_rel {s : State} (f): exec (.rel f) s = execRel f s := rfl
@[simp] theorem exec_acq {s : State} (f): exec (.acq f) s = execAcq f s := rfl
@[simp] theorem exec_drn {s : State} (f): exec (.drn f) s = execDrn f s := rfl
@[simp] theorem exec_sync {s : State} (f): exec (.sync f) s = execSync f s := rfl
@[simp] theorem exec_arrv {s : State} (f): exec (.arrv f) s = execArrv f s := rfl
@[simp] theorem exec_mon {s : State} (f): exec (.mon f) s = execMon f s := rfl
@[simp] theorem exec_mwait {s : State} (f): exec (.mwait f) s = execMwait f s := rfl
@[simp] theorem exec_waitv {s : State} (f): exec (.waitv f) s = execWaitv f s := rfl
@[simp] theorem exec_halt {s : State} (f): exec (.halt f) s = execHalt f s := rfl
@[simp] theorem exec_trap {s : State} (f): exec (.trap f) s = execTrap f s := rfl
@[simp] theorem exec_brk {s : State} (f): exec (.brk f) s = execBrk f s := rfl
@[simp] theorem exec_lnch {s : State} (f): exec (.lnch f) s = execLnch f s := rfl
@[simp] theorem exec_time {s : State} (f): exec (.time f) s = execTime f s := rfl
@[simp] theorem exec_qpoll {s : State} (f): exec (.qpoll f) s = execQpoll f s := rfl
@[simp] theorem exec_qpost {s : State} (f): exec (.qpost f) s = execQpost f s := rfl
@[simp] theorem exec_rbld {s : State} (f): exec (.rbld f) s = execRbld f s := rfl
@[simp] theorem exec_rbst {s : State} (f): exec (.rbst f) s = execRbst f s := rfl
@[simp] theorem exec_semaAcquire {s : State} (f): exec (.semaAcquire f) s = execSemaAcquire f s := rfl
@[simp] theorem exec_semaRelease {s : State} (f): exec (.semaRelease f) s = execSemaRelease f s := rfl
@[simp] theorem exec_semaQuery {s : State} (f): exec (.semaQuery f) s = execSemaQuery f s := rfl
@[simp] theorem exec_wdog {s : State} (f): exec (.wdog f) s = execWdog f s := rfl
@[simp] theorem exec_fclk {s : State} (f): exec (.fclk f) s = execFclk f s := rfl
@[simp] theorem exec_vadd {s : State} (f): exec (.vadd f) s = execVadd f s := rfl
@[simp] theorem exec_vsub {s : State} (f): exec (.vsub f) s = execVsub f s := rfl
@[simp] theorem exec_vmul {s : State} (f): exec (.vmul f) s = execVmul f s := rfl
@[simp] theorem exec_vfma {s : State} (f): exec (.vfma f) s = execVfma f s := rfl
@[simp] theorem exec_vfms {s : State} (f): exec (.vfms f) s = execVfms f s := rfl
@[simp] theorem exec_vfnma {s : State} (f): exec (.vfnma f) s = execVfnma f s := rfl
@[simp] theorem exec_vmin {s : State} (f): exec (.vmin f) s = execVmin f s := rfl
@[simp] theorem exec_vmax {s : State} (f): exec (.vmax f) s = execVmax f s := rfl
@[simp] theorem exec_vabs {s : State} (f): exec (.vabs f) s = execVabs f s := rfl
@[simp] theorem exec_vneg {s : State} (f): exec (.vneg f) s = execVneg f s := rfl
@[simp] theorem exec_vcpys {s : State} (f): exec (.vcpys f) s = execVcpys f s := rfl
@[simp] theorem exec_vdiv {s : State} (f): exec (.vdiv f) s = execVdiv f s := rfl
@[simp] theorem exec_vsqrt {s : State} (f): exec (.vsqrt f) s = execVsqrt f s := rfl
@[simp] theorem exec_vrcp {s : State} (f): exec (.vrcp f) s = execVrcp f s := rfl
@[simp] theorem exec_vrsq {s : State} (f): exec (.vrsq f) s = execVrsq f s := rfl
@[simp] theorem exec_vexp2 {s : State} (f): exec (.vexp2 f) s = execVexp2 f s := rfl
@[simp] theorem exec_vlog2 {s : State} (f): exec (.vlog2 f) s = execVlog2 f s := rfl
@[simp] theorem exec_vrint {s : State} (f): exec (.vrint f) s = execVrint f s := rfl
@[simp] theorem exec_vclass {s : State} (f): exec (.vclass f) s = execVclass f s := rfl
@[simp] theorem exec_vcmpEq {s : State} (f): exec (.vcmpEq f) s = execVcmpEq f s := rfl
@[simp] theorem exec_vcmpNe {s : State} (f): exec (.vcmpNe f) s = execVcmpNe f s := rfl
@[simp] theorem exec_vcmpLt {s : State} (f): exec (.vcmpLt f) s = execVcmpLt f s := rfl
@[simp] theorem exec_vcmpLe {s : State} (f): exec (.vcmpLe f) s = execVcmpLe f s := rfl
@[simp] theorem exec_vcmpUn {s : State} (f): exec (.vcmpUn f) s = execVcmpUn f s := rfl
@[simp] theorem exec_vcmpOd {s : State} (f): exec (.vcmpOd f) s = execVcmpOd f s := rfl
@[simp] theorem exec_vsel {s : State} (f): exec (.vsel f) s = execVsel f s := rfl
@[simp] theorem exec_viadd {s : State} (f): exec (.viadd f) s = execViadd f s := rfl
@[simp] theorem exec_visub {s : State} (f): exec (.visub f) s = execVisub f s := rfl
@[simp] theorem exec_vimul {s : State} (f): exec (.vimul f) s = execVimul f s := rfl
@[simp] theorem exec_vimulh {s : State} (f): exec (.vimulh f) s = execVimulh f s := rfl
@[simp] theorem exec_vand {s : State} (f): exec (.vand f) s = execVand f s := rfl
@[simp] theorem exec_vor {s : State} (f): exec (.vor f) s = execVor f s := rfl
@[simp] theorem exec_vxor {s : State} (f): exec (.vxor f) s = execVxor f s := rfl
@[simp] theorem exec_vnot {s : State} (f): exec (.vnot f) s = execVnot f s := rfl
@[simp] theorem exec_vshl {s : State} (f): exec (.vshl f) s = execVshl f s := rfl
@[simp] theorem exec_vshr {s : State} (f): exec (.vshr f) s = execVshr f s := rfl
@[simp] theorem exec_vsha {s : State} (f): exec (.vsha f) s = execVsha f s := rfl
@[simp] theorem exec_vimin {s : State} (f): exec (.vimin f) s = execVimin f s := rfl
@[simp] theorem exec_vimax {s : State} (f): exec (.vimax f) s = execVimax f s := rfl
@[simp] theorem exec_viminu {s : State} (f): exec (.viminu f) s = execViminu f s := rfl
@[simp] theorem exec_vimaxu {s : State} (f): exec (.vimaxu f) s = execVimaxu f s := rfl
@[simp] theorem exec_vicmpEq {s : State} (f): exec (.vicmpEq f) s = execVicmpEq f s := rfl
@[simp] theorem exec_vicmpLt {s : State} (f): exec (.vicmpLt f) s = execVicmpLt f s := rfl
@[simp] theorem exec_vicmpLtu {s : State} (f): exec (.vicmpLtu f) s = execVicmpLtu f s := rfl
@[simp] theorem exec_vcvtf {s : State} (f): exec (.vcvtf f) s = execVcvtf f s := rfl
@[simp] theorem exec_vcvti {s : State} (f): exec (.vcvti f) s = execVcvti f s := rfl
@[simp] theorem exec_vcvtif {s : State} (f): exec (.vcvtif f) s = execVcvtif f s := rfl
@[simp] theorem exec_vpack {s : State} (f): exec (.vpack f) s = execVpack f s := rfl
@[simp] theorem exec_vunpkLo {s : State} (f): exec (.vunpkLo f) s = execVunpkLo f s := rfl
@[simp] theorem exec_vunpkHi {s : State} (f): exec (.vunpkHi f) s = execVunpkHi f s := rfl
@[simp] theorem exec_vqnt {s : State} (f): exec (.vqnt f) s = execVqnt f s := rfl
@[simp] theorem exec_vdqt {s : State} (f): exec (.vdqt f) s = execVdqt f s := rfl
@[simp] theorem exec_vbsc {s : State} (f): exec (.vbsc f) s = execVbsc f s := rfl
@[simp] theorem exec_vpsd {s : State} (f): exec (.vpsd f) s = execVpsd f s := rfl
@[simp] theorem exec_vrsum {s : State} (f): exec (.vrsum f) s = execVrsum f s := rfl
@[simp] theorem exec_vrmax {s : State} (f): exec (.vrmax f) s = execVrmax f s := rfl
@[simp] theorem exec_vrmin {s : State} (f): exec (.vrmin f) s = execVrmin f s := rfl
@[simp] theorem exec_vramax {s : State} (f): exec (.vramax f) s = execVramax f s := rfl
@[simp] theorem exec_vrdot {s : State} (f): exec (.vrdot f) s = execVrdot f s := rfl
@[simp] theorem exec_vpsum {s : State} (f): exec (.vpsum f) s = execVpsum f s := rfl
@[simp] theorem exec_vshuf {s : State} (f): exec (.vshuf f) s = execVshuf f s := rfl
@[simp] theorem exec_vbcst {s : State} (f): exec (.vbcst f) s = execVbcst f s := rfl
@[simp] theorem exec_vlrot {s : State} (f): exec (.vlrot f) s = execVlrot f s := rfl
@[simp] theorem exec_vslide {s : State} (f): exec (.vslide f) s = execVslide f s := rfl
@[simp] theorem exec_vzip {s : State} (f): exec (.vzip f) s = execVzip f s := rfl
@[simp] theorem exec_vuzp {s : State} (f): exec (.vuzp f) s = execVuzp f s := rfl
@[simp] theorem exec_vrev {s : State} (f): exec (.vrev f) s = execVrev f s := rfl
@[simp] theorem exec_vcomp {s : State} (f): exec (.vcomp f) s = execVcomp f s := rfl
@[simp] theorem exec_vmvx {s : State} (f): exec (.vmvx f) s = execVmvx f s := rfl
@[simp] theorem exec_vins {s : State} (f): exec (.vins f) s = execVins f s := rfl
@[simp] theorem exec_vext {s : State} (f): exec (.vext f) s = execVext f s := rfl
@[simp] theorem exec_vmvp {s : State} (f): exec (.vmvp f) s = execVmvp f s := rfl
@[simp] theorem exec_mand {s : State} (f): exec (.mand f) s = execMand f s := rfl
@[simp] theorem exec_mor {s : State} (f): exec (.mor f) s = execMor f s := rfl
@[simp] theorem exec_mxor {s : State} (f): exec (.mxor f) s = execMxor f s := rfl
@[simp] theorem exec_mnot {s : State} (f): exec (.mnot f) s = execMnot f s := rfl
@[simp] theorem exec_mpopc {s : State} (f): exec (.mpopc f) s = execMpopc f s := rfl
@[simp] theorem exec_vld {s : State} (f): exec (.vld f) s = execVld f s := rfl
@[simp] theorem exec_vst {s : State} (f): exec (.vst f) s = execVst f s := rfl
@[simp] theorem exec_vldi {s : State} (f): exec (.vldi f) s = execVldi f s := rfl
@[simp] theorem exec_vsti {s : State} (f): exec (.vsti f) s = execVsti f s := rfl
@[simp] theorem exec_vldb {s : State} (f): exec (.vldb f) s = execVldb f s := rfl
@[simp] theorem exec_vgth {s : State} (f): exec (.vgth f) s = execVgth f s := rfl
@[simp] theorem exec_vsct {s : State} (f): exec (.vsct f) s = execVsct f s := rfl
@[simp] theorem exec_vstc {s : State} (f): exec (.vstc f) s = execVstc f s := rfl
@[simp] theorem exec_zset {s : State} (f): exec (.zset f) s = execZset f s := rfl
@[simp] theorem exec_zstep {s : State} (f): exec (.zstep f) s = execZstep f s := rfl
@[simp] theorem exec_zrst {s : State} (f): exec (.zrst f) s = execZrst f s := rfl
@[simp] theorem exec_zget {s : State} (f): exec (.zget f) s = execZget f s := rfl
@[simp] theorem exec_sfmt {s : State} (f): exec (.sfmt f) s = execSfmt f s := rfl
@[simp] theorem exec_zchk {s : State} (f): exec (.zchk f) s = execZchk f s := rfl
@[simp] theorem exec_vclamp {s : State} (f): exec (.vclamp f) s = execVclamp f s := rfl
@[simp] theorem exec_vlerp {s : State} (f): exec (.vlerp f) s = execVlerp f s := rfl
@[simp] theorem exec_vrelu {s : State} (f): exec (.vrelu f) s = execVrelu f s := rfl
@[simp] theorem exec_vexp {s : State} (f): exec (.vexp f) s = execVexp f s := rfl
@[simp] theorem exec_vln {s : State} (f): exec (.vln f) s = execVln f s := rfl
@[simp] theorem exec_vtanh {s : State} (f): exec (.vtanh f) s = execVtanh f s := rfl
@[simp] theorem exec_verf {s : State} (f): exec (.verf f) s = execVerf f s := rfl
@[simp] theorem exec_vsin {s : State} (f): exec (.vsin f) s = execVsin f s := rfl
@[simp] theorem exec_vcos {s : State} (f): exec (.vcos f) s = execVcos f s := rfl
@[simp] theorem exec_vatn2 {s : State} (f): exec (.vatn2 f) s = execVatn2 f s := rfl
@[simp] theorem exec_vturn {s : State} (f): exec (.vturn f) s = execVturn f s := rfl
@[simp] theorem exec_vtcs {s : State} (f): exec (.vtcs f) s = execVtcs f s := rfl
@[simp] theorem exec_vhyp {s : State} (f): exec (.vhyp f) s = execVhyp f s := rfl
@[simp] theorem exec_mpushRot {s : State} (f): exec (.mpushRot f) s = execMpushRot f s := rfl
@[simp] theorem exec_mpushDrv {s : State} (f): exec (.mpushDrv f) s = execMpushDrv f s := rfl
@[simp] theorem exec_mpushCxg {s : State} (f): exec (.mpushCxg f) s = execMpushCxg f s := rfl
@[simp] theorem exec_mpushFol {s : State} (f): exec (.mpushFol f) s = execMpushFol f s := rfl
@[simp] theorem exec_mpushSwp {s : State} (f): exec (.mpushSwp f) s = execMpushSwp f s := rfl
@[simp] theorem exec_mpushPas {s : State} (f): exec (.mpushPas f) s = execMpushPas f s := rfl
@[simp] theorem exec_mpushGrd {s : State} (f): exec (.mpushGrd f) s = execMpushGrd f s := rfl
@[simp] theorem exec_mlda {s : State} (f): exec (.mlda f) s = execMlda f s := rfl
@[simp] theorem exec_mldp {s : State} (f): exec (.mldp f) s = execMldp f s := rfl
@[simp] theorem exec_mpatch {s : State} (f): exec (.mpatch f) s = execMpatch f s := rfl
@[simp] theorem exec_mswap {s : State} (f): exec (.mswap f) s = execMswap f s := rfl
@[simp] theorem exec_msave {s : State} (f): exec (.msave f) s = execMsave f s := rfl
@[simp] theorem exec_mrest {s : State} (f): exec (.mrest f) s = execMrest f s := rfl
@[simp] theorem exec_mgsv {s : State} (f): exec (.mgsv f) s = execMgsv f s := rfl
@[simp] theorem exec_mscli {s : State} (f): exec (.mscli f) s = execMscli f s := rfl
@[simp] theorem exec_msclo {s : State} (f): exec (.msclo f) s = execMsclo f s := rfl
@[simp] theorem exec_mdix {s : State} (f): exec (.mdix f) s = execMdix f s := rfl
@[simp] theorem exec_mbits {s : State} (f): exec (.mbits f) s = execMbits f s := rfl
@[simp] theorem exec_mrst {s : State} (f): exec (.mrst f) s = execMrst f s := rfl
@[simp] theorem exec_mnrm {s : State} (f): exec (.mnrm f) s = execMnrm f s := rfl
@[simp] theorem exec_mstat {s : State} (f): exec (.mstat f) s = execMstat f s := rfl
@[simp] theorem exec_mfmt {s : State} (f): exec (.mfmt f) s = execMfmt f s := rfl
@[simp] theorem exec_mdrn {s : State} (f): exec (.mdrn f) s = execMdrn f s := rfl
@[simp] theorem exec_mclr {s : State} (f): exec (.mclr f) s = execMclr f s := rfl
@[simp] theorem exec_cpy {s : State} (f): exec (.cpy f) s = execCpy f s := rfl
@[simp] theorem exec_cst {s : State} (f): exec (.cst f) s = execCst f s := rfl
@[simp] theorem exec_cstz {s : State} (f): exec (.cstz f) s = execCstz f s := rfl
@[simp] theorem exec_cll {s : State} (f): exec (.cll f) s = execCll f s := rfl
@[simp] theorem exec_cxr {s : State} (f): exec (.cxr f) s = execCxr f s := rfl
@[simp] theorem exec_cxw {s : State} (f): exec (.cxw f) s = execCxw f s := rfl
@[simp] theorem exec_cfil {s : State} (f): exec (.cfil f) s = execCfil f s := rfl
@[simp] theorem exec_cpyt {s : State} (f): exec (.cpyt f) s = execCpyt f s := rfl
@[simp] theorem exec_gqin {s : State} (f): exec (.gqin f) s = execGqin f s := rfl
@[simp] theorem exec_gath {s : State} (f): exec (.gath f) s = execGath f s := rfl
@[simp] theorem exec_scat {s : State} (f): exec (.scat f) s = execScat f s := rfl
@[simp] theorem exec_wbnd {s : State} (f): exec (.wbnd f) s = execWbnd f s := rfl
@[simp] theorem exec_wadv {s : State} (f): exec (.wadv f) s = execWadv f s := rfl
@[simp] theorem exec_wrel {s : State} (f): exec (.wrel f) s = execWrel f s := rfl
@[simp] theorem exec_csch {s : State} (f): exec (.csch f) s = execCsch f s := rfl
@[simp] theorem exec_cstep {s : State} (f): exec (.cstep f) s = execCstep f s := rfl
@[simp] theorem exec_cabt {s : State} (f): exec (.cabt f) s = execCabt f s := rfl
@[simp] theorem exec_crsm {s : State} (f): exec (.crsm f) s = execCrsm f s := rfl
@[simp] theorem exec_cscan {s : State} (f): exec (.cscan f) s = execCscan f s := rfl
@[simp] theorem exec_czip {s : State} (f): exec (.czip f) s = execCzip f s := rfl
@[simp] theorem exec_cprf {s : State} (f): exec (.cprf f) s = execCprf f s := rfl
@[simp] theorem exec_cwb {s : State} (f): exec (.cwb f) s = execCwb f s := rfl
@[simp] theorem exec_cinv {s : State} (f): exec (.cinv f) s = execCinv f s := rfl
@[simp] theorem exec_cwms {s : State} (f): exec (.cwms f) s = execCwms f s := rfl
@[simp] theorem exec_cfnc {s : State} (f): exec (.cfnc f) s = execCfnc f s := rfl
@[simp] theorem exec_csig {s : State} (f): exec (.csig f) s = execCsig f s := rfl
@[simp] theorem exec_cldm {s : State} (f): exec (.cldm f) s = execCldm f s := rfl
@[simp] theorem exec_csts {s : State} (f): exec (.csts f) s = execCsts f s := rfl
@[simp] theorem exec_cpri {s : State} (f): exec (.cpri f) s = execCpri f s := rfl
@[simp] theorem exec_cdup {s : State} (f): exec (.cdup f) s = execCdup f s := rfl
@[simp] theorem exec_cmsk {s : State} (f): exec (.cmsk f) s = execCmsk f s := rfl
@[simp] theorem exec_crpl {s : State} (f): exec (.crpl f) s = execCrpl f s := rfl
@[simp] theorem exec_bundleDispatch {s : State} : exec (.bundleDispatch) s = execBundleDispatch s := rfl
@[simp] theorem exec_idleEntry {s : State} (slot): exec (.idleEntry slot) s = execIdleEntry slot s := rfl
@[simp] theorem exec_stickyReissue {s : State} (slot): exec (.stickyReissue slot) s = execStickyReissue slot s := rfl
@[simp] theorem exec_resultLand {s : State} (k): exec (.resultLand k) s = execResultLand k s := rfl
@[simp] theorem exec_trackedResultLand {s : State} (k): exec (.trackedResultLand k) s = execTrackedResultLand k s := rfl
@[simp] theorem exec_postedStorePerform {s : State} (k): exec (.postedStorePerform k) s = execPostedStorePerform k s := rfl
@[simp] theorem exec_singleStepTrap {s : State} : exec (.singleStepTrap) s = execSingleStepTrap s := rfl
@[simp] theorem exec_freezeComplete {s : State} : exec (.freezeComplete) s = execFreezeComplete s := rfl
@[simp] theorem exec_cctlResume {s : State} (core): exec (.cctlResume core) s = execCctlResume core s := rfl
@[simp] theorem exec_launchEnd {s : State} (queue) (seq): exec (.launchEnd queue seq) s = execLaunchEnd queue seq s := rfl
@[simp] theorem exec_taskParked {s : State} : exec (.taskParked) s = execTaskParked s := rfl
@[simp] theorem exec_drainBoundExpiry {s : State} : exec (.drainBoundExpiry) s = execDrainBoundExpiry s := rfl
@[simp] theorem exec_preemptionEscalation {s : State} : exec (.preemptionEscalation) s = execPreemptionEscalation s := rfl
@[simp] theorem exec_contextResume {s : State} : exec (.contextResume) s = execContextResume s := rfl
@[simp] theorem exec_bankSwitchBack {s : State} : exec (.bankSwitchBack) s = execBankSwitchBack s := rfl
@[simp] theorem exec_watchdogExpiry {s : State} : exec (.watchdogExpiry) s = execWatchdogExpiry s := rfl
@[simp] theorem exec_budgetPeriod {s : State} : exec (.budgetPeriod) s = execBudgetPeriod s := rfl
@[simp] theorem exec_budgetGraceExpiry {s : State} (resource) (cls): exec (.budgetGraceExpiry resource cls) s = execBudgetGraceExpiry resource cls s := rfl
@[simp] theorem exec_mwaitReturn {s : State} : exec (.mwaitReturn) s = execMwaitReturn s := rfl
@[simp] theorem exec_waitvReevaluation {s : State} : exec (.waitvReevaluation) s = execWaitvReevaluation s := rfl
@[simp] theorem exec_waitvTimeout {s : State} : exec (.waitvTimeout) s = execWaitvTimeout s := rfl
@[simp] theorem exec_syncArrival {s : State} : exec (.syncArrival) s = execSyncArrival s := rfl
@[simp] theorem exec_barrierArrival {s : State} (a): exec (.barrierArrival a) s = execBarrierArrival a s := rfl
@[simp] theorem exec_phaseCompletion {s : State} (level) (domid) (phase): exec (.phaseCompletion level domid phase) s = execPhaseCompletion level domid phase s := rfl
@[simp] theorem exec_barrierRootTimeout {s : State} (level): exec (.barrierRootTimeout level) s = execBarrierRootTimeout level s := rfl
@[simp] theorem exec_taskEnd {s : State} : exec (.taskEnd) s = execTaskEnd s := rfl
@[simp] theorem exec_mdrnComplete {s : State} : exec (.mdrnComplete) s = execMdrnComplete s := rfl
@[simp] theorem exec_mpushLand {s : State} : exec (.mpushLand) s = execMpushLand s := rfl
@[simp] theorem exec_planeUnitOperation {s : State} : exec (.planeUnitOperation) s = execPlaneUnitOperation s := rfl
@[simp] theorem exec_copyLandingWrite {s : State} (ch): exec (.copyLandingWrite ch) s = execCopyLandingWrite ch s := rfl
@[simp] theorem exec_fragmentReturn {s : State} (ch): exec (.fragmentReturn ch) s = execFragmentReturn ch s := rfl
@[simp] theorem exec_copyComplete {s : State} (ch): exec (.copyComplete ch) s = execCopyComplete ch s := rfl
@[simp] theorem exec_scheduleEntryRelease {s : State} : exec (.scheduleEntryRelease) s = execScheduleEntryRelease s := rfl
@[simp] theorem exec_creditGrant {s : State} (ch) (target) (rows) (rowb): exec (.creditGrant ch target rows rowb) s = execCreditGrant ch target rows rowb s := rfl
@[simp] theorem exec_remoteFlowWrite {s : State} (w) (src) (bytes): exec (.remoteFlowWrite w src bytes) s = execRemoteFlowWrite w src bytes s := rfl
@[simp] theorem exec_remoteOpmWrite {s : State} (core) (off) (bytes): exec (.remoteOpmWrite core off bytes) s = execRemoteOpmWrite core off bytes s := rfl
@[simp] theorem exec_frameReceive {s : State} (port) (frame) (fcsGood): exec (.frameReceive port frame fcsGood) s = execFrameReceive port frame fcsGood s := rfl
@[simp] theorem exec_txq {s : State} (port) (w): exec (.txq port w) s = execTxq port w s := rfl
@[simp] theorem exec_frameTransmit {s : State} (port): exec (.frameTransmit port) s = execFrameTransmit port s := rfl
@[simp] theorem exec_rds {s : State} (y) (line): exec (.rds y line) s = execRds y line s := rfl
@[simp] theorem exec_rdx {s : State} (y) (line) (full): exec (.rdx y line full) s = execRdx y line full s := rfl
@[simp] theorem exec_upg {s : State} (y) (line): exec (.upg y line) s = execUpg y line s := rfl
@[simp] theorem exec_wbd {s : State} (x) (line) (keep) (z) (poison) (data): exec (.wbd x line keep z poison data) s = execWbd x line keep z poison data s := rfl
@[simp] theorem exec_evc {s : State} (x) (line): exec (.evc x line) s = execEvc x line s := rfl
@[simp] theorem exec_inv {s : State} (line): exec (.inv line) s = execInv line s := rfl
@[simp] theorem exec_recall {s : State} (line) (keep) (fwd): exec (.recall line keep fwd) s = execRecall line keep fwd s := rfl
@[simp] theorem exec_dat {s : State} (line) (grant) (poison) (data): exec (.dat line grant poison data) s = execDat line grant poison data s := rfl
@[simp] theorem exec_cmp {s : State} (line) (grant): exec (.cmp line grant) s = execCmp line grant s := rfl
@[simp] theorem exec_ack {s : State} (x) (line) (dirty) (notHeld) (data): exec (.ack x line dirty notHeld data) s = execAck x line dirty notHeld data s := rfl
@[simp] theorem exec_homeLocalRead {s : State} (line): exec (.homeLocalRead line) s = execHomeLocalRead line s := rfl
@[simp] theorem exec_homeLocalWrite {s : State} (line): exec (.homeLocalWrite line) s = execHomeLocalWrite line s := rfl
@[simp] theorem exec_uncachedRead {s : State} (y) (line): exec (.uncachedRead y line) s = execUncachedRead y line s := rfl
@[simp] theorem exec_uncachedWrite {s : State} (y) (addr) (bytes): exec (.uncachedWrite y addr bytes) s = execUncachedWrite y addr bytes s := rfl
@[simp] theorem exec_homeSliceEvict {s : State} (line): exec (.homeSliceEvict line) s = execHomeSliceEvict line s := rfl
@[simp] theorem exec_sliceEviction {s : State} (line): exec (.sliceEviction line) s = execSliceEviction line s := rfl
@[simp] theorem exec_metadataRead {s : State} (ch): exec (.metadataRead ch) s = execMetadataRead ch s := rfl
@[simp] theorem exec_metadataRebuild {s : State} (line): exec (.metadataRebuild line) s = execMetadataRebuild line s := rfl
@[simp] theorem exec_ganderScan {s : State} (ch): exec (.ganderScan ch) s = execGanderScan ch s := rfl
@[simp] theorem exec_layerMigration {s : State} (stack): exec (.layerMigration stack) s = execLayerMigration stack s := rfl
@[simp] theorem exec_tierDemotion {s : State} (tier) (frame): exec (.tierDemotion tier frame) s = execTierDemotion tier frame s := rfl
@[simp] theorem exec_translationWalk {s : State} (k): exec (.translationWalk k) s = execTranslationWalk k s := rfl
@[simp] theorem exec_migrationRewalk {s : State} (k): exec (.migrationRewalk k) s = execMigrationRewalk k s := rfl
@[simp] theorem exec_pageResponse {s : State} (tag) (code): exec (.pageResponse tag code) s = execPageResponse tag code s := rfl
@[simp] theorem exec_faultBoundExpiry {s : State} (k): exec (.faultBoundExpiry k) s = execFaultBoundExpiry k s := rfl
@[simp] theorem exec_flitCrcError {s : State} (port): exec (.flitCrcError port) s = execFlitCrcError port s := rfl
@[simp] theorem exec_fabricTimeout {s : State} (k): exec (.fabricTimeout k) s = execFabricTimeout k s := rfl
@[simp] theorem exec_laneRetrain {s : State} (port): exec (.laneRetrain port) s = execLaneRetrain port s := rfl
@[simp] theorem exec_launchStart {s : State} (queue): exec (.launchStart queue) s = execLaunchStart queue s := rfl
@[simp] theorem exec_taskRelease {s : State} (queue) (seq): exec (.taskRelease queue seq) s = execTaskRelease queue seq s := rfl
@[simp] theorem exec_frameTick {s : State} : exec (.frameTick) s = execFrameTick s := rfl
@[simp] theorem exec_collieWatchdogExpiry {s : State} (k): exec (.collieWatchdogExpiry k) s = execCollieWatchdogExpiry k s := rfl
@[simp] theorem exec_rclaim {s : State} (die): exec (.rclaim die) s = execRclaim die s := rfl
@[simp] theorem exec_hsemAcquire {s : State} (port): exec (.hsemAcquire port) s = execHsemAcquire port s := rfl
@[simp] theorem exec_hsemRelease {s : State} (port): exec (.hsemRelease port) s = execHsemRelease port s := rfl
@[simp] theorem exec_deviceReset {s : State} (port): exec (.deviceReset port) s = execDeviceReset port s := rfl
@[simp] theorem exec_powerOnReset {s : State} : exec (.powerOnReset) s = execPowerOnReset s := rfl
@[simp] theorem exec_functionLevelReset {s : State} (port): exec (.functionLevelReset port) s = execFunctionLevelReset port s := rfl
@[simp] theorem exec_firmwareUpdate {s : State} (port) (fuse): exec (.firmwareUpdate port fuse) s = execFirmwareUpdate port fuse s := rfl
@[simp] theorem exec_firmwareUpdateFuse {s : State} : exec (.firmwareUpdateFuse) s = execFirmwareUpdateFuse s := rfl
@[simp] theorem exec_firmwareUpdateDone {s : State} (writeError): exec (.firmwareUpdateDone writeError) s = execFirmwareUpdateDone writeError s := rfl
@[simp] theorem exec_attestationRequest {s : State} (port): exec (.attestationRequest port) s = execAttestationRequest port s := rfl
@[simp] theorem exec_attestationReport {s : State} (destError): exec (.attestationReport destError) s = execAttestationReport destError s := rfl
@[simp] theorem exec_invalidateAll {s : State} : exec (.invalidateAll) s = execInvalidateAll s := rfl
@[simp] theorem exec_invalidateAsid {s : State} (asid): exec (.invalidateAsid asid) s = execInvalidateAsid asid s := rfl
@[simp] theorem exec_invalidatePage {s : State} (asid): exec (.invalidatePage asid) s = execInvalidatePage asid s := rfl
@[simp] theorem exec_invalidateTensors {s : State} (asid): exec (.invalidateTensors asid) s = execInvalidateTensors asid s := rfl
@[simp] theorem exec_invalidationDone {s : State} : exec (.invalidationDone) s = execInvalidationDone s := rfl
@[simp] theorem exec_patternTest {s : State} (ch): exec (.patternTest ch) s = execPatternTest ch s := rfl
@[simp] theorem exec_patternTestDone {s : State} (ch) (wrong): exec (.patternTestDone ch wrong) s = execPatternTestDone ch wrong s := rfl
@[simp] theorem exec_ptestRead {s : State} (ch): exec (.ptestRead ch) s = execPtestRead ch s := rfl
@[simp] theorem exec_opmWrite {s : State} (core) (off) (bytes): exec (.opmWrite core off bytes) s = execOpmWrite core off bytes s := rfl
@[simp] theorem exec_hostWindowAccess {s : State} (port) (off) (len) (data): exec (.hostWindowAccess port off len data) s = execHostWindowAccess port off len data s := rfl
@[simp] theorem exec_registerWrite {s : State} (who) (off) (size) (val): exec (.registerWrite who off size val) s = execRegisterWrite who off size val s := rfl
@[simp] theorem exec_thermalWarning {s : State} : exec (.thermalWarning) s = execThermalWarning s := rfl
@[simp] theorem exec_thermalTrip {s : State} : exec (.thermalTrip) s = execThermalTrip s := rfl
@[simp] theorem exec_completionTimeout {s : State} (k): exec (.completionTimeout k) s = execCompletionTimeout k s := rfl
@[simp] theorem exec_portLinkDown {s : State} (port): exec (.portLinkDown port) s = execPortLinkDown port s := rfl
@[simp] theorem exec_refusedWrite {s : State} (ch): exec (.refusedWrite ch) s = execRefusedWrite ch s := rfl
@[simp] theorem exec_priStoppedClear {s : State} (port): exec (.priStoppedClear port) s = execPriStoppedClear port s := rfl

end Sys2Proof.Machine
end

