-- ==== Sys2Proof/Laws/Memory.lean ====
section
/-! SUPPORT. The laws of a memory in canonical form: a write is read back and changes nothing else, and every operation that writes a
memory keeps the form. -/
namespace Sys2Proof.Machine

/-- Every address of a canonical memory's tail lies above its head. -/
theorem Memory.wf_cons {a : Nat} {b : BitVec 8} {m : Memory} :
    Memory.wf ((a, b) :: m) = true ↔ b ≠ 0 ∧ (∀ p ∈ m, a < p.1) ∧ m.wf = true := by
  induction m generalizing a b with
  | nil => simp [Memory.wf]
  | cons p m ih =>
    obtain ⟨c, d⟩ := p
    simp only [Memory.wf, Bool.and_eq_true, decide_eq_true_eq, bne_iff_ne, ne_eq, List.mem_cons, forall_eq_or_imp]
    constructor
    · rintro ⟨⟨h1, h2⟩, h3⟩
      exact ⟨h2, ⟨h1, fun p hp => lt_trans h1 ((ih.mp h3).2.1 p hp)⟩, h3⟩
    · rintro ⟨h1, ⟨h2, -⟩, h3⟩
      exact ⟨⟨h2, h1⟩, h3⟩

/-- An address below every listed one reads as 0. -/
theorem Memory.read_below {m : Memory} {a : Nat} (h : ∀ p ∈ m, a < p.1) : m.read a = 0 := by
  cases m with
  | nil => rfl
  | cons p m =>
    have : a < p.1 := h p (by simp)
    simp [Memory.read, Nat.ne_of_gt this, this]

/-- The addresses that a write lists are the old ones and its own. -/
theorem Memory.mem_write {m : Memory} {a : Nat} {b : BitVec 8} {p : Nat × BitVec 8} (h : p ∈ m.write a b) :
    p ∈ m ∨ p = (a, b) := by
  induction m with
  | nil =>
    simp only [Memory.write] at h
    split at h <;> simp_all
  | cons q m ih =>
    simp only [Memory.write] at h
    split at h
    · split at h <;> simp_all
      tauto
    · split at h
      · split at h <;> simp_all
        tauto
      · rcases List.mem_cons.mp h with h | h
        · exact .inl (by simp [h])
        · rcases ih h with h | h
          · exact .inl (List.mem_cons_of_mem _ h)
          · exact .inr h

/-- A write keeps the canonical form. -/
theorem Memory.write_wf {m : Memory} (a : Nat) (b : BitVec 8) (h : m.wf = true) : (m.write a b).wf = true := by
  induction m with
  | nil =>
    simp only [Memory.write]
    split <;> simp_all [Memory.wf]
  | cons q m ih =>
    obtain ⟨k, c⟩ := q
    obtain ⟨hc, hk, hm⟩ := Memory.wf_cons.mp h
    simp only [Memory.write]
    split
    · rename_i ha
      split
      · exact h
      · rename_i hb
        exact Memory.wf_cons.mpr ⟨hb, by
          intro p hp
          rcases List.mem_cons.mp hp with rfl | hp
          · exact ha
          · exact lt_trans ha (hk p hp), h⟩
    · split
      · rename_i hak
        split
        · exact hm
        · rename_i hb
          exact Memory.wf_cons.mpr ⟨hb, by rw [hak]; exact hk, hm⟩
      · rename_i h1 h2
        refine Memory.wf_cons.mpr ⟨hc, ?_, ih hm⟩
        intro p hp
        rcases Memory.mem_write hp with hp | rfl
        · exact hk p hp
        · show k < a
          omega

/-- A write is read back, and every other address reads as before. -/
theorem Memory.read_write {m : Memory} (a k : Nat) (b : BitVec 8) (h : m.wf = true) :
    (m.write a b).read k = if k = a then b else m.read k := by
  induction m with
  | nil =>
    simp only [Memory.write]
    split
    · rename_i hb
      simp [Memory.read, hb]
    · rcases Nat.lt_trichotomy k a with hk | hk | hk
      · simp [Memory.read, Nat.ne_of_gt hk, Nat.ne_of_lt hk]
      · simp [Memory.read, hk]
      · simp [Memory.read, Nat.ne_of_lt hk, Nat.ne_of_gt hk]
  | cons q m ih =>
    obtain ⟨j, c⟩ := q
    obtain ⟨hc, hj, hm⟩ := Memory.wf_cons.mp h
    simp only [Memory.write]
    split
    · rename_i ha
      split
      · rename_i hb
        split
        · rename_i hk
          subst hk hb
          exact Memory.read_below fun p hp => by
            rcases List.mem_cons.mp hp with rfl | hp
            · exact ha
            · exact lt_trans ha (hj p hp)
        · rfl
      · by_cases hk : k = a
        · simp [Memory.read, hk]
        · rw [if_neg hk, Memory.read, if_neg (fun e => hk e.symm)]
          split
          · rename_i hka
            rw [Memory.read, if_neg (by omega), if_pos (by omega)]
          · rfl
    · split
      · rename_i haj
        subst haj
        split
        · rename_i hb
          by_cases hk : k = a
          · rw [if_pos hk, hk, hb]
            exact Memory.read_below hj
          · rw [if_neg hk, Memory.read, if_neg (fun e => hk e.symm)]
            split
            · exact Memory.read_below fun p hp => by have := hj p hp; omega
            · rfl
        · by_cases hk : k = a
          · simp [Memory.read, hk]
          · simp [Memory.read, hk, Ne.symm hk]
      · rename_i h1 h2
        rw [Memory.read, Memory.read, ih hm]
        by_cases hk : k = a
        · rw [if_neg (by omega), if_neg (by omega)]
          simp [hk]
        · simp only [if_neg hk]

/-- Storing bytes keeps the canonical form. -/
theorem Memory.store_wf {m : Memory} (a : Nat) (l : List (BitVec 8)) (h : m.wf = true) : (m.store a l).wf = true := by
  induction l generalizing m a with
  | nil => exact h
  | cons b l ih => exact ih (a + 1) (Memory.write_wf a b h)

/-- Stored bytes read back, and every other address reads as before. -/
theorem Memory.read_store {m : Memory} (a k : Nat) (l : List (BitVec 8)) (h : m.wf = true) :
    (m.store a l).read k = if a ≤ k ∧ k < a + l.length then l.getD (k - a) 0 else m.read k := by
  induction l generalizing m a with
  | nil => exact (if_neg (by simp)).symm
  | cons b l ih =>
    rw [Memory.store, ih (a + 1) (Memory.write_wf a b h), Memory.read_write a k b h, List.length_cons]
    rcases Nat.lt_trichotomy k a with hk | rfl | hk
    · rw [if_neg (by omega), if_neg (by omega), if_neg (by omega)]
    · rw [if_neg (by omega), if_pos rfl, if_pos (by omega), Nat.sub_self, List.getD_cons_zero]
    · rw [if_neg (Nat.ne_of_gt hk), show k - a = k - (a + 1) + 1 by omega, List.getD_cons_succ]
      exact if_congr (by omega) rfl rfl

/-- Bytes read alike where every address of theirs does. -/
theorem Memory.bytes_congr {m o : Memory} (a n : Nat) (h : ∀ k, a ≤ k → k < a + n → m.read k = o.read k) :
    m.bytes a n = o.bytes a n := by
  induction n generalizing a with
  | zero => rfl
  | succ n ih => exact congrArg₂ _ (h a (by omega) (by omega)) (ih (a + 1) fun k h1 h2 => h k (by omega) (by omega))

/-- Bytes that read as a list's elements are that list. -/
theorem Memory.bytes_eq {m : Memory} (a : Nat) (l : List (BitVec 8)) (h : ∀ i < l.length, m.read (a + i) = l.getD i 0) :
    m.bytes a l.length = l := by
  induction l generalizing a with
  | nil => rfl
  | cons b l ih =>
    refine congrArg₂ _ (h 0 (by simp)) (ih (a + 1) fun i hi => ?_)
    rw [Nat.add_assoc, Nat.add_comm 1]
    exact h (i + 1) (by simp; omega)

/-- Stored bytes read back. -/
theorem Memory.bytes_store {m : Memory} (a n : Nat) (l : List (BitVec 8)) (h : m.wf = true) (hn : l.length = n) :
    (m.store a l).bytes a n = l := by
  subst hn
  refine Memory.bytes_eq a l fun i hi => ?_
  rw [Memory.read_store a (a + i) l h, if_pos (by omega), Nat.add_sub_cancel_left]

/-- A store leaves bytes that it does not touch. -/
theorem Memory.bytes_store_of_disjoint {m : Memory} (a b n : Nat) (l : List (BitVec 8)) (h : m.wf = true)
    (hd : b + n ≤ a ∨ a + l.length ≤ b) : (m.store a l).bytes b n = m.bytes b n :=
  Memory.bytes_congr b n fun k h1 h2 => by rw [Memory.read_store a k l h, if_neg (by omega)]

/-- Storing a number keeps the canonical form. -/
theorem Memory.put_wf {m : Memory} (a n v : Nat) (h : m.wf = true) : (m.put a n v).wf = true := Memory.store_wf a _ h

/-- Writing masked bytes keeps the canonical form. -/
theorem writeMasked_wf {m : Memory} (l : List (Nat × BitVec 8 × BitVec 8)) (h : m.wf = true) : (writeMasked m l).wf = true := by
  unfold writeMasked
  induction l generalizing m with
  | nil => exact h
  | cons p l ih => exact ih (Memory.write_wf _ _ h)

/-- The memories of the machine after reset are canonical. -/
theorem State.reset_memories_wf : State.reset.hbm.wf = true ∧ State.reset.tierMem.wf = true ∧ State.reset.hostMem.wf = true ∧
    State.reset.core.imem.wf = true ∧ State.reset.core.spad.wf = true := ⟨rfl, rfl, rfl, rfl, rfl⟩

/-- An element of a vector that has been set reads back; the others are as before. -/
theorem vget_vset {n : Nat} (v : Vector α n) (j k : Nat) (a d : α) :
    vget (vset v j a) k d = if k = j ∧ k < n then a else vget v k d := by
  simp only [vget, vset, Vector.getElem?_setIfInBounds]
  by_cases h : j = k
  · subst h
    by_cases hn : j < n
    · simp [hn]
    · simp [hn]
  · simp [h, Ne.symm h]

/-- A key of a sparse map that has been set reads back; the others are as before. -/
theorem Sparse.at_put (l : Sparse α) (j k : Nat) (a d : α) : Sparse.at d (Sparse.put l j a) k = if k = j then a else Sparse.at d l k := by
  induction l with
  | nil => simp [Sparse.put, Sparse.at, eq_comm]
  | cons p l ih =>
    obtain ⟨i, w⟩ := p
    simp only [Sparse.put]
    split
    · simp [Sparse.at, eq_comm]
    · split
      · rename_i h
        subst h
        by_cases hk : k = j
        · simp [Sparse.at, hk]
        · simp [Sparse.at, hk, Ne.symm hk]
      · rename_i h1 h2
        simp only [Sparse.at, ih]
        by_cases hk : k = j
        · subst hk
          rw [if_neg (fun e => h2 e.symm)]
          simp
        · simp [hk]

/-- Another key of a sparse map than the one dropped reads as before; the dropped one reads the default. -/
theorem Sparse.at_drop (l : Sparse α) (j k : Nat) (d : α) : Sparse.at d (Sparse.drop l j) k = if k = j then d else Sparse.at d l k := by
  induction l with
  | nil => simp [Sparse.drop, Sparse.at]
  | cons p l ih =>
    obtain ⟨i, w⟩ := p
    simp only [Sparse.drop, List.filter_cons] at ih ⊢
    split
    · rename_i h
      have h : i ≠ j := by simpa using h
      simp only [Sparse.at, ih]
      by_cases hk : k = j
      · subst hk
        simp [h]
      · simp [hk]
    · rename_i h
      have h : i = j := by simpa using h
      subst h
      rw [ih]
      by_cases hk : k = i
      · simp [hk]
      · simp [hk, Sparse.at, Ne.symm hk]

end Sys2Proof.Machine
end

