-- ==== Sys2Proof/Laws/Ops.lean ====
section
/-! SUPPORT. The laws of the shared operations: memories, results under way, guards, traps, the shape of a vector operation. Each
says once what its operation does; callers cite it. -/
namespace Sys2Proof.Machine

/-! ## Open choices and results -/

/-- A choice is one of its alternatives. -/
theorem State.choose_lt (s : State) (n : Nat) (h : 1 ≤ n) : (s.choose n).1 < n := by
  unfold State.choose
  split
  · omega
  · exact Nat.mod_lt _ (by omega)

/-- A choice changes nothing but the number of choices taken. -/
theorem State.choose_state (s : State) (n : Nat) : ∃ c, (s.choose n).2 = { s with choices := c } := by
  unfold State.choose
  split
  · exact ⟨s.choices, rfl⟩
  · exact ⟨s.choices + 1, rfl⟩

/-- A result put in flight is one more result under way, and nothing else changes. -/
theorem State.land_lands (s : State) (r : RegRef) (v : BitVec 4096) (l : BitVec 128) (b : Nat) (h : 1 ≤ b) :
    Lands s r v l b (s.land r v l b) := by
  obtain ⟨c, hc⟩ := s.choose_state b
  refine ⟨(s.choose b).1 + 1, c, by omega, by have := s.choose_lt b h; omega, ?_⟩
  simp only [State.land, State.landFrom]
  rw [hc]; rfl

/-- `land_lands` for an x register. -/
theorem State.landX_lands (s : State) (d : BitVec 6) (v : BitVec 64) (b : Nat) (h : 1 ≤ b) : LandsX s d v b (s.landX d v b) :=
  s.land_lands _ _ _ _ h

/-- `land_lands` for a predicate. -/
theorem State.landP_lands (s : State) (k : Nat) (v : Bool) (b : Nat) (h : 1 ≤ b) : LandsP s k v b (s.landP k v b) :=
  s.land_lands _ _ _ _ h

/-- What is tracked from now on is one more tracked operation, and nothing else changes. -/
theorem State.trackKind_tracks (s : State) (rs : List RegRef) (k : TKind) (b : Nat) (h : 1 ≤ b) :
    TracksKind s rs k b (s.trackKind rs k b) := by
  obtain ⟨c, hc⟩ := s.choose_state b
  refine ⟨(s.choose b).1 + 1, c, by omega, by have := s.choose_lt b h; omega, ?_⟩
  simp only [State.trackKind]
  rw [hc]; rfl

/-- `trackKind_tracks` for a value. -/
theorem State.track_tracks (s : State) (rs : List RegRef) (v : BitVec 512) (b : Nat) (h : 1 ≤ b) :
    Tracks s rs v b (s.track rs v b) := s.trackKind_tracks rs (.value v) b h

/-! ## Guards -/

/-- Under a true guard an operation takes its effect. -/
theorem guarded_true {g : Guard} {s : State} (f : State → State) (h : s.holds g = true) : guarded g s f = .next (f s) := by
  simp [guarded, h]

/-- Under a false guard an operation does nothing (R20). -/
theorem guarded_false {g : Guard} {s : State} (f : State → State) (h : s.holds g = false) : guarded g s f = .next s := by
  simp [guarded, h]

/-- Under a true guard a control-flow operation takes its effect. -/
theorem controlFlow_true {g : Guard} {s : State} (f : State → State) (h : s.holds g = true) :
    controlFlow g s f = .next (f s) := by
  simp [controlFlow, h]

/-- A guarded operation answers a next state. -/
theorem guarded_answers {g : Guard} {s : State} {f : State → State} {P : State → Prop} (h : s.holds g = true) (hp : P (f s)) :
    Answers (guarded g s f) P := ⟨f s, guarded_true f h, hp⟩

end Sys2Proof.Machine
end

