-- ==== Sys2Proof/Laws/PerInstr.lean ====
section
/-! SUPPORT. Statements made per instruction: a well-formed operation is read back from its payload's fields. -/
namespace Sys2Proof.Laws

/-- The fields of a well-formed operation stand for that operation. -/
def ReadsBack.Statement (i : Instr) : Prop := i.WellFormed → i.view.homeSlot.isSome = true → i.view.instr = some i

theorem ReadsBack.add (f) : ReadsBack.Statement (.add f) := fun _ _ => rfl
theorem ReadsBack.sub (f) : ReadsBack.Statement (.sub f) := fun _ _ => rfl
theorem ReadsBack.and (f) : ReadsBack.Statement (.and f) := fun _ _ => rfl
theorem ReadsBack.or (f) : ReadsBack.Statement (.or f) := fun _ _ => rfl
theorem ReadsBack.xor (f) : ReadsBack.Statement (.xor f) := fun _ _ => rfl
theorem ReadsBack.shl (f) : ReadsBack.Statement (.shl f) := fun _ _ => rfl
theorem ReadsBack.shr (f) : ReadsBack.Statement (.shr f) := fun _ _ => rfl
theorem ReadsBack.sha (f) : ReadsBack.Statement (.sha f) := fun _ _ => rfl
theorem ReadsBack.mul (f) : ReadsBack.Statement (.mul f) := fun _ _ => rfl
theorem ReadsBack.mulhs (f) : ReadsBack.Statement (.mulhs f) := fun _ _ => rfl
theorem ReadsBack.mulhu (f) : ReadsBack.Statement (.mulhu f) := fun _ _ => rfl
theorem ReadsBack.divs (f) : ReadsBack.Statement (.divs f) := fun _ _ => rfl
theorem ReadsBack.divu (f) : ReadsBack.Statement (.divu f) := fun _ _ => rfl
theorem ReadsBack.rems (f) : ReadsBack.Statement (.rems f) := fun _ _ => rfl
theorem ReadsBack.remu (f) : ReadsBack.Statement (.remu f) := fun _ _ => rfl
theorem ReadsBack.mins (f) : ReadsBack.Statement (.mins f) := fun _ _ => rfl
theorem ReadsBack.maxs (f) : ReadsBack.Statement (.maxs f) := fun _ _ => rfl
theorem ReadsBack.minu (f) : ReadsBack.Statement (.minu f) := fun _ _ => rfl
theorem ReadsBack.maxu (f) : ReadsBack.Statement (.maxu f) := fun _ _ => rfl
theorem ReadsBack.clz (f) : ReadsBack.Statement (.clz f) := fun _ _ => rfl
theorem ReadsBack.popc (f) : ReadsBack.Statement (.popc f) := fun _ _ => rfl
theorem ReadsBack.bext (f) : ReadsBack.Statement (.bext f) := fun _ _ => rfl
theorem ReadsBack.bdep (f) : ReadsBack.Statement (.bdep f) := fun _ _ => rfl
theorem ReadsBack.sel (f) : ReadsBack.Statement (.sel f) := fun _ _ => rfl
theorem ReadsBack.addi (f) : ReadsBack.Statement (.addi f) := fun _ _ => rfl
theorem ReadsBack.andi (f) : ReadsBack.Statement (.andi f) := fun _ _ => rfl
theorem ReadsBack.ori (f) : ReadsBack.Statement (.ori f) := fun _ _ => rfl
theorem ReadsBack.xori (f) : ReadsBack.Statement (.xori f) := fun _ _ => rfl
theorem ReadsBack.shli (f) : ReadsBack.Statement (.shli f) := fun _ _ => rfl
theorem ReadsBack.shri (f) : ReadsBack.Statement (.shri f) := fun _ _ => rfl
theorem ReadsBack.shai (f) : ReadsBack.Statement (.shai f) := fun _ _ => rfl
theorem ReadsBack.li (f) : ReadsBack.Statement (.li f) := fun _ _ => rfl
theorem ReadsBack.lis (f) : ReadsBack.Statement (.lis f) := fun _ _ => rfl
theorem ReadsBack.cmpEq (f) : ReadsBack.Statement (.cmpEq f) := fun _ _ => rfl
theorem ReadsBack.cmpNe (f) : ReadsBack.Statement (.cmpNe f) := fun _ _ => rfl
theorem ReadsBack.cmpLts (f) : ReadsBack.Statement (.cmpLts f) := fun _ _ => rfl
theorem ReadsBack.cmpLes (f) : ReadsBack.Statement (.cmpLes f) := fun _ _ => rfl
theorem ReadsBack.cmpLtu (f) : ReadsBack.Statement (.cmpLtu f) := fun _ _ => rfl
theorem ReadsBack.cmpLeu (f) : ReadsBack.Statement (.cmpLeu f) := fun _ _ => rfl
theorem ReadsBack.cmpiEq (f) : ReadsBack.Statement (.cmpiEq f) := fun _ _ => rfl
theorem ReadsBack.cmpiNe (f) : ReadsBack.Statement (.cmpiNe f) := fun _ _ => rfl
theorem ReadsBack.cmpiLts (f) : ReadsBack.Statement (.cmpiLts f) := fun _ _ => rfl
theorem ReadsBack.cmpiLtu (f) : ReadsBack.Statement (.cmpiLtu f) := fun _ _ => rfl
theorem ReadsBack.pand (f) : ReadsBack.Statement (.pand f) := fun _ _ => rfl
theorem ReadsBack.por (f) : ReadsBack.Statement (.por f) := fun _ _ => rfl
theorem ReadsBack.pxor (f) : ReadsBack.Statement (.pxor f) := fun _ _ => rfl
theorem ReadsBack.pnot (f) : ReadsBack.Statement (.pnot f) := fun _ _ => rfl
theorem ReadsBack.br (f) : ReadsBack.Statement (.br f) := fun _ _ => rfl
theorem ReadsBack.jmp (f) : ReadsBack.Statement (.jmp f) := fun _ _ => rfl
theorem ReadsBack.call (f) : ReadsBack.Statement (.call f) := fun _ _ => rfl
theorem ReadsBack.ret (f) : ReadsBack.Statement (.ret f) := fun _ _ => rfl
theorem ReadsBack.loop (f) : ReadsBack.Statement (.loop f) := fun _ _ => rfl
theorem ReadsBack.loopi (f) : ReadsBack.Statement (.loopi f) := fun _ _ => rfl
theorem ReadsBack.lbrk (f) : ReadsBack.Statement (.lbrk f) := fun _ _ => rfl
theorem ReadsBack.ppt (f) : ReadsBack.Statement (.ppt f) := fun _ _ => rfl
theorem ReadsBack.gets (f) : ReadsBack.Statement (.gets f) := fun _ _ => rfl
theorem ReadsBack.sets (f) : ReadsBack.Statement (.sets f) := fun _ _ => rfl
theorem ReadsBack.setsi (f) : ReadsBack.Statement (.setsi f) := fun _ _ => rfl
theorem ReadsBack.ldgB (f) : ReadsBack.Statement (.ldgB f) := fun _ _ => rfl
theorem ReadsBack.ldgH (f) : ReadsBack.Statement (.ldgH f) := fun _ _ => rfl
theorem ReadsBack.ldgW (f) : ReadsBack.Statement (.ldgW f) := fun _ _ => rfl
theorem ReadsBack.ldgD (f) : ReadsBack.Statement (.ldgD f) := fun _ _ => rfl
theorem ReadsBack.ldgQ (f) : ReadsBack.Statement (.ldgQ f) := fun _ _ => rfl
theorem ReadsBack.stgB (f) : ReadsBack.Statement (.stgB f) := fun _ _ => rfl
theorem ReadsBack.stgH (f) : ReadsBack.Statement (.stgH f) := fun _ _ => rfl
theorem ReadsBack.stgW (f) : ReadsBack.Statement (.stgW f) := fun _ _ => rfl
theorem ReadsBack.stgD (f) : ReadsBack.Statement (.stgD f) := fun _ _ => rfl
theorem ReadsBack.stgQ (f) : ReadsBack.Statement (.stgQ f) := fun _ _ => rfl
theorem ReadsBack.aadd (f) : ReadsBack.Statement (.aadd f) := fun _ _ => rfl
theorem ReadsBack.aand (f) : ReadsBack.Statement (.aand f) := fun _ _ => rfl
theorem ReadsBack.aor (f) : ReadsBack.Statement (.aor f) := fun _ _ => rfl
theorem ReadsBack.axor (f) : ReadsBack.Statement (.axor f) := fun _ _ => rfl
theorem ReadsBack.amins (f) : ReadsBack.Statement (.amins f) := fun _ _ => rfl
theorem ReadsBack.amaxs (f) : ReadsBack.Statement (.amaxs f) := fun _ _ => rfl
theorem ReadsBack.axch (f) : ReadsBack.Statement (.axch f) := fun _ _ => rfl
theorem ReadsBack.acas (f) : ReadsBack.Statement (.acas f) := fun _ _ => rfl
theorem ReadsBack.rel (f) : ReadsBack.Statement (.rel f) := fun _ _ => rfl
theorem ReadsBack.acq (f) : ReadsBack.Statement (.acq f) := fun _ _ => rfl
theorem ReadsBack.drn (f) : ReadsBack.Statement (.drn f) := fun _ _ => rfl
theorem ReadsBack.sync (f) : ReadsBack.Statement (.sync f) := fun _ _ => rfl
theorem ReadsBack.arrv (f) : ReadsBack.Statement (.arrv f) := fun _ _ => rfl
theorem ReadsBack.mon (f) : ReadsBack.Statement (.mon f) := fun _ _ => rfl
theorem ReadsBack.mwait (f) : ReadsBack.Statement (.mwait f) := fun _ _ => rfl
theorem ReadsBack.waitv (f) : ReadsBack.Statement (.waitv f) := fun _ _ => rfl
theorem ReadsBack.halt (f) : ReadsBack.Statement (.halt f) := fun _ _ => rfl
theorem ReadsBack.trap (f) : ReadsBack.Statement (.trap f) := fun _ _ => rfl
theorem ReadsBack.brk (f) : ReadsBack.Statement (.brk f) := fun _ _ => rfl
theorem ReadsBack.lnch (f) : ReadsBack.Statement (.lnch f) := fun _ _ => rfl
theorem ReadsBack.time (f) : ReadsBack.Statement (.time f) := fun _ _ => rfl
theorem ReadsBack.qpoll (f) : ReadsBack.Statement (.qpoll f) := fun _ _ => rfl
theorem ReadsBack.qpost (f) : ReadsBack.Statement (.qpost f) := fun _ _ => rfl
theorem ReadsBack.rbld (f) : ReadsBack.Statement (.rbld f) := fun _ _ => rfl
theorem ReadsBack.rbst (f) : ReadsBack.Statement (.rbst f) := fun _ _ => rfl
theorem ReadsBack.semaAcquire (f) : ReadsBack.Statement (.semaAcquire f) := fun h _ => by
  obtain ⟨g, d, a, b, sub⟩ := f
  have h' := h
  simp only [Instr.WellFormed, Instr.payloadOk, Bool.and_eq_true] at h'
  have e : sub = 0 := eq_of_beq h'.1
  cases e
  rfl
theorem ReadsBack.semaRelease (f) : ReadsBack.Statement (.semaRelease f) := fun h _ => by
  obtain ⟨g, d, a, b, sub⟩ := f
  have h' := h
  simp only [Instr.WellFormed, Instr.payloadOk, Bool.and_eq_true] at h'
  have e : sub = 1 := eq_of_beq h'.1
  cases e
  rfl
theorem ReadsBack.semaQuery (f) : ReadsBack.Statement (.semaQuery f) := fun h _ => by
  obtain ⟨g, d, a, b, sub⟩ := f
  have h' := h
  simp only [Instr.WellFormed, Instr.payloadOk, Bool.and_eq_true] at h'
  have e : sub = 2 := eq_of_beq h'.1
  cases e
  rfl
theorem ReadsBack.wdog (f) : ReadsBack.Statement (.wdog f) := fun _ _ => rfl
theorem ReadsBack.fclk (f) : ReadsBack.Statement (.fclk f) := fun _ _ => rfl
theorem ReadsBack.vadd (f) : ReadsBack.Statement (.vadd f) := fun _ _ => rfl
theorem ReadsBack.vsub (f) : ReadsBack.Statement (.vsub f) := fun _ _ => rfl
theorem ReadsBack.vmul (f) : ReadsBack.Statement (.vmul f) := fun _ _ => rfl
theorem ReadsBack.vfma (f) : ReadsBack.Statement (.vfma f) := fun _ _ => rfl
theorem ReadsBack.vfms (f) : ReadsBack.Statement (.vfms f) := fun _ _ => rfl
theorem ReadsBack.vfnma (f) : ReadsBack.Statement (.vfnma f) := fun _ _ => rfl
theorem ReadsBack.vmin (f) : ReadsBack.Statement (.vmin f) := fun _ _ => rfl
theorem ReadsBack.vmax (f) : ReadsBack.Statement (.vmax f) := fun _ _ => rfl
theorem ReadsBack.vabs (f) : ReadsBack.Statement (.vabs f) := fun _ _ => rfl
theorem ReadsBack.vneg (f) : ReadsBack.Statement (.vneg f) := fun _ _ => rfl
theorem ReadsBack.vcpys (f) : ReadsBack.Statement (.vcpys f) := fun _ _ => rfl
theorem ReadsBack.vdiv (f) : ReadsBack.Statement (.vdiv f) := fun _ _ => rfl
theorem ReadsBack.vsqrt (f) : ReadsBack.Statement (.vsqrt f) := fun _ _ => rfl
theorem ReadsBack.vrcp (f) : ReadsBack.Statement (.vrcp f) := fun _ _ => rfl
theorem ReadsBack.vrsq (f) : ReadsBack.Statement (.vrsq f) := fun _ _ => rfl
theorem ReadsBack.vexp2 (f) : ReadsBack.Statement (.vexp2 f) := fun _ _ => rfl
theorem ReadsBack.vlog2 (f) : ReadsBack.Statement (.vlog2 f) := fun _ _ => rfl
theorem ReadsBack.vrint (f) : ReadsBack.Statement (.vrint f) := fun _ _ => rfl
theorem ReadsBack.vclass (f) : ReadsBack.Statement (.vclass f) := fun _ _ => rfl
theorem ReadsBack.vcmpEq (f) : ReadsBack.Statement (.vcmpEq f) := fun _ _ => rfl
theorem ReadsBack.vcmpNe (f) : ReadsBack.Statement (.vcmpNe f) := fun _ _ => rfl
theorem ReadsBack.vcmpLt (f) : ReadsBack.Statement (.vcmpLt f) := fun _ _ => rfl
theorem ReadsBack.vcmpLe (f) : ReadsBack.Statement (.vcmpLe f) := fun _ _ => rfl
theorem ReadsBack.vcmpUn (f) : ReadsBack.Statement (.vcmpUn f) := fun _ _ => rfl
theorem ReadsBack.vcmpOd (f) : ReadsBack.Statement (.vcmpOd f) := fun _ _ => rfl
theorem ReadsBack.vsel (f) : ReadsBack.Statement (.vsel f) := fun _ _ => rfl
theorem ReadsBack.viadd (f) : ReadsBack.Statement (.viadd f) := fun _ _ => rfl
theorem ReadsBack.visub (f) : ReadsBack.Statement (.visub f) := fun _ _ => rfl
theorem ReadsBack.vimul (f) : ReadsBack.Statement (.vimul f) := fun _ _ => rfl
theorem ReadsBack.vimulh (f) : ReadsBack.Statement (.vimulh f) := fun _ _ => rfl
theorem ReadsBack.vand (f) : ReadsBack.Statement (.vand f) := fun _ _ => rfl
theorem ReadsBack.vor (f) : ReadsBack.Statement (.vor f) := fun _ _ => rfl
theorem ReadsBack.vxor (f) : ReadsBack.Statement (.vxor f) := fun _ _ => rfl
theorem ReadsBack.vnot (f) : ReadsBack.Statement (.vnot f) := fun _ _ => rfl
theorem ReadsBack.vshl (f) : ReadsBack.Statement (.vshl f) := fun _ _ => rfl
theorem ReadsBack.vshr (f) : ReadsBack.Statement (.vshr f) := fun _ _ => rfl
theorem ReadsBack.vsha (f) : ReadsBack.Statement (.vsha f) := fun _ _ => rfl
theorem ReadsBack.vimin (f) : ReadsBack.Statement (.vimin f) := fun _ _ => rfl
theorem ReadsBack.vimax (f) : ReadsBack.Statement (.vimax f) := fun _ _ => rfl
theorem ReadsBack.viminu (f) : ReadsBack.Statement (.viminu f) := fun _ _ => rfl
theorem ReadsBack.vimaxu (f) : ReadsBack.Statement (.vimaxu f) := fun _ _ => rfl
theorem ReadsBack.vicmpEq (f) : ReadsBack.Statement (.vicmpEq f) := fun _ _ => rfl
theorem ReadsBack.vicmpLt (f) : ReadsBack.Statement (.vicmpLt f) := fun _ _ => rfl
theorem ReadsBack.vicmpLtu (f) : ReadsBack.Statement (.vicmpLtu f) := fun _ _ => rfl
theorem ReadsBack.vcvtf (f) : ReadsBack.Statement (.vcvtf f) := fun _ _ => rfl
theorem ReadsBack.vcvti (f) : ReadsBack.Statement (.vcvti f) := fun _ _ => rfl
theorem ReadsBack.vcvtif (f) : ReadsBack.Statement (.vcvtif f) := fun _ _ => rfl
theorem ReadsBack.vpack (f) : ReadsBack.Statement (.vpack f) := fun _ _ => rfl
theorem ReadsBack.vunpkLo (f) : ReadsBack.Statement (.vunpkLo f) := fun _ _ => rfl
theorem ReadsBack.vunpkHi (f) : ReadsBack.Statement (.vunpkHi f) := fun _ _ => rfl
theorem ReadsBack.vqnt (f) : ReadsBack.Statement (.vqnt f) := fun _ _ => rfl
theorem ReadsBack.vdqt (f) : ReadsBack.Statement (.vdqt f) := fun _ _ => rfl
theorem ReadsBack.vbsc (f) : ReadsBack.Statement (.vbsc f) := fun _ _ => rfl
theorem ReadsBack.vpsd (f) : ReadsBack.Statement (.vpsd f) := fun _ _ => rfl
theorem ReadsBack.vrsum (f) : ReadsBack.Statement (.vrsum f) := fun _ _ => rfl
theorem ReadsBack.vrmax (f) : ReadsBack.Statement (.vrmax f) := fun _ _ => rfl
theorem ReadsBack.vrmin (f) : ReadsBack.Statement (.vrmin f) := fun _ _ => rfl
theorem ReadsBack.vramax (f) : ReadsBack.Statement (.vramax f) := fun _ _ => rfl
theorem ReadsBack.vrdot (f) : ReadsBack.Statement (.vrdot f) := fun _ _ => rfl
theorem ReadsBack.vpsum (f) : ReadsBack.Statement (.vpsum f) := fun _ _ => rfl
theorem ReadsBack.vshuf (f) : ReadsBack.Statement (.vshuf f) := fun _ _ => rfl
theorem ReadsBack.vbcst (f) : ReadsBack.Statement (.vbcst f) := fun _ _ => rfl
theorem ReadsBack.vlrot (f) : ReadsBack.Statement (.vlrot f) := fun _ _ => rfl
theorem ReadsBack.vslide (f) : ReadsBack.Statement (.vslide f) := fun _ _ => rfl
theorem ReadsBack.vzip (f) : ReadsBack.Statement (.vzip f) := fun _ _ => rfl
theorem ReadsBack.vuzp (f) : ReadsBack.Statement (.vuzp f) := fun _ _ => rfl
theorem ReadsBack.vrev (f) : ReadsBack.Statement (.vrev f) := fun _ _ => rfl
theorem ReadsBack.vcomp (f) : ReadsBack.Statement (.vcomp f) := fun _ _ => rfl
theorem ReadsBack.vmvx (f) : ReadsBack.Statement (.vmvx f) := fun _ _ => rfl
theorem ReadsBack.vins (f) : ReadsBack.Statement (.vins f) := fun _ _ => rfl
theorem ReadsBack.vext (f) : ReadsBack.Statement (.vext f) := fun _ _ => rfl
theorem ReadsBack.vmvp (f) : ReadsBack.Statement (.vmvp f) := fun _ _ => rfl
theorem ReadsBack.mand (f) : ReadsBack.Statement (.mand f) := fun _ _ => rfl
theorem ReadsBack.mor (f) : ReadsBack.Statement (.mor f) := fun _ _ => rfl
theorem ReadsBack.mxor (f) : ReadsBack.Statement (.mxor f) := fun _ _ => rfl
theorem ReadsBack.mnot (f) : ReadsBack.Statement (.mnot f) := fun _ _ => rfl
theorem ReadsBack.mpopc (f) : ReadsBack.Statement (.mpopc f) := fun _ _ => rfl
theorem ReadsBack.vld (f) : ReadsBack.Statement (.vld f) := fun _ _ => rfl
theorem ReadsBack.vst (f) : ReadsBack.Statement (.vst f) := fun _ _ => rfl
theorem ReadsBack.vldi (f) : ReadsBack.Statement (.vldi f) := fun _ _ => rfl
theorem ReadsBack.vsti (f) : ReadsBack.Statement (.vsti f) := fun _ _ => rfl
theorem ReadsBack.vldb (f) : ReadsBack.Statement (.vldb f) := fun _ _ => rfl
theorem ReadsBack.vgth (f) : ReadsBack.Statement (.vgth f) := fun _ _ => rfl
theorem ReadsBack.vsct (f) : ReadsBack.Statement (.vsct f) := fun _ _ => rfl
theorem ReadsBack.vstc (f) : ReadsBack.Statement (.vstc f) := fun _ _ => rfl
theorem ReadsBack.zset (f) : ReadsBack.Statement (.zset f) := fun _ _ => rfl
theorem ReadsBack.zstep (f) : ReadsBack.Statement (.zstep f) := fun _ _ => rfl
theorem ReadsBack.zrst (f) : ReadsBack.Statement (.zrst f) := fun _ _ => rfl
theorem ReadsBack.zget (f) : ReadsBack.Statement (.zget f) := fun _ _ => rfl
theorem ReadsBack.sfmt (f) : ReadsBack.Statement (.sfmt f) := fun _ _ => rfl
theorem ReadsBack.zchk (f) : ReadsBack.Statement (.zchk f) := fun _ _ => rfl
theorem ReadsBack.vclamp (f) : ReadsBack.Statement (.vclamp f) := fun _ _ => rfl
theorem ReadsBack.vlerp (f) : ReadsBack.Statement (.vlerp f) := fun _ _ => rfl
theorem ReadsBack.vrelu (f) : ReadsBack.Statement (.vrelu f) := fun _ _ => rfl
theorem ReadsBack.vexp (f) : ReadsBack.Statement (.vexp f) := fun _ _ => rfl
theorem ReadsBack.vln (f) : ReadsBack.Statement (.vln f) := fun _ _ => rfl
theorem ReadsBack.vtanh (f) : ReadsBack.Statement (.vtanh f) := fun _ _ => rfl
theorem ReadsBack.verf (f) : ReadsBack.Statement (.verf f) := fun _ _ => rfl
theorem ReadsBack.vsin (f) : ReadsBack.Statement (.vsin f) := fun _ _ => rfl
theorem ReadsBack.vcos (f) : ReadsBack.Statement (.vcos f) := fun _ _ => rfl
theorem ReadsBack.vatn2 (f) : ReadsBack.Statement (.vatn2 f) := fun _ _ => rfl
theorem ReadsBack.vturn (f) : ReadsBack.Statement (.vturn f) := fun _ _ => rfl
theorem ReadsBack.vtcs (f) : ReadsBack.Statement (.vtcs f) := fun _ _ => rfl
theorem ReadsBack.vhyp (f) : ReadsBack.Statement (.vhyp f) := fun _ _ => rfl
theorem ReadsBack.mpushRot (f) : ReadsBack.Statement (.mpushRot f) := fun _ _ => rfl
theorem ReadsBack.mpushDrv (f) : ReadsBack.Statement (.mpushDrv f) := fun _ _ => rfl
theorem ReadsBack.mpushCxg (f) : ReadsBack.Statement (.mpushCxg f) := fun _ _ => rfl
theorem ReadsBack.mpushFol (f) : ReadsBack.Statement (.mpushFol f) := fun _ _ => rfl
theorem ReadsBack.mpushSwp (f) : ReadsBack.Statement (.mpushSwp f) := fun _ _ => rfl
theorem ReadsBack.mpushPas (f) : ReadsBack.Statement (.mpushPas f) := fun _ _ => rfl
theorem ReadsBack.mpushGrd (f) : ReadsBack.Statement (.mpushGrd f) := fun _ _ => rfl
theorem ReadsBack.mlda (f) : ReadsBack.Statement (.mlda f) := fun _ _ => rfl
theorem ReadsBack.mldp (f) : ReadsBack.Statement (.mldp f) := fun _ _ => rfl
theorem ReadsBack.mpatch (f) : ReadsBack.Statement (.mpatch f) := fun _ _ => rfl
theorem ReadsBack.mswap (f) : ReadsBack.Statement (.mswap f) := fun _ _ => rfl
theorem ReadsBack.msave (f) : ReadsBack.Statement (.msave f) := fun _ _ => rfl
theorem ReadsBack.mrest (f) : ReadsBack.Statement (.mrest f) := fun _ _ => rfl
theorem ReadsBack.mgsv (f) : ReadsBack.Statement (.mgsv f) := fun _ _ => rfl
theorem ReadsBack.mscli (f) : ReadsBack.Statement (.mscli f) := fun _ _ => rfl
theorem ReadsBack.msclo (f) : ReadsBack.Statement (.msclo f) := fun _ _ => rfl
theorem ReadsBack.mdix (f) : ReadsBack.Statement (.mdix f) := fun _ _ => rfl
theorem ReadsBack.mbits (f) : ReadsBack.Statement (.mbits f) := fun _ _ => rfl
theorem ReadsBack.mrst (f) : ReadsBack.Statement (.mrst f) := fun _ _ => rfl
theorem ReadsBack.mnrm (f) : ReadsBack.Statement (.mnrm f) := fun _ _ => rfl
theorem ReadsBack.mstat (f) : ReadsBack.Statement (.mstat f) := fun _ _ => rfl
theorem ReadsBack.mfmt (f) : ReadsBack.Statement (.mfmt f) := fun _ _ => rfl
theorem ReadsBack.mdrn (f) : ReadsBack.Statement (.mdrn f) := fun _ _ => rfl
theorem ReadsBack.mclr (f) : ReadsBack.Statement (.mclr f) := fun _ _ => rfl
theorem ReadsBack.cpy (f) : ReadsBack.Statement (.cpy f) := fun _ _ => rfl
theorem ReadsBack.cst (f) : ReadsBack.Statement (.cst f) := fun _ _ => rfl
theorem ReadsBack.cstz (f) : ReadsBack.Statement (.cstz f) := fun _ _ => rfl
theorem ReadsBack.cll (f) : ReadsBack.Statement (.cll f) := fun _ _ => rfl
theorem ReadsBack.cxr (f) : ReadsBack.Statement (.cxr f) := fun _ _ => rfl
theorem ReadsBack.cxw (f) : ReadsBack.Statement (.cxw f) := fun _ _ => rfl
theorem ReadsBack.cfil (f) : ReadsBack.Statement (.cfil f) := fun _ _ => rfl
theorem ReadsBack.cpyt (f) : ReadsBack.Statement (.cpyt f) := fun _ _ => rfl
theorem ReadsBack.gqin (f) : ReadsBack.Statement (.gqin f) := fun _ _ => rfl
theorem ReadsBack.gath (f) : ReadsBack.Statement (.gath f) := fun _ _ => rfl
theorem ReadsBack.scat (f) : ReadsBack.Statement (.scat f) := fun _ _ => rfl
theorem ReadsBack.wbnd (f) : ReadsBack.Statement (.wbnd f) := fun _ _ => rfl
theorem ReadsBack.wadv (f) : ReadsBack.Statement (.wadv f) := fun _ _ => rfl
theorem ReadsBack.wrel (f) : ReadsBack.Statement (.wrel f) := fun _ _ => rfl
theorem ReadsBack.csch (f) : ReadsBack.Statement (.csch f) := fun _ _ => rfl
theorem ReadsBack.cstep (f) : ReadsBack.Statement (.cstep f) := fun _ _ => rfl
theorem ReadsBack.cabt (f) : ReadsBack.Statement (.cabt f) := fun _ _ => rfl
theorem ReadsBack.crsm (f) : ReadsBack.Statement (.crsm f) := fun _ _ => rfl
theorem ReadsBack.cscan (f) : ReadsBack.Statement (.cscan f) := fun _ _ => rfl
theorem ReadsBack.czip (f) : ReadsBack.Statement (.czip f) := fun _ _ => rfl
theorem ReadsBack.cprf (f) : ReadsBack.Statement (.cprf f) := fun _ _ => rfl
theorem ReadsBack.cwb (f) : ReadsBack.Statement (.cwb f) := fun _ _ => rfl
theorem ReadsBack.cinv (f) : ReadsBack.Statement (.cinv f) := fun _ _ => rfl
theorem ReadsBack.cwms (f) : ReadsBack.Statement (.cwms f) := fun _ _ => rfl
theorem ReadsBack.cfnc (f) : ReadsBack.Statement (.cfnc f) := fun _ _ => rfl
theorem ReadsBack.csig (f) : ReadsBack.Statement (.csig f) := fun _ _ => rfl
theorem ReadsBack.cldm (f) : ReadsBack.Statement (.cldm f) := fun _ _ => rfl
theorem ReadsBack.csts (f) : ReadsBack.Statement (.csts f) := fun _ _ => rfl
theorem ReadsBack.cpri (f) : ReadsBack.Statement (.cpri f) := fun _ _ => rfl
theorem ReadsBack.cdup (f) : ReadsBack.Statement (.cdup f) := fun _ _ => rfl
theorem ReadsBack.cmsk (f) : ReadsBack.Statement (.cmsk f) := fun _ _ => rfl
theorem ReadsBack.crpl (f) : ReadsBack.Statement (.crpl f) := fun _ _ => rfl
theorem ReadsBack.bundleDispatch : ReadsBack.Statement (.bundleDispatch) := fun _ h => nomatch h
theorem ReadsBack.idleEntry (slot) : ReadsBack.Statement (.idleEntry slot) := fun _ h => nomatch h
theorem ReadsBack.stickyReissue (slot) : ReadsBack.Statement (.stickyReissue slot) := fun _ h => nomatch h
theorem ReadsBack.resultLand (k) : ReadsBack.Statement (.resultLand k) := fun _ h => nomatch h
theorem ReadsBack.trackedResultLand (k) : ReadsBack.Statement (.trackedResultLand k) := fun _ h => nomatch h
theorem ReadsBack.postedStorePerform (k) : ReadsBack.Statement (.postedStorePerform k) := fun _ h => nomatch h
theorem ReadsBack.singleStepTrap : ReadsBack.Statement (.singleStepTrap) := fun _ h => nomatch h
theorem ReadsBack.freezeComplete : ReadsBack.Statement (.freezeComplete) := fun _ h => nomatch h
theorem ReadsBack.cctlResume (core) : ReadsBack.Statement (.cctlResume core) := fun _ h => nomatch h
theorem ReadsBack.launchEnd (queue) (seq) : ReadsBack.Statement (.launchEnd queue seq) := fun _ h => nomatch h
theorem ReadsBack.taskParked : ReadsBack.Statement (.taskParked) := fun _ h => nomatch h
theorem ReadsBack.drainBoundExpiry : ReadsBack.Statement (.drainBoundExpiry) := fun _ h => nomatch h
theorem ReadsBack.preemptionEscalation : ReadsBack.Statement (.preemptionEscalation) := fun _ h => nomatch h
theorem ReadsBack.contextResume : ReadsBack.Statement (.contextResume) := fun _ h => nomatch h
theorem ReadsBack.bankSwitchBack : ReadsBack.Statement (.bankSwitchBack) := fun _ h => nomatch h
theorem ReadsBack.watchdogExpiry : ReadsBack.Statement (.watchdogExpiry) := fun _ h => nomatch h
theorem ReadsBack.budgetPeriod : ReadsBack.Statement (.budgetPeriod) := fun _ h => nomatch h
theorem ReadsBack.budgetGraceExpiry (resource) (cls) : ReadsBack.Statement (.budgetGraceExpiry resource cls) := fun _ h => nomatch h
theorem ReadsBack.mwaitReturn : ReadsBack.Statement (.mwaitReturn) := fun _ h => nomatch h
theorem ReadsBack.waitvReevaluation : ReadsBack.Statement (.waitvReevaluation) := fun _ h => nomatch h
theorem ReadsBack.waitvTimeout : ReadsBack.Statement (.waitvTimeout) := fun _ h => nomatch h
theorem ReadsBack.syncArrival : ReadsBack.Statement (.syncArrival) := fun _ h => nomatch h
theorem ReadsBack.barrierArrival (a) : ReadsBack.Statement (.barrierArrival a) := fun _ h => nomatch h
theorem ReadsBack.phaseCompletion (level) (domid) (phase) : ReadsBack.Statement (.phaseCompletion level domid phase) := fun _ h => nomatch h
theorem ReadsBack.barrierRootTimeout (level) : ReadsBack.Statement (.barrierRootTimeout level) := fun _ h => nomatch h
theorem ReadsBack.taskEnd : ReadsBack.Statement (.taskEnd) := fun _ h => nomatch h
theorem ReadsBack.mdrnComplete : ReadsBack.Statement (.mdrnComplete) := fun _ h => nomatch h
theorem ReadsBack.mpushLand : ReadsBack.Statement (.mpushLand) := fun _ h => nomatch h
theorem ReadsBack.planeUnitOperation : ReadsBack.Statement (.planeUnitOperation) := fun _ h => nomatch h
theorem ReadsBack.copyLandingWrite (ch) : ReadsBack.Statement (.copyLandingWrite ch) := fun _ h => nomatch h
theorem ReadsBack.fragmentReturn (ch) : ReadsBack.Statement (.fragmentReturn ch) := fun _ h => nomatch h
theorem ReadsBack.copyComplete (ch) : ReadsBack.Statement (.copyComplete ch) := fun _ h => nomatch h
theorem ReadsBack.scheduleEntryRelease : ReadsBack.Statement (.scheduleEntryRelease) := fun _ h => nomatch h
theorem ReadsBack.creditGrant (ch) (target) (rows) (rowb) : ReadsBack.Statement (.creditGrant ch target rows rowb) := fun _ h => nomatch h
theorem ReadsBack.remoteFlowWrite (w) (src) (bytes) : ReadsBack.Statement (.remoteFlowWrite w src bytes) := fun _ h => nomatch h
theorem ReadsBack.remoteOpmWrite (core) (off) (bytes) : ReadsBack.Statement (.remoteOpmWrite core off bytes) := fun _ h => nomatch h
theorem ReadsBack.frameReceive (port) (frame) (fcsGood) : ReadsBack.Statement (.frameReceive port frame fcsGood) := fun _ h => nomatch h
theorem ReadsBack.txq (port) (w) : ReadsBack.Statement (.txq port w) := fun _ h => nomatch h
theorem ReadsBack.frameTransmit (port) : ReadsBack.Statement (.frameTransmit port) := fun _ h => nomatch h
theorem ReadsBack.rds (y) (line) : ReadsBack.Statement (.rds y line) := fun _ h => nomatch h
theorem ReadsBack.rdx (y) (line) (full) : ReadsBack.Statement (.rdx y line full) := fun _ h => nomatch h
theorem ReadsBack.upg (y) (line) : ReadsBack.Statement (.upg y line) := fun _ h => nomatch h
theorem ReadsBack.wbd (x) (line) (keep) (z) (poison) (data) : ReadsBack.Statement (.wbd x line keep z poison data) := fun _ h => nomatch h
theorem ReadsBack.evc (x) (line) : ReadsBack.Statement (.evc x line) := fun _ h => nomatch h
theorem ReadsBack.inv (line) : ReadsBack.Statement (.inv line) := fun _ h => nomatch h
theorem ReadsBack.recall (line) (keep) (fwd) : ReadsBack.Statement (.recall line keep fwd) := fun _ h => nomatch h
theorem ReadsBack.dat (line) (grant) (poison) (data) : ReadsBack.Statement (.dat line grant poison data) := fun _ h => nomatch h
theorem ReadsBack.cmp (line) (grant) : ReadsBack.Statement (.cmp line grant) := fun _ h => nomatch h
theorem ReadsBack.ack (x) (line) (dirty) (notHeld) (data) : ReadsBack.Statement (.ack x line dirty notHeld data) := fun _ h => nomatch h
theorem ReadsBack.homeLocalRead (line) : ReadsBack.Statement (.homeLocalRead line) := fun _ h => nomatch h
theorem ReadsBack.homeLocalWrite (line) : ReadsBack.Statement (.homeLocalWrite line) := fun _ h => nomatch h
theorem ReadsBack.uncachedRead (y) (line) : ReadsBack.Statement (.uncachedRead y line) := fun _ h => nomatch h
theorem ReadsBack.uncachedWrite (y) (addr) (bytes) : ReadsBack.Statement (.uncachedWrite y addr bytes) := fun _ h => nomatch h
theorem ReadsBack.homeSliceEvict (line) : ReadsBack.Statement (.homeSliceEvict line) := fun _ h => nomatch h
theorem ReadsBack.sliceEviction (line) : ReadsBack.Statement (.sliceEviction line) := fun _ h => nomatch h
theorem ReadsBack.metadataRead (ch) : ReadsBack.Statement (.metadataRead ch) := fun _ h => nomatch h
theorem ReadsBack.metadataRebuild (line) : ReadsBack.Statement (.metadataRebuild line) := fun _ h => nomatch h
theorem ReadsBack.ganderScan (ch) : ReadsBack.Statement (.ganderScan ch) := fun _ h => nomatch h
theorem ReadsBack.layerMigration (stack) : ReadsBack.Statement (.layerMigration stack) := fun _ h => nomatch h
theorem ReadsBack.tierDemotion (tier) (frame) : ReadsBack.Statement (.tierDemotion tier frame) := fun _ h => nomatch h
theorem ReadsBack.translationWalk (k) : ReadsBack.Statement (.translationWalk k) := fun _ h => nomatch h
theorem ReadsBack.migrationRewalk (k) : ReadsBack.Statement (.migrationRewalk k) := fun _ h => nomatch h
theorem ReadsBack.pageResponse (tag) (code) : ReadsBack.Statement (.pageResponse tag code) := fun _ h => nomatch h
theorem ReadsBack.faultBoundExpiry (k) : ReadsBack.Statement (.faultBoundExpiry k) := fun _ h => nomatch h
theorem ReadsBack.flitCrcError (port) : ReadsBack.Statement (.flitCrcError port) := fun _ h => nomatch h
theorem ReadsBack.fabricTimeout (k) : ReadsBack.Statement (.fabricTimeout k) := fun _ h => nomatch h
theorem ReadsBack.laneRetrain (port) : ReadsBack.Statement (.laneRetrain port) := fun _ h => nomatch h
theorem ReadsBack.launchStart (queue) : ReadsBack.Statement (.launchStart queue) := fun _ h => nomatch h
theorem ReadsBack.taskRelease (queue) (seq) : ReadsBack.Statement (.taskRelease queue seq) := fun _ h => nomatch h
theorem ReadsBack.frameTick : ReadsBack.Statement (.frameTick) := fun _ h => nomatch h
theorem ReadsBack.collieWatchdogExpiry (k) : ReadsBack.Statement (.collieWatchdogExpiry k) := fun _ h => nomatch h
theorem ReadsBack.rclaim (die) : ReadsBack.Statement (.rclaim die) := fun _ h => nomatch h
theorem ReadsBack.hsemAcquire (port) : ReadsBack.Statement (.hsemAcquire port) := fun _ h => nomatch h
theorem ReadsBack.hsemRelease (port) : ReadsBack.Statement (.hsemRelease port) := fun _ h => nomatch h
theorem ReadsBack.deviceReset (port) : ReadsBack.Statement (.deviceReset port) := fun _ h => nomatch h
theorem ReadsBack.powerOnReset : ReadsBack.Statement (.powerOnReset) := fun _ h => nomatch h
theorem ReadsBack.functionLevelReset (port) : ReadsBack.Statement (.functionLevelReset port) := fun _ h => nomatch h
theorem ReadsBack.firmwareUpdate (port) (fuse) : ReadsBack.Statement (.firmwareUpdate port fuse) := fun _ h => nomatch h
theorem ReadsBack.firmwareUpdateFuse : ReadsBack.Statement (.firmwareUpdateFuse) := fun _ h => nomatch h
theorem ReadsBack.firmwareUpdateDone (writeError) : ReadsBack.Statement (.firmwareUpdateDone writeError) := fun _ h => nomatch h
theorem ReadsBack.attestationRequest (port) : ReadsBack.Statement (.attestationRequest port) := fun _ h => nomatch h
theorem ReadsBack.attestationReport (destError) : ReadsBack.Statement (.attestationReport destError) := fun _ h => nomatch h
theorem ReadsBack.invalidateAll : ReadsBack.Statement (.invalidateAll) := fun _ h => nomatch h
theorem ReadsBack.invalidateAsid (asid) : ReadsBack.Statement (.invalidateAsid asid) := fun _ h => nomatch h
theorem ReadsBack.invalidatePage (asid) : ReadsBack.Statement (.invalidatePage asid) := fun _ h => nomatch h
theorem ReadsBack.invalidateTensors (asid) : ReadsBack.Statement (.invalidateTensors asid) := fun _ h => nomatch h
theorem ReadsBack.invalidationDone : ReadsBack.Statement (.invalidationDone) := fun _ h => nomatch h
theorem ReadsBack.patternTest (ch) : ReadsBack.Statement (.patternTest ch) := fun _ h => nomatch h
theorem ReadsBack.patternTestDone (ch) (wrong) : ReadsBack.Statement (.patternTestDone ch wrong) := fun _ h => nomatch h
theorem ReadsBack.ptestRead (ch) : ReadsBack.Statement (.ptestRead ch) := fun _ h => nomatch h
theorem ReadsBack.opmWrite (core) (off) (bytes) : ReadsBack.Statement (.opmWrite core off bytes) := fun _ h => nomatch h
theorem ReadsBack.hostWindowAccess (port) (off) (len) (data) : ReadsBack.Statement (.hostWindowAccess port off len data) := fun _ h => nomatch h
theorem ReadsBack.registerWrite (who) (off) (size) (val) : ReadsBack.Statement (.registerWrite who off size val) := fun _ h => nomatch h
theorem ReadsBack.thermalWarning : ReadsBack.Statement (.thermalWarning) := fun _ h => nomatch h
theorem ReadsBack.thermalTrip : ReadsBack.Statement (.thermalTrip) := fun _ h => nomatch h
theorem ReadsBack.completionTimeout (k) : ReadsBack.Statement (.completionTimeout k) := fun _ h => nomatch h
theorem ReadsBack.portLinkDown (port) : ReadsBack.Statement (.portLinkDown port) := fun _ h => nomatch h
theorem ReadsBack.refusedWrite (ch) : ReadsBack.Statement (.refusedWrite ch) := fun _ h => nomatch h
theorem ReadsBack.priStoppedClear (port) : ReadsBack.Statement (.priStoppedClear port) := fun _ h => nomatch h

end Sys2Proof.Laws
end

