-- ==== Sys2Proof/Laws/Run.lean ====
section
/-! SUPPORT. The machine runs on decoded payloads: to run the fields of a well-formed operation is `exec` of it. -/
namespace Sys2Proof.Machine

theorem runView_add {s : State} (f) : runView (Instr.view (.add f)) s = exec (.add f) s := rfl
theorem runView_sub {s : State} (f) : runView (Instr.view (.sub f)) s = exec (.sub f) s := rfl
theorem runView_and {s : State} (f) : runView (Instr.view (.and f)) s = exec (.and f) s := rfl
theorem runView_or {s : State} (f) : runView (Instr.view (.or f)) s = exec (.or f) s := rfl
theorem runView_xor {s : State} (f) : runView (Instr.view (.xor f)) s = exec (.xor f) s := rfl
theorem runView_shl {s : State} (f) : runView (Instr.view (.shl f)) s = exec (.shl f) s := rfl
theorem runView_shr {s : State} (f) : runView (Instr.view (.shr f)) s = exec (.shr f) s := rfl
theorem runView_sha {s : State} (f) : runView (Instr.view (.sha f)) s = exec (.sha f) s := rfl
theorem runView_mul {s : State} (f) : runView (Instr.view (.mul f)) s = exec (.mul f) s := rfl
theorem runView_mulhs {s : State} (f) : runView (Instr.view (.mulhs f)) s = exec (.mulhs f) s := rfl
theorem runView_mulhu {s : State} (f) : runView (Instr.view (.mulhu f)) s = exec (.mulhu f) s := rfl
theorem runView_divs {s : State} (f) : runView (Instr.view (.divs f)) s = exec (.divs f) s := rfl
theorem runView_divu {s : State} (f) : runView (Instr.view (.divu f)) s = exec (.divu f) s := rfl
theorem runView_rems {s : State} (f) : runView (Instr.view (.rems f)) s = exec (.rems f) s := rfl
theorem runView_remu {s : State} (f) : runView (Instr.view (.remu f)) s = exec (.remu f) s := rfl
theorem runView_mins {s : State} (f) : runView (Instr.view (.mins f)) s = exec (.mins f) s := rfl
theorem runView_maxs {s : State} (f) : runView (Instr.view (.maxs f)) s = exec (.maxs f) s := rfl
theorem runView_minu {s : State} (f) : runView (Instr.view (.minu f)) s = exec (.minu f) s := rfl
theorem runView_maxu {s : State} (f) : runView (Instr.view (.maxu f)) s = exec (.maxu f) s := rfl
theorem runView_clz {s : State} (f) : runView (Instr.view (.clz f)) s = exec (.clz f) s := rfl
theorem runView_popc {s : State} (f) : runView (Instr.view (.popc f)) s = exec (.popc f) s := rfl
theorem runView_bext {s : State} (f) : runView (Instr.view (.bext f)) s = exec (.bext f) s := rfl
theorem runView_bdep {s : State} (f) : runView (Instr.view (.bdep f)) s = exec (.bdep f) s := rfl
theorem runView_sel {s : State} (f) : runView (Instr.view (.sel f)) s = exec (.sel f) s := rfl
theorem runView_addi {s : State} (f) : runView (Instr.view (.addi f)) s = exec (.addi f) s := rfl
theorem runView_andi {s : State} (f) : runView (Instr.view (.andi f)) s = exec (.andi f) s := rfl
theorem runView_ori {s : State} (f) : runView (Instr.view (.ori f)) s = exec (.ori f) s := rfl
theorem runView_xori {s : State} (f) : runView (Instr.view (.xori f)) s = exec (.xori f) s := rfl
theorem runView_shli {s : State} (f) : runView (Instr.view (.shli f)) s = exec (.shli f) s := rfl
theorem runView_shri {s : State} (f) : runView (Instr.view (.shri f)) s = exec (.shri f) s := rfl
theorem runView_shai {s : State} (f) : runView (Instr.view (.shai f)) s = exec (.shai f) s := rfl
theorem runView_li {s : State} (f) : runView (Instr.view (.li f)) s = exec (.li f) s := rfl
theorem runView_lis {s : State} (f) : runView (Instr.view (.lis f)) s = exec (.lis f) s := rfl
theorem runView_cmpEq {s : State} (f) : runView (Instr.view (.cmpEq f)) s = exec (.cmpEq f) s := rfl
theorem runView_cmpNe {s : State} (f) : runView (Instr.view (.cmpNe f)) s = exec (.cmpNe f) s := rfl
theorem runView_cmpLts {s : State} (f) : runView (Instr.view (.cmpLts f)) s = exec (.cmpLts f) s := rfl
theorem runView_cmpLes {s : State} (f) : runView (Instr.view (.cmpLes f)) s = exec (.cmpLes f) s := rfl
theorem runView_cmpLtu {s : State} (f) : runView (Instr.view (.cmpLtu f)) s = exec (.cmpLtu f) s := rfl
theorem runView_cmpLeu {s : State} (f) : runView (Instr.view (.cmpLeu f)) s = exec (.cmpLeu f) s := rfl
theorem runView_cmpiEq {s : State} (f) : runView (Instr.view (.cmpiEq f)) s = exec (.cmpiEq f) s := rfl
theorem runView_cmpiNe {s : State} (f) : runView (Instr.view (.cmpiNe f)) s = exec (.cmpiNe f) s := rfl
theorem runView_cmpiLts {s : State} (f) : runView (Instr.view (.cmpiLts f)) s = exec (.cmpiLts f) s := rfl
theorem runView_cmpiLtu {s : State} (f) : runView (Instr.view (.cmpiLtu f)) s = exec (.cmpiLtu f) s := rfl
theorem runView_pand {s : State} (f) : runView (Instr.view (.pand f)) s = exec (.pand f) s := rfl
theorem runView_por {s : State} (f) : runView (Instr.view (.por f)) s = exec (.por f) s := rfl
theorem runView_pxor {s : State} (f) : runView (Instr.view (.pxor f)) s = exec (.pxor f) s := rfl
theorem runView_pnot {s : State} (f) : runView (Instr.view (.pnot f)) s = exec (.pnot f) s := rfl
theorem runView_br {s : State} (f) : runView (Instr.view (.br f)) s = exec (.br f) s := rfl
theorem runView_jmp {s : State} (f) : runView (Instr.view (.jmp f)) s = exec (.jmp f) s := rfl
theorem runView_call {s : State} (f) : runView (Instr.view (.call f)) s = exec (.call f) s := rfl
theorem runView_ret {s : State} (f) : runView (Instr.view (.ret f)) s = exec (.ret f) s := rfl
theorem runView_loop {s : State} (f) : runView (Instr.view (.loop f)) s = exec (.loop f) s := rfl
theorem runView_loopi {s : State} (f) : runView (Instr.view (.loopi f)) s = exec (.loopi f) s := rfl
theorem runView_lbrk {s : State} (f) : runView (Instr.view (.lbrk f)) s = exec (.lbrk f) s := rfl
theorem runView_ppt {s : State} (f) : runView (Instr.view (.ppt f)) s = exec (.ppt f) s := rfl
theorem runView_gets {s : State} (f) : runView (Instr.view (.gets f)) s = exec (.gets f) s := rfl
theorem runView_sets {s : State} (f) : runView (Instr.view (.sets f)) s = exec (.sets f) s := rfl
theorem runView_setsi {s : State} (f) : runView (Instr.view (.setsi f)) s = exec (.setsi f) s := rfl
theorem runView_ldgB {s : State} (f) : runView (Instr.view (.ldgB f)) s = exec (.ldgB f) s := rfl
theorem runView_ldgH {s : State} (f) : runView (Instr.view (.ldgH f)) s = exec (.ldgH f) s := rfl
theorem runView_ldgW {s : State} (f) : runView (Instr.view (.ldgW f)) s = exec (.ldgW f) s := rfl
theorem runView_ldgD {s : State} (f) : runView (Instr.view (.ldgD f)) s = exec (.ldgD f) s := rfl
theorem runView_ldgQ {s : State} (f) : runView (Instr.view (.ldgQ f)) s = exec (.ldgQ f) s := rfl
theorem runView_stgB {s : State} (f) : runView (Instr.view (.stgB f)) s = exec (.stgB f) s := rfl
theorem runView_stgH {s : State} (f) : runView (Instr.view (.stgH f)) s = exec (.stgH f) s := rfl
theorem runView_stgW {s : State} (f) : runView (Instr.view (.stgW f)) s = exec (.stgW f) s := rfl
theorem runView_stgD {s : State} (f) : runView (Instr.view (.stgD f)) s = exec (.stgD f) s := rfl
theorem runView_stgQ {s : State} (f) : runView (Instr.view (.stgQ f)) s = exec (.stgQ f) s := rfl
theorem runView_aadd {s : State} (f) : runView (Instr.view (.aadd f)) s = exec (.aadd f) s := rfl
theorem runView_aand {s : State} (f) : runView (Instr.view (.aand f)) s = exec (.aand f) s := rfl
theorem runView_aor {s : State} (f) : runView (Instr.view (.aor f)) s = exec (.aor f) s := rfl
theorem runView_axor {s : State} (f) : runView (Instr.view (.axor f)) s = exec (.axor f) s := rfl
theorem runView_amins {s : State} (f) : runView (Instr.view (.amins f)) s = exec (.amins f) s := rfl
theorem runView_amaxs {s : State} (f) : runView (Instr.view (.amaxs f)) s = exec (.amaxs f) s := rfl
theorem runView_axch {s : State} (f) : runView (Instr.view (.axch f)) s = exec (.axch f) s := rfl
theorem runView_acas {s : State} (f) : runView (Instr.view (.acas f)) s = exec (.acas f) s := rfl
theorem runView_rel {s : State} (f) : runView (Instr.view (.rel f)) s = exec (.rel f) s := rfl
theorem runView_acq {s : State} (f) : runView (Instr.view (.acq f)) s = exec (.acq f) s := rfl
theorem runView_drn {s : State} (f) : runView (Instr.view (.drn f)) s = exec (.drn f) s := rfl
theorem runView_sync {s : State} (f) : runView (Instr.view (.sync f)) s = exec (.sync f) s := rfl
theorem runView_arrv {s : State} (f) : runView (Instr.view (.arrv f)) s = exec (.arrv f) s := rfl
theorem runView_mon {s : State} (f) : runView (Instr.view (.mon f)) s = exec (.mon f) s := rfl
theorem runView_mwait {s : State} (f) : runView (Instr.view (.mwait f)) s = exec (.mwait f) s := rfl
theorem runView_waitv {s : State} (f) : runView (Instr.view (.waitv f)) s = exec (.waitv f) s := rfl
theorem runView_halt {s : State} (f) : runView (Instr.view (.halt f)) s = exec (.halt f) s := rfl
theorem runView_trap {s : State} (f) : runView (Instr.view (.trap f)) s = exec (.trap f) s := rfl
theorem runView_brk {s : State} (f) : runView (Instr.view (.brk f)) s = exec (.brk f) s := rfl
theorem runView_lnch {s : State} (f) : runView (Instr.view (.lnch f)) s = exec (.lnch f) s := rfl
theorem runView_time {s : State} (f) : runView (Instr.view (.time f)) s = exec (.time f) s := rfl
theorem runView_qpoll {s : State} (f) : runView (Instr.view (.qpoll f)) s = exec (.qpoll f) s := rfl
theorem runView_qpost {s : State} (f) : runView (Instr.view (.qpost f)) s = exec (.qpost f) s := rfl
theorem runView_rbld {s : State} (f) : runView (Instr.view (.rbld f)) s = exec (.rbld f) s := rfl
theorem runView_rbst {s : State} (f) : runView (Instr.view (.rbst f)) s = exec (.rbst f) s := rfl
theorem runView_semaAcquire {s : State} (f) (h : Instr.WellFormed (.semaAcquire f)) : runView (Instr.view (.semaAcquire f)) s = exec (.semaAcquire f) s := by
  obtain ⟨g, d, a, b, sub⟩ := f
  have h' := h
  simp only [Instr.WellFormed, Instr.payloadOk, Bool.and_eq_true] at h'
  have e : sub = 0 := eq_of_beq h'.1
  cases e
  rfl
theorem runView_semaRelease {s : State} (f) (h : Instr.WellFormed (.semaRelease f)) : runView (Instr.view (.semaRelease f)) s = exec (.semaRelease f) s := by
  obtain ⟨g, d, a, b, sub⟩ := f
  have h' := h
  simp only [Instr.WellFormed, Instr.payloadOk, Bool.and_eq_true] at h'
  have e : sub = 1 := eq_of_beq h'.1
  cases e
  rfl
theorem runView_semaQuery {s : State} (f) (h : Instr.WellFormed (.semaQuery f)) : runView (Instr.view (.semaQuery f)) s = exec (.semaQuery f) s := by
  obtain ⟨g, d, a, b, sub⟩ := f
  have h' := h
  simp only [Instr.WellFormed, Instr.payloadOk, Bool.and_eq_true] at h'
  have e : sub = 2 := eq_of_beq h'.1
  cases e
  rfl
theorem runView_wdog {s : State} (f) : runView (Instr.view (.wdog f)) s = exec (.wdog f) s := rfl
theorem runView_fclk {s : State} (f) : runView (Instr.view (.fclk f)) s = exec (.fclk f) s := rfl
theorem runView_vadd {s : State} (f) : runView (Instr.view (.vadd f)) s = exec (.vadd f) s := rfl
theorem runView_vsub {s : State} (f) : runView (Instr.view (.vsub f)) s = exec (.vsub f) s := rfl
theorem runView_vmul {s : State} (f) : runView (Instr.view (.vmul f)) s = exec (.vmul f) s := rfl
theorem runView_vfma {s : State} (f) : runView (Instr.view (.vfma f)) s = exec (.vfma f) s := rfl
theorem runView_vfms {s : State} (f) : runView (Instr.view (.vfms f)) s = exec (.vfms f) s := rfl
theorem runView_vfnma {s : State} (f) : runView (Instr.view (.vfnma f)) s = exec (.vfnma f) s := rfl
theorem runView_vmin {s : State} (f) : runView (Instr.view (.vmin f)) s = exec (.vmin f) s := rfl
theorem runView_vmax {s : State} (f) : runView (Instr.view (.vmax f)) s = exec (.vmax f) s := rfl
theorem runView_vabs {s : State} (f) : runView (Instr.view (.vabs f)) s = exec (.vabs f) s := rfl
theorem runView_vneg {s : State} (f) : runView (Instr.view (.vneg f)) s = exec (.vneg f) s := rfl
theorem runView_vcpys {s : State} (f) : runView (Instr.view (.vcpys f)) s = exec (.vcpys f) s := rfl
theorem runView_vdiv {s : State} (f) : runView (Instr.view (.vdiv f)) s = exec (.vdiv f) s := rfl
theorem runView_vsqrt {s : State} (f) : runView (Instr.view (.vsqrt f)) s = exec (.vsqrt f) s := rfl
theorem runView_vrcp {s : State} (f) : runView (Instr.view (.vrcp f)) s = exec (.vrcp f) s := rfl
theorem runView_vrsq {s : State} (f) : runView (Instr.view (.vrsq f)) s = exec (.vrsq f) s := rfl
theorem runView_vexp2 {s : State} (f) : runView (Instr.view (.vexp2 f)) s = exec (.vexp2 f) s := rfl
theorem runView_vlog2 {s : State} (f) : runView (Instr.view (.vlog2 f)) s = exec (.vlog2 f) s := rfl
theorem runView_vrint {s : State} (f) : runView (Instr.view (.vrint f)) s = exec (.vrint f) s := rfl
theorem runView_vclass {s : State} (f) : runView (Instr.view (.vclass f)) s = exec (.vclass f) s := rfl
theorem runView_vcmpEq {s : State} (f) : runView (Instr.view (.vcmpEq f)) s = exec (.vcmpEq f) s := rfl
theorem runView_vcmpNe {s : State} (f) : runView (Instr.view (.vcmpNe f)) s = exec (.vcmpNe f) s := rfl
theorem runView_vcmpLt {s : State} (f) : runView (Instr.view (.vcmpLt f)) s = exec (.vcmpLt f) s := rfl
theorem runView_vcmpLe {s : State} (f) : runView (Instr.view (.vcmpLe f)) s = exec (.vcmpLe f) s := rfl
theorem runView_vcmpUn {s : State} (f) : runView (Instr.view (.vcmpUn f)) s = exec (.vcmpUn f) s := rfl
theorem runView_vcmpOd {s : State} (f) : runView (Instr.view (.vcmpOd f)) s = exec (.vcmpOd f) s := rfl
theorem runView_vsel {s : State} (f) : runView (Instr.view (.vsel f)) s = exec (.vsel f) s := rfl
theorem runView_viadd {s : State} (f) : runView (Instr.view (.viadd f)) s = exec (.viadd f) s := rfl
theorem runView_visub {s : State} (f) : runView (Instr.view (.visub f)) s = exec (.visub f) s := rfl
theorem runView_vimul {s : State} (f) : runView (Instr.view (.vimul f)) s = exec (.vimul f) s := rfl
theorem runView_vimulh {s : State} (f) : runView (Instr.view (.vimulh f)) s = exec (.vimulh f) s := rfl
theorem runView_vand {s : State} (f) : runView (Instr.view (.vand f)) s = exec (.vand f) s := rfl
theorem runView_vor {s : State} (f) : runView (Instr.view (.vor f)) s = exec (.vor f) s := rfl
theorem runView_vxor {s : State} (f) : runView (Instr.view (.vxor f)) s = exec (.vxor f) s := rfl
theorem runView_vnot {s : State} (f) : runView (Instr.view (.vnot f)) s = exec (.vnot f) s := rfl
theorem runView_vshl {s : State} (f) : runView (Instr.view (.vshl f)) s = exec (.vshl f) s := rfl
theorem runView_vshr {s : State} (f) : runView (Instr.view (.vshr f)) s = exec (.vshr f) s := rfl
theorem runView_vsha {s : State} (f) : runView (Instr.view (.vsha f)) s = exec (.vsha f) s := rfl
theorem runView_vimin {s : State} (f) : runView (Instr.view (.vimin f)) s = exec (.vimin f) s := rfl
theorem runView_vimax {s : State} (f) : runView (Instr.view (.vimax f)) s = exec (.vimax f) s := rfl
theorem runView_viminu {s : State} (f) : runView (Instr.view (.viminu f)) s = exec (.viminu f) s := rfl
theorem runView_vimaxu {s : State} (f) : runView (Instr.view (.vimaxu f)) s = exec (.vimaxu f) s := rfl
theorem runView_vicmpEq {s : State} (f) : runView (Instr.view (.vicmpEq f)) s = exec (.vicmpEq f) s := rfl
theorem runView_vicmpLt {s : State} (f) : runView (Instr.view (.vicmpLt f)) s = exec (.vicmpLt f) s := rfl
theorem runView_vicmpLtu {s : State} (f) : runView (Instr.view (.vicmpLtu f)) s = exec (.vicmpLtu f) s := rfl
theorem runView_vcvtf {s : State} (f) : runView (Instr.view (.vcvtf f)) s = exec (.vcvtf f) s := rfl
theorem runView_vcvti {s : State} (f) : runView (Instr.view (.vcvti f)) s = exec (.vcvti f) s := rfl
theorem runView_vcvtif {s : State} (f) : runView (Instr.view (.vcvtif f)) s = exec (.vcvtif f) s := rfl
theorem runView_vpack {s : State} (f) : runView (Instr.view (.vpack f)) s = exec (.vpack f) s := rfl
theorem runView_vunpkLo {s : State} (f) : runView (Instr.view (.vunpkLo f)) s = exec (.vunpkLo f) s := rfl
theorem runView_vunpkHi {s : State} (f) : runView (Instr.view (.vunpkHi f)) s = exec (.vunpkHi f) s := rfl
theorem runView_vqnt {s : State} (f) : runView (Instr.view (.vqnt f)) s = exec (.vqnt f) s := rfl
theorem runView_vdqt {s : State} (f) : runView (Instr.view (.vdqt f)) s = exec (.vdqt f) s := rfl
theorem runView_vbsc {s : State} (f) : runView (Instr.view (.vbsc f)) s = exec (.vbsc f) s := rfl
theorem runView_vpsd {s : State} (f) : runView (Instr.view (.vpsd f)) s = exec (.vpsd f) s := rfl
theorem runView_vrsum {s : State} (f) : runView (Instr.view (.vrsum f)) s = exec (.vrsum f) s := rfl
theorem runView_vrmax {s : State} (f) : runView (Instr.view (.vrmax f)) s = exec (.vrmax f) s := rfl
theorem runView_vrmin {s : State} (f) : runView (Instr.view (.vrmin f)) s = exec (.vrmin f) s := rfl
theorem runView_vramax {s : State} (f) : runView (Instr.view (.vramax f)) s = exec (.vramax f) s := rfl
theorem runView_vrdot {s : State} (f) : runView (Instr.view (.vrdot f)) s = exec (.vrdot f) s := rfl
theorem runView_vpsum {s : State} (f) : runView (Instr.view (.vpsum f)) s = exec (.vpsum f) s := rfl
theorem runView_vshuf {s : State} (f) : runView (Instr.view (.vshuf f)) s = exec (.vshuf f) s := rfl
theorem runView_vbcst {s : State} (f) : runView (Instr.view (.vbcst f)) s = exec (.vbcst f) s := rfl
theorem runView_vlrot {s : State} (f) : runView (Instr.view (.vlrot f)) s = exec (.vlrot f) s := rfl
theorem runView_vslide {s : State} (f) : runView (Instr.view (.vslide f)) s = exec (.vslide f) s := rfl
theorem runView_vzip {s : State} (f) : runView (Instr.view (.vzip f)) s = exec (.vzip f) s := rfl
theorem runView_vuzp {s : State} (f) : runView (Instr.view (.vuzp f)) s = exec (.vuzp f) s := rfl
theorem runView_vrev {s : State} (f) : runView (Instr.view (.vrev f)) s = exec (.vrev f) s := rfl
theorem runView_vcomp {s : State} (f) : runView (Instr.view (.vcomp f)) s = exec (.vcomp f) s := rfl
theorem runView_vmvx {s : State} (f) : runView (Instr.view (.vmvx f)) s = exec (.vmvx f) s := rfl
theorem runView_vins {s : State} (f) : runView (Instr.view (.vins f)) s = exec (.vins f) s := rfl
theorem runView_vext {s : State} (f) : runView (Instr.view (.vext f)) s = exec (.vext f) s := rfl
theorem runView_vmvp {s : State} (f) : runView (Instr.view (.vmvp f)) s = exec (.vmvp f) s := rfl
theorem runView_mand {s : State} (f) : runView (Instr.view (.mand f)) s = exec (.mand f) s := rfl
theorem runView_mor {s : State} (f) : runView (Instr.view (.mor f)) s = exec (.mor f) s := rfl
theorem runView_mxor {s : State} (f) : runView (Instr.view (.mxor f)) s = exec (.mxor f) s := rfl
theorem runView_mnot {s : State} (f) : runView (Instr.view (.mnot f)) s = exec (.mnot f) s := rfl
theorem runView_mpopc {s : State} (f) : runView (Instr.view (.mpopc f)) s = exec (.mpopc f) s := rfl
theorem runView_vld {s : State} (f) : runView (Instr.view (.vld f)) s = exec (.vld f) s := rfl
theorem runView_vst {s : State} (f) : runView (Instr.view (.vst f)) s = exec (.vst f) s := rfl
theorem runView_vldi {s : State} (f) : runView (Instr.view (.vldi f)) s = exec (.vldi f) s := rfl
theorem runView_vsti {s : State} (f) : runView (Instr.view (.vsti f)) s = exec (.vsti f) s := rfl
theorem runView_vldb {s : State} (f) : runView (Instr.view (.vldb f)) s = exec (.vldb f) s := rfl
theorem runView_vgth {s : State} (f) : runView (Instr.view (.vgth f)) s = exec (.vgth f) s := rfl
theorem runView_vsct {s : State} (f) : runView (Instr.view (.vsct f)) s = exec (.vsct f) s := rfl
theorem runView_vstc {s : State} (f) : runView (Instr.view (.vstc f)) s = exec (.vstc f) s := rfl
theorem runView_zset {s : State} (f) : runView (Instr.view (.zset f)) s = exec (.zset f) s := rfl
theorem runView_zstep {s : State} (f) : runView (Instr.view (.zstep f)) s = exec (.zstep f) s := rfl
theorem runView_zrst {s : State} (f) : runView (Instr.view (.zrst f)) s = exec (.zrst f) s := rfl
theorem runView_zget {s : State} (f) : runView (Instr.view (.zget f)) s = exec (.zget f) s := rfl
theorem runView_sfmt {s : State} (f) : runView (Instr.view (.sfmt f)) s = exec (.sfmt f) s := rfl
theorem runView_zchk {s : State} (f) : runView (Instr.view (.zchk f)) s = exec (.zchk f) s := rfl
theorem runView_vclamp {s : State} (f) : runView (Instr.view (.vclamp f)) s = exec (.vclamp f) s := rfl
theorem runView_vlerp {s : State} (f) : runView (Instr.view (.vlerp f)) s = exec (.vlerp f) s := rfl
theorem runView_vrelu {s : State} (f) : runView (Instr.view (.vrelu f)) s = exec (.vrelu f) s := rfl
theorem runView_vexp {s : State} (f) : runView (Instr.view (.vexp f)) s = exec (.vexp f) s := rfl
theorem runView_vln {s : State} (f) : runView (Instr.view (.vln f)) s = exec (.vln f) s := rfl
theorem runView_vtanh {s : State} (f) : runView (Instr.view (.vtanh f)) s = exec (.vtanh f) s := rfl
theorem runView_verf {s : State} (f) : runView (Instr.view (.verf f)) s = exec (.verf f) s := rfl
theorem runView_vsin {s : State} (f) : runView (Instr.view (.vsin f)) s = exec (.vsin f) s := rfl
theorem runView_vcos {s : State} (f) : runView (Instr.view (.vcos f)) s = exec (.vcos f) s := rfl
theorem runView_vatn2 {s : State} (f) : runView (Instr.view (.vatn2 f)) s = exec (.vatn2 f) s := rfl
theorem runView_vturn {s : State} (f) : runView (Instr.view (.vturn f)) s = exec (.vturn f) s := rfl
theorem runView_vtcs {s : State} (f) : runView (Instr.view (.vtcs f)) s = exec (.vtcs f) s := rfl
theorem runView_vhyp {s : State} (f) : runView (Instr.view (.vhyp f)) s = exec (.vhyp f) s := rfl
theorem runView_mpushRot {s : State} (f) : runView (Instr.view (.mpushRot f)) s = exec (.mpushRot f) s := rfl
theorem runView_mpushDrv {s : State} (f) : runView (Instr.view (.mpushDrv f)) s = exec (.mpushDrv f) s := rfl
theorem runView_mpushCxg {s : State} (f) : runView (Instr.view (.mpushCxg f)) s = exec (.mpushCxg f) s := rfl
theorem runView_mpushFol {s : State} (f) : runView (Instr.view (.mpushFol f)) s = exec (.mpushFol f) s := rfl
theorem runView_mpushSwp {s : State} (f) : runView (Instr.view (.mpushSwp f)) s = exec (.mpushSwp f) s := rfl
theorem runView_mpushPas {s : State} (f) : runView (Instr.view (.mpushPas f)) s = exec (.mpushPas f) s := rfl
theorem runView_mpushGrd {s : State} (f) : runView (Instr.view (.mpushGrd f)) s = exec (.mpushGrd f) s := rfl
theorem runView_mlda {s : State} (f) : runView (Instr.view (.mlda f)) s = exec (.mlda f) s := rfl
theorem runView_mldp {s : State} (f) : runView (Instr.view (.mldp f)) s = exec (.mldp f) s := rfl
theorem runView_mpatch {s : State} (f) : runView (Instr.view (.mpatch f)) s = exec (.mpatch f) s := rfl
theorem runView_mswap {s : State} (f) : runView (Instr.view (.mswap f)) s = exec (.mswap f) s := rfl
theorem runView_msave {s : State} (f) : runView (Instr.view (.msave f)) s = exec (.msave f) s := rfl
theorem runView_mrest {s : State} (f) : runView (Instr.view (.mrest f)) s = exec (.mrest f) s := rfl
theorem runView_mgsv {s : State} (f) : runView (Instr.view (.mgsv f)) s = exec (.mgsv f) s := rfl
theorem runView_mscli {s : State} (f) : runView (Instr.view (.mscli f)) s = exec (.mscli f) s := rfl
theorem runView_msclo {s : State} (f) : runView (Instr.view (.msclo f)) s = exec (.msclo f) s := rfl
theorem runView_mdix {s : State} (f) : runView (Instr.view (.mdix f)) s = exec (.mdix f) s := rfl
theorem runView_mbits {s : State} (f) : runView (Instr.view (.mbits f)) s = exec (.mbits f) s := rfl
theorem runView_mrst {s : State} (f) : runView (Instr.view (.mrst f)) s = exec (.mrst f) s := rfl
theorem runView_mnrm {s : State} (f) : runView (Instr.view (.mnrm f)) s = exec (.mnrm f) s := rfl
theorem runView_mstat {s : State} (f) : runView (Instr.view (.mstat f)) s = exec (.mstat f) s := rfl
theorem runView_mfmt {s : State} (f) : runView (Instr.view (.mfmt f)) s = exec (.mfmt f) s := rfl
theorem runView_mdrn {s : State} (f) : runView (Instr.view (.mdrn f)) s = exec (.mdrn f) s := rfl
theorem runView_mclr {s : State} (f) : runView (Instr.view (.mclr f)) s = exec (.mclr f) s := rfl
theorem runView_cpy {s : State} (f) : runView (Instr.view (.cpy f)) s = exec (.cpy f) s := rfl
theorem runView_cst {s : State} (f) : runView (Instr.view (.cst f)) s = exec (.cst f) s := rfl
theorem runView_cstz {s : State} (f) : runView (Instr.view (.cstz f)) s = exec (.cstz f) s := rfl
theorem runView_cll {s : State} (f) : runView (Instr.view (.cll f)) s = exec (.cll f) s := rfl
theorem runView_cxr {s : State} (f) : runView (Instr.view (.cxr f)) s = exec (.cxr f) s := rfl
theorem runView_cxw {s : State} (f) : runView (Instr.view (.cxw f)) s = exec (.cxw f) s := rfl
theorem runView_cfil {s : State} (f) : runView (Instr.view (.cfil f)) s = exec (.cfil f) s := rfl
theorem runView_cpyt {s : State} (f) : runView (Instr.view (.cpyt f)) s = exec (.cpyt f) s := rfl
theorem runView_gqin {s : State} (f) : runView (Instr.view (.gqin f)) s = exec (.gqin f) s := rfl
theorem runView_gath {s : State} (f) : runView (Instr.view (.gath f)) s = exec (.gath f) s := rfl
theorem runView_scat {s : State} (f) : runView (Instr.view (.scat f)) s = exec (.scat f) s := rfl
theorem runView_wbnd {s : State} (f) : runView (Instr.view (.wbnd f)) s = exec (.wbnd f) s := rfl
theorem runView_wadv {s : State} (f) : runView (Instr.view (.wadv f)) s = exec (.wadv f) s := rfl
theorem runView_wrel {s : State} (f) : runView (Instr.view (.wrel f)) s = exec (.wrel f) s := rfl
theorem runView_csch {s : State} (f) : runView (Instr.view (.csch f)) s = exec (.csch f) s := rfl
theorem runView_cstep {s : State} (f) : runView (Instr.view (.cstep f)) s = exec (.cstep f) s := rfl
theorem runView_cabt {s : State} (f) : runView (Instr.view (.cabt f)) s = exec (.cabt f) s := rfl
theorem runView_crsm {s : State} (f) : runView (Instr.view (.crsm f)) s = exec (.crsm f) s := rfl
theorem runView_cscan {s : State} (f) : runView (Instr.view (.cscan f)) s = exec (.cscan f) s := rfl
theorem runView_czip {s : State} (f) : runView (Instr.view (.czip f)) s = exec (.czip f) s := rfl
theorem runView_cprf {s : State} (f) : runView (Instr.view (.cprf f)) s = exec (.cprf f) s := rfl
theorem runView_cwb {s : State} (f) : runView (Instr.view (.cwb f)) s = exec (.cwb f) s := rfl
theorem runView_cinv {s : State} (f) : runView (Instr.view (.cinv f)) s = exec (.cinv f) s := rfl
theorem runView_cwms {s : State} (f) : runView (Instr.view (.cwms f)) s = exec (.cwms f) s := rfl
theorem runView_cfnc {s : State} (f) : runView (Instr.view (.cfnc f)) s = exec (.cfnc f) s := rfl
theorem runView_csig {s : State} (f) : runView (Instr.view (.csig f)) s = exec (.csig f) s := rfl
theorem runView_cldm {s : State} (f) : runView (Instr.view (.cldm f)) s = exec (.cldm f) s := rfl
theorem runView_csts {s : State} (f) : runView (Instr.view (.csts f)) s = exec (.csts f) s := rfl
theorem runView_cpri {s : State} (f) : runView (Instr.view (.cpri f)) s = exec (.cpri f) s := rfl
theorem runView_cdup {s : State} (f) : runView (Instr.view (.cdup f)) s = exec (.cdup f) s := rfl
theorem runView_cmsk {s : State} (f) : runView (Instr.view (.cmsk f)) s = exec (.cmsk f) s := rfl
theorem runView_crpl {s : State} (f) : runView (Instr.view (.crpl f)) s = exec (.crpl f) s := rfl

end Sys2Proof.Machine
end

