-- ==== Sys2Proof/Laws/Slh.lean ====
section
/-! SUPPORT. A signature made with a key pair verifies under its public key (FIPS 205; spec/27 R372, R376, R377). -/
namespace Sys2Proof.Machine

/-! ## Bytes -/

@[simp] theorem length_firstBytes (n : Nat) (l : List (BitVec 8)) : (firstBytes n l).length = n := by simp [firstBytes]

@[simp] theorem length_slhHash (seed adrs m : List (BitVec 8)) : (slhHash seed adrs m).length = 16 := length_firstBytes _ _

theorem firstBytes_append (n : Nat) (l r : List (BitVec 8)) (h : l.length = n) : firstBytes n (l ++ r) = l := by
  subst h
  refine List.ext_getElem (by simp) fun i h₁ h₂ => ?_
  simp [firstBytes, List.getD_eq_getElem?_getD, List.getElem?_append_left h₂, List.getElem?_eq_getElem h₂]

theorem firstBytes_self (n : Nat) (l : List (BitVec 8)) (h : l.length = n) : firstBytes n l = l := by
  simpa using firstBytes_append n l [] h

/-- Blocks of 16 bytes read back from their bytes. -/
theorem chunks_flatten (L : List (List (BitVec 8))) (h : ∀ b ∈ L, b.length = 16) :
    ((List.range L.length).map fun i => firstBytes 16 (L.flatten.drop (16 * i))) = L := by
  induction L with
  | nil => rfl
  | cons b L ih =>
    have hb : b.length = 16 := h b (by simp)
    have ih := ih fun c hc => h c (by simp [hc])
    rw [List.length_cons, List.range_succ_eq_map, List.map_cons, List.map_map]
    congr 1
    · simpa using firstBytes_append 16 b L.flatten hb
    · conv_rhs => rw [← ih]
      refine List.map_congr_left fun i _ => ?_
      have : 16 * (i + 1) = b.length + 16 * i := by omega
      simp only [Function.comp_apply, Nat.succ_eq_add_one, List.flatten_cons, this, List.drop_length_add_append]

theorem slhDigits_lt {w n : Nat} {l : List (BitVec 8)} {x : Nat} (h : x ∈ slhDigits w n l) : x < 2 ^ w := by
  obtain ⟨i, -, rfl⟩ := List.mem_map.mp h
  exact Nat.mod_lt _ (Nat.two_pow_pos w)

theorem getD_lt {l : List Nat} {b : Nat} (hb : 0 < b) (h : ∀ x ∈ l, x < b) (i : Nat) : l.getD i 0 < b := by
  rw [List.getD_eq_getElem?_getD]
  cases hi : l[i]? with
  | none => simpa using hb
  | some x => simpa using h x (List.mem_of_getElem? hi)

/-! ## Chains -/

theorem slhChain_add (step : Nat → List (BitVec 8) → List (BitVec 8)) (x : List (BitVec 8)) (m k : Nat) :
    slhChain step m (slhChain step 0 x m) k = slhChain step 0 x (m + k) := by
  induction k with
  | zero => rfl
  | succ k ih => simp [slhChain, ih]

theorem length_chain (seed : List (BitVec 8)) (layer tree kp i : Nat) (x : List (BitVec 8)) (hx : x.length = 16) (n : Nat) :
    (slhChain (wotsStep seed layer tree kp i) 0 x n).length = 16 := by
  cases n with
  | zero => exact hx
  | succ n => simp [slhChain, wotsStep]

theorem wotsDigits_le (m : List (BitVec 8)) (i : Nat) : (wotsDigits m).getD i 0 ≤ 15 := by
  refine Nat.le_of_lt_succ (getD_lt (b := 16) (by decide) (fun x hx => ?_) i)
  rcases List.mem_append.mp hx with h | h <;> exact slhDigits_lt h

theorem wots_correct (sk seed : List (BitVec 8)) (layer tree kp : Nat) (m : List (BitVec 8)) (rest : List (List (BitVec 8))) :
    wotsFromSig seed layer tree kp m (wotsSign sk seed layer tree kp m ++ rest) = wotsPublic sk seed layer tree kp := by
  unfold wotsFromSig wotsPublic
  congr 1
  refine List.map_congr_left fun i hi => ?_
  have hi : i < 35 := List.mem_range.mp hi
  have hg : (wotsSign sk seed layer tree kp m ++ rest).getD i [] =
      slhChain (wotsStep seed layer tree kp i) 0 (wotsSecret sk seed layer tree kp i) ((wotsDigits m).getD i 0) := by
    rw [List.getD_eq_getElem?_getD, List.getElem?_append_left (by simpa [wotsSign] using hi)]
    simp [wotsSign, hi]
  rw [hg, slhChain_add, Nat.add_sub_cancel' (wotsDigits_le m i)]

/-! ## Trees -/

theorem treeRoot_path (leaf : Nat → List (BitVec 8)) (join : Nat → Nat → List (BitVec 8) → List (BitVec 8) → List (BitVec 8))
    (h i : Nat) (rest : List (List (BitVec 8))) (z : Nat) (hz : z ≤ h) :
    treeRoot join i (treePath leaf join h i ++ rest) (leaf i) z = treeNode leaf join z (i / 2 ^ z) := by
  induction z with
  | zero => simp [treeRoot, treeNode]
  | succ z ih =>
    have hg : (treePath leaf join h i ++ rest).getD z [] = treeNode leaf join z (sibling (i / 2 ^ z)) := by
      rw [List.getD_eq_getElem?_getD, List.getElem?_append_left (by simpa [treePath] using hz)]
      simp [treePath, Nat.lt_of_succ_le hz]
    have hd : i / 2 ^ (z + 1) = i / 2 ^ z / 2 := by rw [Nat.pow_succ, Nat.div_div_eq_div_mul]
    simp only [treeRoot, ih (Nat.le_of_succ_le hz), hg, treeNode, hd]
    by_cases he : i / 2 ^ z % 2 = 0
    · have h1 : 2 * (i / 2 ^ z / 2) = i / 2 ^ z := by omega
      rw [if_pos he, sibling, if_pos he, h1]
    · have h1 : 2 * (i / 2 ^ z / 2) + 1 = i / 2 ^ z := by omega
      have h2 : 2 * (i / 2 ^ z / 2) = i / 2 ^ z - 1 := by omega
      rw [if_neg he, sibling, if_neg he, h1, h2]

theorem length_treeNode (leaf : Nat → List (BitVec 8)) (join : Nat → Nat → List (BitVec 8) → List (BitVec 8) → List (BitVec 8))
    (hl : ∀ i, (leaf i).length = 16) (hj : ∀ z i l r, (join z i l r).length = 16) (z i : Nat) : (treeNode leaf join z i).length = 16 := by
  cases z with
  | zero => exact hl i
  | succ z => exact hj _ _ _ _

/-! ## XMSS and the hypertree -/

theorem xmss_correct (sk seed : List (BitVec 8)) (layer tree leaf : Nat) (hl : leaf < 512) (m : List (BitVec 8))
    (rest : List (List (BitVec 8))) :
    xmssFromSig seed layer tree leaf m (xmssSign sk seed layer tree leaf m ++ rest) = xmssRoot sk seed layer tree := by
  have hw : (wotsSign sk seed layer tree leaf m).length = 35 := by simp [wotsSign]
  have hd : leaf / 2 ^ 9 = 0 := Nat.div_eq_of_lt hl
  unfold xmssFromSig xmssSign
  rw [List.append_assoc, wots_correct, List.drop_left' hw, treeRoot_path _ _ 9 leaf rest 9 (Nat.le_refl 9), hd]
  rfl

theorem length_xmssSign (sk seed : List (BitVec 8)) (layer tree leaf : Nat) (m : List (BitVec 8)) :
    (xmssSign sk seed layer tree leaf m).length = 44 := by simp [xmssSign, wotsSign, treePath]

theorem hyper_correct (sk seed : List (BitVec 8)) (n : Nat) : ∀ (layer tree leaf : Nat) (m : List (BitVec 8)), leaf < 512 →
    hyperFromSig seed (n + 1) layer tree leaf m (hyperSign sk seed (n + 1) layer tree leaf m) =
      xmssRoot sk seed (layer + n) (tree / 512 ^ n) := by
  induction n with
  | zero =>
    intro layer tree leaf m hl
    simpa [hyperFromSig, hyperSign] using xmss_correct sk seed layer tree leaf hl m []
  | succ n ih =>
    intro layer tree leaf m hl
    rw [hyperSign, hyperFromSig, xmss_correct sk seed layer tree leaf hl m, List.drop_left' (length_xmssSign ..)]
    have hx := xmss_correct sk seed layer tree leaf hl m []
    rw [List.append_nil] at hx
    rw [hx, ih (layer + 1) (tree / 512) (tree % 512) _ (Nat.mod_lt _ (by decide)), Nat.div_div_eq_div_mul]
    congr 1
    · omega
    · rw [Nat.pow_succ, Nat.mul_comm]

theorem length_hyperSign (sk seed : List (BitVec 8)) (n : Nat) : ∀ (layer tree leaf : Nat) (m : List (BitVec 8)),
    (hyperSign sk seed n layer tree leaf m).length = 44 * n := by
  induction n with
  | zero => intros; rfl
  | succ n ih =>
    intro layer tree leaf m
    rw [hyperSign, List.length_append, length_xmssSign, ih]
    omega

/-! ## FORS -/

/-- A list of equal parts from one of them on. -/
theorem drop_parts {α : Type} (f : Nat → List α) (c n t : Nat) (hf : ∀ i < n, (f i).length = c) (ht : t < n) :
    ((List.range n).flatMap f).drop (c * t) = f t ++ ((List.range' (t + 1) (n - t - 1)).flatMap f) := by
  have hr : List.range n = List.range t ++ t :: List.range' (t + 1) (n - t - 1) := by
    rw [List.range_eq_range', List.range_eq_range', ← List.range'_succ]
    have := @List.range'_append_1 0 t (n - t - 1 + 1)
    rw [Nat.zero_add] at this
    rw [this]
    congr 1
    omega
  have hl : ((List.range t).flatMap f).length = c * t := by
    rw [List.length_flatMap, List.map_congr_left (g := fun _ => c) fun i hi => hf i (Nat.lt_trans (List.mem_range.mp hi) ht)]
    simp [Nat.mul_comm]
  rw [hr, List.flatMap_append, List.drop_left' hl, List.flatMap_cons]

theorem forsIndex_div (md : List (BitVec 8)) (t : Nat) : forsIndex md t / 2 ^ 12 = t := by
  have : (slhDigits 12 14 md).getD t 0 < 2 ^ 12 := getD_lt (by decide) (fun x hx => slhDigits_lt hx) t
  unfold forsIndex
  omega

theorem fors_correct (sk seed : List (BitVec 8)) (tree kp : Nat) (md : List (BitVec 8)) (rest : List (List (BitVec 8))) :
    forsFromSig seed tree kp md (forsSign sk seed tree kp md ++ rest) = forsFromSig seed tree kp md (forsSign sk seed tree kp md) := by
  have key : ∀ rest, forsFromSig seed tree kp md (forsSign sk seed tree kp md ++ rest) =
      slhHash seed (slhAdrs 0 tree 4 kp 0 0) ((List.range 14).map fun t =>
        treeNode (fun i => forsLeaf seed tree kp i (forsSecret sk seed tree kp i)) (forsJoin seed tree kp) 12 t).flatten := by
    intro rest
    unfold forsFromSig
    congr 2
    refine List.map_congr_left fun t ht => ?_
    have ht : t < 14 := List.mem_range.mp ht
    have hlen : (forsSign sk seed tree kp md).length = 182 := by simp [forsSign, treePath, List.length_flatMap]
    have hd : (forsSign sk seed tree kp md ++ rest).drop (13 * t) =
        (forsSecret sk seed tree kp (forsIndex md t) ::
          treePath (fun i => forsLeaf seed tree kp i (forsSecret sk seed tree kp i)) (forsJoin seed tree kp) 12 (forsIndex md t)) ++
        (((List.range' (t + 1) (14 - t - 1)).flatMap fun t =>
          forsSecret sk seed tree kp (forsIndex md t) ::
            treePath (fun i => forsLeaf seed tree kp i (forsSecret sk seed tree kp i)) (forsJoin seed tree kp) 12 (forsIndex md t)) ++ rest) := by
      rw [List.drop_append_of_le_length (by omega), forsSign, drop_parts _ 13 14 t (fun i _ => by simp [treePath]) ht, List.append_assoc]
    have hs : (forsSign sk seed tree kp md ++ rest).getD (13 * t) [] = forsSecret sk seed tree kp (forsIndex md t) := by
      have := congrArg (fun l => l.getD 0 []) hd
      simpa [List.getD_eq_getElem?_getD, List.getElem?_drop] using this
    have hp : (forsSign sk seed tree kp md ++ rest).drop (13 * t + 1) =
        treePath (fun i => forsLeaf seed tree kp i (forsSecret sk seed tree kp i)) (forsJoin seed tree kp) 12 (forsIndex md t) ++
        (((List.range' (t + 1) (14 - t - 1)).flatMap fun t =>
          forsSecret sk seed tree kp (forsIndex md t) ::
            treePath (fun i => forsLeaf seed tree kp i (forsSecret sk seed tree kp i)) (forsJoin seed tree kp) 12 (forsIndex md t)) ++ rest) := by
      have := congrArg (List.drop 1) hd
      rw [List.drop_drop] at this
      simpa using this
    rw [hs, hp]
    have := treeRoot_path (fun i => forsLeaf seed tree kp i (forsSecret sk seed tree kp i)) (forsJoin seed tree kp) 12 (forsIndex md t)
      (((List.range' (t + 1) (14 - t - 1)).flatMap fun t =>
          forsSecret sk seed tree kp (forsIndex md t) ::
            treePath (fun i => forsLeaf seed tree kp i (forsSecret sk seed tree kp i)) (forsJoin seed tree kp) 12 (forsIndex md t)) ++ rest)
      12 (Nat.le_refl 12)
    rw [forsIndex_div] at this
    exact this
  have h0 := key []
  rw [List.append_nil] at h0
  rw [key, h0]

/-! ## Every block has 16 bytes -/

theorem length_wotsPublic (sk seed : List (BitVec 8)) (layer tree i : Nat) : (wotsPublic sk seed layer tree i).length = 16 := by
  simp [wotsPublic, wotsKey]

theorem mem_xmssSign {sk seed : List (BitVec 8)} {layer tree leaf : Nat} {m b : List (BitVec 8)}
    (h : b ∈ xmssSign sk seed layer tree leaf m) : b.length = 16 := by
  rcases List.mem_append.mp h with h | h
  · obtain ⟨i, -, rfl⟩ := List.mem_map.mp h
    exact length_chain _ _ _ _ _ _ (by simp [wotsSecret]) _
  · obtain ⟨z, -, rfl⟩ := List.mem_map.mp h
    exact length_treeNode _ _ (length_wotsPublic sk seed layer tree) (fun _ _ _ _ => by simp [xmssJoin]) _ _

theorem mem_hyperSign {sk seed b : List (BitVec 8)} (n : Nat) : ∀ {layer tree leaf : Nat} {m : List (BitVec 8)},
    b ∈ hyperSign sk seed n layer tree leaf m → b.length = 16 := by
  induction n with
  | zero => intro _ _ _ _ h; cases h
  | succ n ih =>
    intro layer tree leaf m h
    rcases List.mem_append.mp h with h | h
    · exact mem_xmssSign h
    · exact ih h

theorem mem_forsSign {sk seed b md : List (BitVec 8)} {tree kp : Nat} (h : b ∈ forsSign sk seed tree kp md) : b.length = 16 := by
  obtain ⟨t, -, h⟩ := List.mem_flatMap.mp h
  rcases List.mem_cons.mp h with rfl | h
  · simp [forsSecret]
  · obtain ⟨z, -, rfl⟩ := List.mem_map.mp h
    exact length_treeNode _ _ (fun _ => by simp [forsLeaf]) (fun _ _ _ _ => by simp [forsJoin]) _ _

theorem length_xmssRoot (sk seed : List (BitVec 8)) (layer tree : Nat) : (xmssRoot sk seed layer tree).length = 16 := by
  simp [xmssRoot, treeNode, xmssJoin]

theorem length_flatten16 (L : List (List (BitVec 8))) (h : ∀ b ∈ L, b.length = 16) : L.flatten.length = 16 * L.length := by
  induction L with
  | nil => rfl
  | cons b L ih => simp [h b (by simp), ih fun c hc => h c (by simp [hc])]; omega

/-! ## The whole -/

/-- A public key has 32 bytes. -/
theorem length_slhPublic (secret : List (BitVec 8)) : (slhPublic secret).length = 32 := by
  simp [slhPublic, slhSeeds, length_xmssRoot]

/-- A signature has 7,856 bytes. -/
theorem length_slhSign (secret rand m : List (BitVec 8)) : (slhSign secret rand m).length = 7856 := by
  simp only [slhSign, slhSeeds, List.length_append, length_firstBytes]
  rw [length_flatten16, List.length_append, length_hyperSign]
  · simp [forsSign, treePath, List.length_flatMap]
  · intro b hb
    rcases List.mem_append.mp hb with h | h
    · exact mem_forsSign h
    · exact mem_hyperSign 7 h

/-- A signature verifies under the public key of its secret. -/
theorem slhVerify_slhSign (secret rand m : List (BitVec 8)) : slhVerify (slhPublic secret) m (slhSign secret rand m) = true := by
  have hsig := length_slhSign secret rand m
  have hkey := length_slhPublic secret
  unfold slhVerify
  rw [hsig, hkey]
  simp only [beq_self_eq_true, Bool.true_and, beq_iff_eq]
  set sk := firstBytes 16 secret with hsk
  set seed := firstBytes 16 (secret.drop 32) with hseed
  have hpub : slhPublic secret = seed ++ xmssRoot sk seed 6 0 := rfl
  have hs : firstBytes 16 (slhPublic secret) = seed := by rw [hpub]; exact firstBytes_append _ _ _ (by simp [hseed])
  have hr : firstBytes 16 ((slhPublic secret).drop 16) = xmssRoot sk seed 6 0 := by
    rw [hpub, List.drop_left' (by simp [hseed])]
    exact firstBytes_self _ _ (length_xmssRoot ..)
  rw [hs, hr]
  set r := firstBytes 16 (hmac256 (firstBytes 16 (secret.drop 16)) (rand ++ slhMessage m)) with hrr
  set d := slhDigest r seed (xmssRoot sk seed 6 0) (slhMessage m) with hd
  set f := forsSign sk seed (slhTree d) (slhLeaf d) (d.take 21) with hf
  set g := hyperSign sk seed 7 0 (slhTree d) (slhLeaf d) (forsFromSig seed (slhTree d) (slhLeaf d) (d.take 21) f) with hg
  have hsign : slhSign secret rand m = r ++ (f ++ g).flatten := rfl
  have hfl : f.length = 182 := by simp [hf, forsSign, treePath, List.length_flatMap]
  have hgl : (f ++ g).length = 490 := by rw [List.length_append, hfl, hg, length_hyperSign]
  have h16 : ∀ b ∈ f ++ g, b.length = 16 := fun b hb => by
    rcases List.mem_append.mp hb with h | h
    · exact mem_forsSign h
    · exact mem_hyperSign 7 h
  have hfr : firstBytes 16 (slhSign secret rand m) = r := by rw [hsign]; exact firstBytes_append _ _ _ (by simp [hrr])
  have hb : ((List.range 490).map fun i => firstBytes 16 ((slhSign secret rand m).drop (16 + 16 * i))) = f ++ g := by
    have := chunks_flatten (f ++ g) h16
    rw [hgl] at this
    rw [← this]
    refine List.map_congr_left fun i _ => ?_
    rw [hsign, ← List.drop_drop, List.drop_left' (by simp [hrr])]
  rw [hfr, hb, ← hd]
  have hk : forsFromSig seed (slhTree d) (slhLeaf d) (d.take 21) (f ++ g) = forsFromSig seed (slhTree d) (slhLeaf d) (d.take 21) f :=
    fors_correct sk seed _ _ _ g
  have hlt : slhLeaf d < 512 := Nat.mod_lt _ (by decide)
  have htree : slhTree d / 512 ^ 6 = 0 := Nat.div_eq_of_lt (Nat.mod_lt _ (by decide))
  have hh := hyper_correct sk seed 6 0 (slhTree d) (slhLeaf d) (forsFromSig seed (slhTree d) (slhLeaf d) (d.take 21) f) hlt
  rw [htree, Nat.zero_add] at hh
  rw [hk, List.drop_left' hfl, hg]
  exact hh

end Sys2Proof.Machine
end

