-- ==== Sys2Proof/Laws/State.lean ====
section
/-! SUPPORT. The laws of the state: each field under each update of the core in focus and of its active bank. No later proof unfolds
a record update. -/
namespace Sys2Proof.Machine

/-! ## The active bank -/

@[simp] theorem Core.bank_setBank (c : Core) (b : Bank) : (c.setBank b).bank = b := by
  unfold Core.bank Core.setBank; by_cases h : c.cur = true <;> simp [h]

@[simp] theorem Core.setBank_bank (c : Core) : c.setBank c.bank = c := by
  unfold Core.bank Core.setBank
  by_cases h : c.cur = true
  · rw [if_pos h, if_pos h]
  · rw [if_neg h, if_neg h]

@[simp] theorem Core.setBank_setBank (c : Core) (a b : Bank) : (c.setBank a).setBank b = c.setBank b := by
  unfold Core.setBank; by_cases h : c.cur = true <;> simp [h]

@[simp] theorem State.bank_setBank (s : State) (b : Bank) : (s.setBank b).bank = b := Core.bank_setBank _ _

@[simp] theorem State.setBank_bank (s : State) : s.setBank s.bank = s := by
  unfold State.setBank State.bank; rw [Core.setBank_bank]

@[simp] theorem State.setBank_setBank (s : State) (a b : Bank) : (s.setBank a).setBank b = s.setBank b := by
  unfold State.setBank; simp

@[simp] theorem State.bank_modBank (s : State) (f : Bank → Bank) : (s.modBank f).bank = f s.bank := State.bank_setBank _ _

@[simp] theorem State.modBank_id (s : State) : (s.modBank fun b => b) = s := State.setBank_bank s

@[simp] theorem State.modBank_modBank (s : State) (f g : Bank → Bank) : (s.modBank f).modBank g = s.modBank fun b => g (f b) := by
  simp [State.modBank]

@[simp] theorem State.bank_modCore_imem (s : State) (m : Memory) : (s.modCore fun c => { c with imem := m }).bank = s.bank := rfl

@[simp] theorem State.bank_modCore_spad (s : State) (m : Memory) : (s.modCore fun c => { c with spad := m }).bank = s.bank := rfl

@[simp] theorem State.bank_modCore_mesh (s : State) (m : Mesh) : (s.modCore fun c => { c with mesh := m }).bank = s.bank := rfl

@[simp] theorem State.modCore_core (s : State) (f : Core → Core) : (s.modCore f).core = f s.core := rfl

@[simp] theorem State.setBank_core (s : State) (b : Bank) : (s.setBank b).core = s.core.setBank b := rfl

@[simp] theorem State.modBank_core (s : State) (f : Bank → Bank) : (s.modBank f).core = s.core.setBank (f s.bank) := rfl

/-! ## The core's other fields under a write of its bank -/

@[simp] theorem Core.setBank_collie (c : Core) (b : Bank) : (c.setBank b).collie = c.collie := by unfold Core.setBank; split <;> rfl
@[simp] theorem Core.setBank_cur (c : Core) (b : Bank) : (c.setBank b).cur = c.cur := by unfold Core.setBank; split <;> rfl
@[simp] theorem Core.setBank_arm (c : Core) (b : Bank) : (c.setBank b).arm = c.arm := by unfold Core.setBank; split <;> rfl
@[simp] theorem Core.setBank_loadedB (c : Core) (b : Bank) : (c.setBank b).loadedB = c.loadedB := by unfold Core.setBank; split <;> rfl
@[simp] theorem Core.setBank_entryB (c : Core) (b : Bank) : (c.setBank b).entryB = c.entryB := by unfold Core.setBank; split <;> rfl
@[simp] theorem Core.setBank_imem (c : Core) (b : Bank) : (c.setBank b).imem = c.imem := by unfold Core.setBank; split <;> rfl
@[simp] theorem Core.setBank_imemBad (c : Core) (b : Bank) : (c.setBank b).imemBad = c.imemBad := by unfold Core.setBank; split <;> rfl
@[simp] theorem Core.setBank_spad (c : Core) (b : Bank) : (c.setBank b).spad = c.spad := by unfold Core.setBank; split <;> rfl
@[simp] theorem Core.setBank_spadBad (c : Core) (b : Bank) : (c.setBank b).spadBad = c.spadBad := by unfold Core.setBank; split <;> rfl
@[simp] theorem Core.setBank_mesh (c : Core) (b : Bank) : (c.setBank b).mesh = c.mesh := by unfold Core.setBank; split <;> rfl
@[simp] theorem Core.setBank_chans (c : Core) (b : Bank) : (c.setBank b).chans = c.chans := by unfold Core.setBank; split <;> rfl
@[simp] theorem Core.setBank_wins (c : Core) (b : Bank) : (c.setBank b).wins = c.wins := by unfold Core.setBank; split <;> rfl
@[simp] theorem Core.setBank_gq (c : Core) (b : Bank) : (c.setBank b).gq = c.gq := by unfold Core.setBank; split <;> rfl
@[simp] theorem Core.setBank_gqImg (c : Core) (b : Bank) : (c.setBank b).gqImg = c.gqImg := by unfold Core.setBank; split <;> rfl
@[simp] theorem Core.setBank_sched (c : Core) (b : Bank) : (c.setBank b).sched = c.sched := by unfold Core.setBank; split <;> rfl
@[simp] theorem Core.setBank_cstage (c : Core) (b : Bank) : (c.setBank b).cstage = c.cstage := by unfold Core.setBank; split <;> rfl
@[simp] theorem Core.setBank_psb (c : Core) (b : Bank) : (c.setBank b).psb = c.psb := by unfold Core.setBank; split <;> rfl
@[simp] theorem Core.setBank_psbCnt (c : Core) (b : Bank) : (c.setBank b).psbCnt = c.psbCnt := by unfold Core.setBank; split <;> rfl
@[simp] theorem Core.setBank_run (c : Core) (b : Bank) : (c.setBank b).run = c.run := by unfold Core.setBank; split <;> rfl
@[simp] theorem Core.setBank_trap (c : Core) (b : Bank) : (c.setBank b).trap = c.trap := by unfold Core.setBank; split <;> rfl
@[simp] theorem Core.setBank_trapBank (c : Core) (b : Bank) : (c.setBank b).trapBank = c.trapBank := by unfold Core.setBank; split <;> rfl
@[simp] theorem Core.setBank_deferred (c : Core) (b : Bank) : (c.setBank b).deferred = c.deferred := by unfold Core.setBank; split <;> rfl
@[simp] theorem Core.setBank_hold (c : Core) (b : Bank) : (c.setBank b).hold = c.hold := by unfold Core.setBank; split <;> rfl
@[simp] theorem Core.setBank_trapSeq (c : Core) (b : Bank) : (c.setBank b).trapSeq = c.trapSeq := by unfold Core.setBank; split <;> rfl
@[simp] theorem Core.setBank_records (c : Core) (b : Bank) : (c.setBank b).records = c.records := by unfold Core.setBank; split <;> rfl
@[simp] theorem Core.setBank_launch (c : Core) (b : Bank) : (c.setBank b).launch = c.launch := by unfold Core.setBank; split <;> rfl
@[simp] theorem Core.setBank_discards (c : Core) (b : Bank) : (c.setBank b).discards = c.discards := by unfold Core.setBank; split <;> rfl
@[simp] theorem Core.setBank_drainB (c : Core) (b : Bank) : (c.setBank b).drainB = c.drainB := by unfold Core.setBank; split <;> rfl
@[simp] theorem Core.setBank_preB (c : Core) (b : Bank) : (c.setBank b).preB = c.preB := by unfold Core.setBank; split <;> rfl
@[simp] theorem Core.setBank_faultB (c : Core) (b : Bank) : (c.setBank b).faultB = c.faultB := by unfold Core.setBank; split <;> rfl
@[simp] theorem Core.setBank_wdogB (c : Core) (b : Bank) : (c.setBank b).wdogB = c.wdogB := by unfold Core.setBank; split <;> rfl
@[simp] theorem Core.setBank_released (c : Core) (b : Bank) : (c.setBank b).released = c.released := by unfold Core.setBank; split <;> rfl
@[simp] theorem Core.setBank_releaseAt (c : Core) (b : Bank) : (c.setBank b).releaseAt = c.releaseAt := by unfold Core.setBank; split <;> rfl
@[simp] theorem Core.setBank_preReq (c : Core) (b : Bank) : (c.setBank b).preReq = c.preReq := by unfold Core.setBank; split <;> rfl
@[simp] theorem Core.setBank_point (c : Core) (b : Bank) : (c.setBank b).point = c.point := by unfold Core.setBank; split <;> rfl
@[simp] theorem Core.setBank_drainAt (c : Core) (b : Bank) : (c.setBank b).drainAt = c.drainAt := by unfold Core.setBank; split <;> rfl
@[simp] theorem Core.setBank_nextId (c : Core) (b : Bank) : (c.setBank b).nextId = c.nextId := by unfold Core.setBank; split <;> rfl
@[simp] theorem Core.setBank_freezeAt (c : Core) (b : Bank) : (c.setBank b).freezeAt = c.freezeAt := by unfold Core.setBank; split <;> rfl
@[simp] theorem Core.setBank_polAt (c : Core) (b : Bank) : (c.setBank b).polAt = c.polAt := by unfold Core.setBank; split <;> rfl
@[simp] theorem Core.setBank_wdog (c : Core) (b : Bank) : (c.setBank b).wdog = c.wdog := by unfold Core.setBank; split <;> rfl
@[simp] theorem Core.setBank_lastFrame (c : Core) (b : Bank) : (c.setBank b).lastFrame = c.lastFrame := by unfold Core.setBank; split <;> rfl
@[simp] theorem Core.setBank_stalls (c : Core) (b : Bank) : (c.setBank b).stalls = c.stalls := by unfold Core.setBank; split <;> rfl
@[simp] theorem Core.setBank_wrote (c : Core) (b : Bank) : (c.setBank b).wrote = c.wrote := by unfold Core.setBank; split <;> rfl
@[simp] theorem Core.setBank_seen (c : Core) (b : Bank) : (c.setBank b).seen = c.seen := by unfold Core.setBank; split <;> rfl

/-! ## The state's other fields -/

@[simp] theorem State.modCore_inputs (s : State) (f : Core → Core) : (s.modCore f).inputs = s.inputs := rfl
@[simp] theorem State.setBank_inputs (s : State) (b : Bank) : (s.setBank b).inputs = s.inputs := rfl
@[simp] theorem State.modBank_inputs (s : State) (f : Bank → Bank) : (s.modBank f).inputs = s.inputs := rfl
@[simp] theorem State.modCore_agenda (s : State) (f : Core → Core) : (s.modCore f).agenda = s.agenda := rfl
@[simp] theorem State.setBank_agenda (s : State) (b : Bank) : (s.setBank b).agenda = s.agenda := rfl
@[simp] theorem State.modBank_agenda (s : State) (f : Bank → Bank) : (s.modBank f).agenda = s.agenda := rfl
@[simp] theorem State.modCore_choices (s : State) (f : Core → Core) : (s.modCore f).choices = s.choices := rfl
@[simp] theorem State.setBank_choices (s : State) (b : Bank) : (s.setBank b).choices = s.choices := rfl
@[simp] theorem State.modBank_choices (s : State) (f : Bank → Bank) : (s.modBank f).choices = s.choices := rfl
@[simp] theorem State.modCore_cycle (s : State) (f : Core → Core) : (s.modCore f).cycle = s.cycle := rfl
@[simp] theorem State.setBank_cycle (s : State) (b : Bank) : (s.setBank b).cycle = s.cycle := rfl
@[simp] theorem State.modBank_cycle (s : State) (f : Bank → Bank) : (s.modBank f).cycle = s.cycle := rfl
@[simp] theorem State.modCore_ptpBase (s : State) (f : Core → Core) : (s.modCore f).ptpBase = s.ptpBase := rfl
@[simp] theorem State.setBank_ptpBase (s : State) (b : Bank) : (s.setBank b).ptpBase = s.ptpBase := rfl
@[simp] theorem State.modBank_ptpBase (s : State) (f : Bank → Bank) : (s.modBank f).ptpBase = s.ptpBase := rfl
@[simp] theorem State.modCore_coreNo (s : State) (f : Core → Core) : (s.modCore f).coreNo = s.coreNo := rfl
@[simp] theorem State.setBank_coreNo (s : State) (b : Bank) : (s.setBank b).coreNo = s.coreNo := rfl
@[simp] theorem State.modBank_coreNo (s : State) (f : Bank → Bank) : (s.modBank f).coreNo = s.coreNo := rfl
@[simp] theorem State.modCore_others (s : State) (f : Core → Core) : (s.modCore f).others = s.others := rfl
@[simp] theorem State.setBank_others (s : State) (b : Bank) : (s.setBank b).others = s.others := rfl
@[simp] theorem State.modBank_others (s : State) (f : Bank → Bank) : (s.modBank f).others = s.others := rfl
@[simp] theorem State.modCore_ctx (s : State) (f : Core → Core) : (s.modCore f).ctx = s.ctx := rfl
@[simp] theorem State.setBank_ctx (s : State) (b : Bank) : (s.setBank b).ctx = s.ctx := rfl
@[simp] theorem State.modBank_ctx (s : State) (f : Bank → Bank) : (s.modBank f).ctx = s.ctx := rfl
@[simp] theorem State.modCore_hbm (s : State) (f : Core → Core) : (s.modCore f).hbm = s.hbm := rfl
@[simp] theorem State.setBank_hbm (s : State) (b : Bank) : (s.setBank b).hbm = s.hbm := rfl
@[simp] theorem State.modBank_hbm (s : State) (f : Bank → Bank) : (s.modBank f).hbm = s.hbm := rfl
@[simp] theorem State.modCore_tierMem (s : State) (f : Core → Core) : (s.modCore f).tierMem = s.tierMem := rfl
@[simp] theorem State.setBank_tierMem (s : State) (b : Bank) : (s.setBank b).tierMem = s.tierMem := rfl
@[simp] theorem State.modBank_tierMem (s : State) (f : Bank → Bank) : (s.modBank f).tierMem = s.tierMem := rfl
@[simp] theorem State.modCore_hostMem (s : State) (f : Core → Core) : (s.modCore f).hostMem = s.hostMem := rfl
@[simp] theorem State.setBank_hostMem (s : State) (b : Bank) : (s.setBank b).hostMem = s.hostMem := rfl
@[simp] theorem State.modBank_hostMem (s : State) (f : Bank → Bank) : (s.modBank f).hostMem = s.hostMem := rfl
@[simp] theorem State.modCore_metaWords (s : State) (f : Core → Core) : (s.modCore f).metaWords = s.metaWords := rfl
@[simp] theorem State.setBank_metaWords (s : State) (b : Bank) : (s.setBank b).metaWords = s.metaWords := rfl
@[simp] theorem State.modBank_metaWords (s : State) (f : Bank → Bank) : (s.modBank f).metaWords = s.metaWords := rfl
@[simp] theorem State.modCore_dataBad (s : State) (f : Core → Core) : (s.modCore f).dataBad = s.dataBad := rfl
@[simp] theorem State.setBank_dataBad (s : State) (b : Bank) : (s.setBank b).dataBad = s.dataBad := rfl
@[simp] theorem State.modBank_dataBad (s : State) (f : Bank → Bank) : (s.modBank f).dataBad = s.dataBad := rfl
@[simp] theorem State.modCore_metaBad (s : State) (f : Core → Core) : (s.modCore f).metaBad = s.metaBad := rfl
@[simp] theorem State.setBank_metaBad (s : State) (b : Bank) : (s.setBank b).metaBad = s.metaBad := rfl
@[simp] theorem State.modBank_metaBad (s : State) (f : Bank → Bank) : (s.modBank f).metaBad = s.metaBad := rfl
@[simp] theorem State.modCore_metaTold (s : State) (f : Core → Core) : (s.modCore f).metaTold = s.metaTold := rfl
@[simp] theorem State.setBank_metaTold (s : State) (b : Bank) : (s.setBank b).metaTold = s.metaTold := rfl
@[simp] theorem State.modBank_metaTold (s : State) (f : Bank → Bank) : (s.modBank f).metaTold = s.metaTold := rfl
@[simp] theorem State.modCore_tierBad (s : State) (f : Core → Core) : (s.modCore f).tierBad = s.tierBad := rfl
@[simp] theorem State.setBank_tierBad (s : State) (b : Bank) : (s.setBank b).tierBad = s.tierBad := rfl
@[simp] theorem State.modBank_tierBad (s : State) (f : Bank → Bank) : (s.modBank f).tierBad = s.tierBad := rfl
@[simp] theorem State.modCore_tierPoison (s : State) (f : Core → Core) : (s.modCore f).tierPoison = s.tierPoison := rfl
@[simp] theorem State.setBank_tierPoison (s : State) (b : Bank) : (s.setBank b).tierPoison = s.tierPoison := rfl
@[simp] theorem State.modBank_tierPoison (s : State) (f : Bank → Bank) : (s.modBank f).tierPoison = s.tierPoison := rfl
@[simp] theorem State.modCore_slice (s : State) (f : Core → Core) : (s.modCore f).slice = s.slice := rfl
@[simp] theorem State.setBank_slice (s : State) (b : Bank) : (s.setBank b).slice = s.slice := rfl
@[simp] theorem State.modBank_slice (s : State) (f : Bank → Bank) : (s.modBank f).slice = s.slice := rfl
@[simp] theorem State.modCore_msc (s : State) (f : Core → Core) : (s.modCore f).msc = s.msc := rfl
@[simp] theorem State.setBank_msc (s : State) (b : Bank) : (s.setBank b).msc = s.msc := rfl
@[simp] theorem State.modBank_msc (s : State) (f : Bank → Bank) : (s.modBank f).msc = s.msc := rfl
@[simp] theorem State.modCore_homeTx (s : State) (f : Core → Core) : (s.modCore f).homeTx = s.homeTx := rfl
@[simp] theorem State.setBank_homeTx (s : State) (b : Bank) : (s.setBank b).homeTx = s.homeTx := rfl
@[simp] theorem State.modBank_homeTx (s : State) (f : Bank → Bank) : (s.modBank f).homeTx = s.homeTx := rfl
@[simp] theorem State.modCore_requests (s : State) (f : Core → Core) : (s.modCore f).requests = s.requests := rfl
@[simp] theorem State.setBank_requests (s : State) (b : Bank) : (s.setBank b).requests = s.requests := rfl
@[simp] theorem State.modBank_requests (s : State) (f : Bank → Bank) : (s.modBank f).requests = s.requests := rfl
@[simp] theorem State.modCore_marks (s : State) (f : Core → Core) : (s.modCore f).marks = s.marks := rfl
@[simp] theorem State.setBank_marks (s : State) (b : Bank) : (s.setBank b).marks = s.marks := rfl
@[simp] theorem State.modBank_marks (s : State) (f : Bank → Bank) : (s.modBank f).marks = s.marks := rfl
@[simp] theorem State.modCore_asids (s : State) (f : Core → Core) : (s.modCore f).asids = s.asids := rfl
@[simp] theorem State.setBank_asids (s : State) (b : Bank) : (s.setBank b).asids = s.asids := rfl
@[simp] theorem State.modBank_asids (s : State) (f : Bank → Bank) : (s.modBank f).asids = s.asids := rfl
@[simp] theorem State.modCore_tlb (s : State) (f : Core → Core) : (s.modCore f).tlb = s.tlb := rfl
@[simp] theorem State.setBank_tlb (s : State) (b : Bank) : (s.setBank b).tlb = s.tlb := rfl
@[simp] theorem State.modBank_tlb (s : State) (f : Bank → Bank) : (s.modBank f).tlb = s.tlb := rfl
@[simp] theorem State.modCore_xinva (s : State) (f : Core → Core) : (s.modCore f).xinva = s.xinva := rfl
@[simp] theorem State.setBank_xinva (s : State) (b : Bank) : (s.setBank b).xinva = s.xinva := rfl
@[simp] theorem State.modBank_xinva (s : State) (f : Bank → Bank) : (s.modBank f).xinva = s.xinva := rfl
@[simp] theorem State.modCore_xinvc (s : State) (f : Core → Core) : (s.modCore f).xinvc = s.xinvc := rfl
@[simp] theorem State.setBank_xinvc (s : State) (b : Bank) : (s.setBank b).xinvc = s.xinvc := rfl
@[simp] theorem State.modBank_xinvc (s : State) (f : Bank → Bank) : (s.modBank f).xinvc = s.xinvc := rfl
@[simp] theorem State.modCore_xbusy (s : State) (f : Core → Core) : (s.modCore f).xbusy = s.xbusy := rfl
@[simp] theorem State.setBank_xbusy (s : State) (b : Bank) : (s.setBank b).xbusy = s.xbusy := rfl
@[simp] theorem State.modBank_xbusy (s : State) (f : Bank → Bank) : (s.modBank f).xbusy = s.xbusy := rfl
@[simp] theorem State.modCore_xpage (s : State) (f : Core → Core) : (s.modCore f).xpage = s.xpage := rfl
@[simp] theorem State.setBank_xpage (s : State) (b : Bank) : (s.setBank b).xpage = s.xpage := rfl
@[simp] theorem State.modBank_xpage (s : State) (f : Bank → Bank) : (s.modBank f).xpage = s.xpage := rfl
@[simp] theorem State.modCore_tensors (s : State) (f : Core → Core) : (s.modCore f).tensors = s.tensors := rfl
@[simp] theorem State.setBank_tensors (s : State) (b : Bank) : (s.setBank b).tensors = s.tensors := rfl
@[simp] theorem State.modBank_tensors (s : State) (f : Bank → Bank) : (s.modBank f).tensors = s.tensors := rfl
@[simp] theorem State.modCore_pageReqs (s : State) (f : Core → Core) : (s.modCore f).pageReqs = s.pageReqs := rfl
@[simp] theorem State.setBank_pageReqs (s : State) (b : Bank) : (s.setBank b).pageReqs = s.pageReqs := rfl
@[simp] theorem State.modBank_pageReqs (s : State) (f : Bank → Bank) : (s.modBank f).pageReqs = s.pageReqs := rfl
@[simp] theorem State.modCore_pageWait (s : State) (f : Core → Core) : (s.modCore f).pageWait = s.pageWait := rfl
@[simp] theorem State.setBank_pageWait (s : State) (b : Bank) : (s.setBank b).pageWait = s.pageWait := rfl
@[simp] theorem State.modBank_pageWait (s : State) (f : Bank → Bank) : (s.modBank f).pageWait = s.pageWait := rfl
@[simp] theorem State.modCore_priStopped (s : State) (f : Core → Core) : (s.modCore f).priStopped = s.priStopped := rfl
@[simp] theorem State.setBank_priStopped (s : State) (b : Bank) : (s.setBank b).priStopped = s.priStopped := rfl
@[simp] theorem State.modBank_priStopped (s : State) (f : Bank → Bank) : (s.modBank f).priStopped = s.priStopped := rfl
@[simp] theorem State.modCore_priAlloc (s : State) (f : Core → Core) : (s.modCore f).priAlloc = s.priAlloc := rfl
@[simp] theorem State.setBank_priAlloc (s : State) (b : Bank) : (s.setBank b).priAlloc = s.priAlloc := rfl
@[simp] theorem State.modBank_priAlloc (s : State) (f : Bank → Bank) : (s.modBank f).priAlloc = s.priAlloc := rfl
@[simp] theorem State.modCore_hwport (s : State) (f : Core → Core) : (s.modCore f).hwport = s.hwport := rfl
@[simp] theorem State.setBank_hwport (s : State) (b : Bank) : (s.setBank b).hwport = s.hwport := rfl
@[simp] theorem State.modBank_hwport (s : State) (f : Bank → Bank) : (s.modBank f).hwport = s.hwport := rfl
@[simp] theorem State.modCore_portDown (s : State) (f : Core → Core) : (s.modCore f).portDown = s.portDown := rfl
@[simp] theorem State.setBank_portDown (s : State) (b : Bank) : (s.setBank b).portDown = s.portDown := rfl
@[simp] theorem State.modBank_portDown (s : State) (f : Bank → Bank) : (s.modBank f).portDown = s.portDown := rfl
@[simp] theorem State.modCore_msix (s : State) (f : Core → Core) : (s.modCore f).msix = s.msix := rfl
@[simp] theorem State.setBank_msix (s : State) (b : Bank) : (s.setBank b).msix = s.msix := rfl
@[simp] theorem State.modBank_msix (s : State) (f : Bank → Bank) : (s.modBank f).msix = s.msix := rfl
@[simp] theorem State.modCore_queues (s : State) (f : Core → Core) : (s.modCore f).queues = s.queues := rfl
@[simp] theorem State.setBank_queues (s : State) (b : Bank) : (s.setBank b).queues = s.queues := rfl
@[simp] theorem State.modBank_queues (s : State) (f : Bank → Bank) : (s.modBank f).queues = s.queues := rfl
@[simp] theorem State.modCore_taking (s : State) (f : Core → Core) : (s.modCore f).taking = s.taking := rfl
@[simp] theorem State.setBank_taking (s : State) (b : Bank) : (s.setBank b).taking = s.taking := rfl
@[simp] theorem State.modBank_taking (s : State) (f : Bank → Bank) : (s.modBank f).taking = s.taking := rfl
@[simp] theorem State.modCore_polled (s : State) (f : Core → Core) : (s.modCore f).polled = s.polled := rfl
@[simp] theorem State.setBank_polled (s : State) (b : Bank) : (s.setBank b).polled = s.polled := rfl
@[simp] theorem State.modBank_polled (s : State) (f : Bank → Bank) : (s.modBank f).polled = s.polled := rfl
@[simp] theorem State.modCore_waiting (s : State) (f : Core → Core) : (s.modCore f).waiting = s.waiting := rfl
@[simp] theorem State.setBank_waiting (s : State) (b : Bank) : (s.setBank b).waiting = s.waiting := rfl
@[simp] theorem State.modBank_waiting (s : State) (f : Bank → Bank) : (s.modBank f).waiting = s.waiting := rfl
@[simp] theorem State.modCore_feWrites (s : State) (f : Core → Core) : (s.modCore f).feWrites = s.feWrites := rfl
@[simp] theorem State.setBank_feWrites (s : State) (b : Bank) : (s.setBank b).feWrites = s.feWrites := rfl
@[simp] theorem State.modBank_feWrites (s : State) (f : Bank → Bank) : (s.modBank f).feWrites = s.feWrites := rfl
@[simp] theorem State.modCore_devPosts (s : State) (f : Core → Core) : (s.modCore f).devPosts = s.devPosts := rfl
@[simp] theorem State.setBank_devPosts (s : State) (b : Bank) : (s.setBank b).devPosts = s.devPosts := rfl
@[simp] theorem State.modBank_devPosts (s : State) (f : Bank → Bank) : (s.modBank f).devPosts = s.devPosts := rfl
@[simp] theorem State.modCore_launches (s : State) (f : Core → Core) : (s.modCore f).launches = s.launches := rfl
@[simp] theorem State.setBank_launches (s : State) (b : Bank) : (s.setBank b).launches = s.launches := rfl
@[simp] theorem State.modBank_launches (s : State) (f : Bank → Bank) : (s.modBank f).launches = s.launches := rfl
@[simp] theorem State.modCore_saved (s : State) (f : Core → Core) : (s.modCore f).saved = s.saved := rfl
@[simp] theorem State.setBank_saved (s : State) (b : Bank) : (s.setBank b).saved = s.saved := rfl
@[simp] theorem State.modBank_saved (s : State) (f : Bank → Bank) : (s.modBank f).saved = s.saved := rfl
@[simp] theorem State.modCore_lastQueue (s : State) (f : Core → Core) : (s.modCore f).lastQueue = s.lastQueue := rfl
@[simp] theorem State.setBank_lastQueue (s : State) (b : Bank) : (s.setBank b).lastQueue = s.lastQueue := rfl
@[simp] theorem State.modBank_lastQueue (s : State) (f : Bank → Bank) : (s.modBank f).lastQueue = s.lastQueue := rfl
@[simp] theorem State.modCore_policy (s : State) (f : Core → Core) : (s.modCore f).policy = s.policy := rfl
@[simp] theorem State.setBank_policy (s : State) (b : Bank) : (s.setBank b).policy = s.policy := rfl
@[simp] theorem State.modBank_policy (s : State) (f : Bank → Bank) : (s.modBank f).policy = s.policy := rfl
@[simp] theorem State.modCore_budgets (s : State) (f : Core → Core) : (s.modCore f).budgets = s.budgets := rfl
@[simp] theorem State.setBank_budgets (s : State) (b : Bank) : (s.setBank b).budgets = s.budgets := rfl
@[simp] theorem State.modBank_budgets (s : State) (f : Bank → Bank) : (s.modBank f).budgets = s.budgets := rfl
@[simp] theorem State.modCore_moved (s : State) (f : Core → Core) : (s.modCore f).moved = s.moved := rfl
@[simp] theorem State.setBank_moved (s : State) (b : Bank) : (s.setBank b).moved = s.moved := rfl
@[simp] theorem State.modBank_moved (s : State) (f : Bank → Bank) : (s.modBank f).moved = s.moved := rfl
@[simp] theorem State.modCore_ecls (s : State) (f : Core → Core) : (s.modCore f).ecls = s.ecls := rfl
@[simp] theorem State.setBank_ecls (s : State) (b : Bank) : (s.setBank b).ecls = s.ecls := rfl
@[simp] theorem State.modBank_ecls (s : State) (f : Bank → Bank) : (s.modBank f).ecls = s.ecls := rfl
@[simp] theorem State.modCore_hsem (s : State) (f : Core → Core) : (s.modCore f).hsem = s.hsem := rfl
@[simp] theorem State.setBank_hsem (s : State) (b : Bank) : (s.setBank b).hsem = s.hsem := rfl
@[simp] theorem State.modBank_hsem (s : State) (f : Bank → Bank) : (s.modBank f).hsem = s.hsem := rfl
@[simp] theorem State.modCore_hsemAsk (s : State) (f : Core → Core) : (s.modCore f).hsemAsk = s.hsemAsk := rfl
@[simp] theorem State.setBank_hsemAsk (s : State) (b : Bank) : (s.setBank b).hsemAsk = s.hsemAsk := rfl
@[simp] theorem State.modBank_hsemAsk (s : State) (f : Bank → Bank) : (s.modBank f).hsemAsk = s.hsemAsk := rfl
@[simp] theorem State.modCore_hsemx (s : State) (f : Core → Core) : (s.modCore f).hsemx = s.hsemx := rfl
@[simp] theorem State.setBank_hsemx (s : State) (b : Bank) : (s.setBank b).hsemx = s.hsemx := rfl
@[simp] theorem State.modBank_hsemx (s : State) (f : Bank → Bank) : (s.modBank f).hsemx = s.hsemx := rfl
@[simp] theorem State.modCore_frame (s : State) (f : Core → Core) : (s.modCore f).frame = s.frame := rfl
@[simp] theorem State.setBank_frame (s : State) (b : Bank) : (s.setBank b).frame = s.frame := rfl
@[simp] theorem State.modBank_frame (s : State) (f : Bank → Bank) : (s.modBank f).frame = s.frame := rfl
@[simp] theorem State.modCore_frameNo (s : State) (f : Core → Core) : (s.modCore f).frameNo = s.frameNo := rfl
@[simp] theorem State.setBank_frameNo (s : State) (b : Bank) : (s.setBank b).frameNo = s.frameNo := rfl
@[simp] theorem State.modBank_frameNo (s : State) (f : Bank → Bank) : (s.modBank f).frameNo = s.frameNo := rfl
@[simp] theorem State.modCore_ranges (s : State) (f : Core → Core) : (s.modCore f).ranges = s.ranges := rfl
@[simp] theorem State.setBank_ranges (s : State) (b : Bank) : (s.setBank b).ranges = s.ranges := rfl
@[simp] theorem State.modBank_ranges (s : State) (f : Bank → Bank) : (s.modBank f).ranges = s.ranges := rfl
@[simp] theorem State.modCore_semas (s : State) (f : Core → Core) : (s.modCore f).semas = s.semas := rfl
@[simp] theorem State.setBank_semas (s : State) (b : Bank) : (s.setBank b).semas = s.semas := rfl
@[simp] theorem State.modBank_semas (s : State) (f : Bank → Bank) : (s.modBank f).semas = s.semas := rfl
@[simp] theorem State.modCore_queueOwner (s : State) (f : Core → Core) : (s.modCore f).queueOwner = s.queueOwner := rfl
@[simp] theorem State.setBank_queueOwner (s : State) (b : Bank) : (s.setBank b).queueOwner = s.queueOwner := rfl
@[simp] theorem State.modBank_queueOwner (s : State) (f : Bank → Bank) : (s.modBank f).queueOwner = s.queueOwner := rfl
@[simp] theorem State.modCore_counters (s : State) (f : Core → Core) : (s.modCore f).counters = s.counters := rfl
@[simp] theorem State.setBank_counters (s : State) (b : Bank) : (s.setBank b).counters = s.counters := rfl
@[simp] theorem State.modBank_counters (s : State) (f : Bank → Bank) : (s.modBank f).counters = s.counters := rfl
@[simp] theorem State.modCore_fab (s : State) (f : Core → Core) : (s.modCore f).fab = s.fab := rfl
@[simp] theorem State.setBank_fab (s : State) (b : Bank) : (s.setBank b).fab = s.fab := rfl
@[simp] theorem State.modBank_fab (s : State) (f : Bank → Bank) : (s.modBank f).fab = s.fab := rfl
@[simp] theorem State.modCore_links (s : State) (f : Core → Core) : (s.modCore f).links = s.links := rfl
@[simp] theorem State.setBank_links (s : State) (b : Bank) : (s.setBank b).links = s.links := rfl
@[simp] theorem State.modBank_links (s : State) (f : Bank → Bank) : (s.modBank f).links = s.links := rfl
@[simp] theorem State.modCore_routes (s : State) (f : Core → Core) : (s.modCore f).routes = s.routes := rfl
@[simp] theorem State.setBank_routes (s : State) (b : Bank) : (s.setBank b).routes = s.routes := rfl
@[simp] theorem State.modBank_routes (s : State) (f : Bank → Bank) : (s.modBank f).routes = s.routes := rfl
@[simp] theorem State.modCore_away (s : State) (f : Core → Core) : (s.modCore f).away = s.away := rfl
@[simp] theorem State.setBank_away (s : State) (b : Bank) : (s.setBank b).away = s.away := rfl
@[simp] theorem State.modBank_away (s : State) (f : Bank → Bank) : (s.modBank f).away = s.away := rfl
@[simp] theorem State.modCore_wires (s : State) (f : Core → Core) : (s.modCore f).wires = s.wires := rfl
@[simp] theorem State.setBank_wires (s : State) (b : Bank) : (s.setBank b).wires = s.wires := rfl
@[simp] theorem State.modBank_wires (s : State) (f : Bank → Bank) : (s.modBank f).wires = s.wires := rfl
@[simp] theorem State.modCore_hap (s : State) (f : Core → Core) : (s.modCore f).hap = s.hap := rfl
@[simp] theorem State.setBank_hap (s : State) (b : Bank) : (s.setBank b).hap = s.hap := rfl
@[simp] theorem State.modBank_hap (s : State) (f : Bank → Bank) : (s.modBank f).hap = s.hap := rfl
@[simp] theorem State.modCore_hostOps (s : State) (f : Core → Core) : (s.modCore f).hostOps = s.hostOps := rfl
@[simp] theorem State.setBank_hostOps (s : State) (b : Bank) : (s.setBank b).hostOps = s.hostOps := rfl
@[simp] theorem State.modBank_hostOps (s : State) (f : Bank → Bank) : (s.modBank f).hostOps = s.hostOps := rfl
@[simp] theorem State.modCore_devrdy (s : State) (f : Core → Core) : (s.modCore f).devrdy = s.devrdy := rfl
@[simp] theorem State.setBank_devrdy (s : State) (b : Bank) : (s.setBank b).devrdy = s.devrdy := rfl
@[simp] theorem State.modBank_devrdy (s : State) (f : Bank → Bank) : (s.modBank f).devrdy = s.devrdy := rfl
@[simp] theorem State.modCore_ptpSrc (s : State) (f : Core → Core) : (s.modCore f).ptpSrc = s.ptpSrc := rfl
@[simp] theorem State.setBank_ptpSrc (s : State) (b : Bank) : (s.setBank b).ptpSrc = s.ptpSrc := rfl
@[simp] theorem State.modBank_ptpSrc (s : State) (f : Bank → Bank) : (s.modBank f).ptpSrc = s.ptpSrc := rfl
@[simp] theorem State.modCore_fw (s : State) (f : Core → Core) : (s.modCore f).fw = s.fw := rfl
@[simp] theorem State.setBank_fw (s : State) (b : Bank) : (s.setBank b).fw = s.fw := rfl
@[simp] theorem State.modBank_fw (s : State) (f : Bank → Bank) : (s.modBank f).fw = s.fw := rfl
@[simp] theorem State.modCore_attest (s : State) (f : Core → Core) : (s.modCore f).attest = s.attest := rfl
@[simp] theorem State.setBank_attest (s : State) (b : Bank) : (s.setBank b).attest = s.attest := rfl
@[simp] theorem State.modBank_attest (s : State) (f : Bank → Bank) : (s.modBank f).attest = s.attest := rfl
@[simp] theorem State.modCore_log (s : State) (f : Core → Core) : (s.modCore f).log = s.log := rfl
@[simp] theorem State.setBank_log (s : State) (b : Bank) : (s.setBank b).log = s.log := rfl
@[simp] theorem State.modBank_log (s : State) (f : Bank → Bank) : (s.modBank f).log = s.log := rfl
@[simp] theorem State.modCore_logCnt (s : State) (f : Core → Core) : (s.modCore f).logCnt = s.logCnt := rfl
@[simp] theorem State.setBank_logCnt (s : State) (b : Bank) : (s.setBank b).logCnt = s.logCnt := rfl
@[simp] theorem State.modBank_logCnt (s : State) (f : Bank → Bank) : (s.modBank f).logCnt = s.logCnt := rfl
@[simp] theorem State.modCore_errors (s : State) (f : Core → Core) : (s.modCore f).errors = s.errors := rfl
@[simp] theorem State.setBank_errors (s : State) (b : Bank) : (s.setBank b).errors = s.errors := rfl
@[simp] theorem State.modBank_errors (s : State) (f : Bank → Bank) : (s.modBank f).errors = s.errors := rfl
@[simp] theorem State.modCore_lasting (s : State) (f : Core → Core) : (s.modCore f).lasting = s.lasting := rfl
@[simp] theorem State.setBank_lasting (s : State) (b : Bank) : (s.setBank b).lasting = s.lasting := rfl
@[simp] theorem State.modBank_lasting (s : State) (f : Bank → Bank) : (s.modBank f).lasting = s.lasting := rfl
@[simp] theorem State.modCore_phys (s : State) (f : Core → Core) : (s.modCore f).phys = s.phys := rfl
@[simp] theorem State.setBank_phys (s : State) (b : Bank) : (s.setBank b).phys = s.phys := rfl
@[simp] theorem State.modBank_phys (s : State) (f : Bank → Bank) : (s.modBank f).phys = s.phys := rfl
@[simp] theorem State.modCore_repairs (s : State) (f : Core → Core) : (s.modCore f).repairs = s.repairs := rfl
@[simp] theorem State.setBank_repairs (s : State) (b : Bank) : (s.setBank b).repairs = s.repairs := rfl
@[simp] theorem State.modBank_repairs (s : State) (f : Bank → Bank) : (s.modBank f).repairs = s.repairs := rfl
@[simp] theorem State.modCore_tiers (s : State) (f : Core → Core) : (s.modCore f).tiers = s.tiers := rfl
@[simp] theorem State.setBank_tiers (s : State) (b : Bank) : (s.setBank b).tiers = s.tiers := rfl
@[simp] theorem State.modBank_tiers (s : State) (f : Bank → Bank) : (s.modBank f).tiers = s.tiers := rfl
@[simp] theorem State.modCore_owners (s : State) (f : Core → Core) : (s.modCore f).owners = s.owners := rfl
@[simp] theorem State.setBank_owners (s : State) (b : Bank) : (s.setBank b).owners = s.owners := rfl
@[simp] theorem State.modBank_owners (s : State) (f : Bank → Bank) : (s.modBank f).owners = s.owners := rfl
@[simp] theorem State.modCore_moving (s : State) (f : Core → Core) : (s.modCore f).moving = s.moving := rfl
@[simp] theorem State.setBank_moving (s : State) (b : Bank) : (s.setBank b).moving = s.moving := rfl
@[simp] theorem State.modBank_moving (s : State) (f : Bank → Bank) : (s.modBank f).moving = s.moving := rfl
@[simp] theorem State.modCore_sent (s : State) (f : Core → Core) : (s.modCore f).sent = s.sent := rfl
@[simp] theorem State.setBank_sent (s : State) (b : Bank) : (s.setBank b).sent = s.sent := rfl
@[simp] theorem State.modBank_sent (s : State) (f : Bank → Bank) : (s.modBank f).sent = s.sent := rfl

end Sys2Proof.Machine
end

