-- ==== Sys2Proof/Tests/Slice0.lean ====
section
/-! SUPPORT. Tests: words written out from the encoding tables of the spec, a value that each check of a payload refuses, results
of worked examples, and for each obligation with hypotheses a state and operands that meet them, clause by clause. -/
open Sys2Proof Sys2Proof.Machine
namespace Sys2Proof.Tests
set_option Elab.async false

/-- The guard of an operation that always takes effect: p0 with SENSE 0. -/
def always : Guard := ⟨0, false⟩
/-- The guard that never holds: p0 with SENSE 1. -/
def never : Guard := ⟨0, true⟩
/-- The machine after reset, but with the core in focus running. -/
def base : State := { State.reset with core := { Core.reset false with run := .running } }
/-- `base` with the core in focus as `f` leaves it. -/
def onCore (f : Core → Core) : State := { base with core := f base.core }
/-- `base` with the bank in focus as `f` leaves it. -/
def onBank (f : Bank → Bank) : State := onCore fun c => { c with bankA := f c.bankA }
/-- `base` with one x register. -/
def withX (k : Nat) (v : BitVec 64) : State := onBank fun b => { b with x := vset b.x k v }

/-! ## Decoding: words written out bit by bit from the tables of chapters 3, 6, 10, 13, 17, 22 and 24 -/

/-- ADDI x5, x5, 3: OP 0x18 in [31:25], PRED 0, D 5 in [19:14], A 5 in [13:8], IMM 3 (Tables 3.2, 3.9, 6.2). -/
theorem test_decode_addi : decodeSlot .s 0x30014503 = .ok (Instr.addi ⟨always, 5, 5, 3⟩).view := by decide
/-- CMPI.EQ p3, x4, 0: OP 0x27. -/
theorem test_decode_cmpi : decodeSlot .s 0x4E00C400 = .ok (Instr.cmpiEq ⟨always, 3, 4, 0⟩).view := by decide
/-- LOOPI of 2 items with DRC 7 and a body of one bundle: OP 0x34 (Table 6.6). -/
theorem test_decode_loopi : decodeSlot .s 0x6801C002 = .ok (Instr.loopi ⟨always, 7, 0, 2⟩).view := by decide
/-- SYNC at level 0: OP 0x4F (Table 6.9). -/
theorem test_decode_sync : decodeSlot .s 0x9E000000 = .ok (Instr.sync ⟨always, 0, 0, 0⟩).view := by decide
/-- HALT: OP 0x54. -/
theorem test_decode_halt : decodeSlot .s 0xA8000000 = .ok (Instr.halt ⟨always, 0, 0, 0⟩).view := by decide
/-- LDG.W x10, [x3]: OP 0x3C (Table 22.1). -/
theorem test_decode_ldg : decodeSlot .s 0x78028300 = .ok (Instr.ldgW ⟨always, 10, 3, 0⟩).view := by decide
/-- STG.W x9, [x2]: OP 0x41. -/
theorem test_decode_stg : decodeSlot .s 0x82024200 = .ok (Instr.stgW ⟨always, 9, 2, 0⟩).view := by decide
/-- AADD.D x10, [x2], x9: OP 0x44, SZ 1 in bit 1 (Table 22.2). -/
theorem test_decode_aadd : decodeSlot .s 0x88028226 = .ok (Instr.aadd ⟨always, 10, 2, 9, true⟩).view := by decide
/-- REL with scope 6: OP 0x4C (Table 22.3). -/
theorem test_decode_rel : decodeSlot .s 0x98000006 = .ok (Instr.rel ⟨always, 6⟩).view := by decide
/-- MON [x3]: OP 0x51. -/
theorem test_decode_mon : decodeSlot .s 0xA2000300 = .ok (Instr.mon ⟨always, 0, 3, 0⟩).view := by decide
/-- FCLK x1: OP 0x5F (Table 24.6). -/
theorem test_decode_fclk : decodeSlot .s 0xBE004000 = .ok (Instr.fclk ⟨always, 1, 0, 0, 0⟩).view := by decide
/-- QPOLL x3, x4 with ADV: OP 0x59, SUB 1. -/
theorem test_decode_qpoll : decodeSlot .s 0xB200C401 = .ok (Instr.qpoll ⟨always, 3, 4, 0, 1⟩).view := by decide
/-- RBLD x6, [x1 + 16]: OP 0x5B, OFF 2. -/
theorem test_decode_rbld : decodeSlot .s 0xB6018102 = .ok (Instr.rbld ⟨always, 6, 1, 2⟩).view := by decide
/-- MPUSH.ROT z0, z1: OP 0 in [63:58], IN 64 in [52:46], OUT 65 in [45:39] (Table 3.4). -/
theorem test_decode_mpush : decodeSlot .m 0x0010208000000000 = .ok (Instr.mpushRot ⟨always, 64, 65, false, 0⟩).view := by decide
/-- MPUSH.GRD v8, v9, v10, v11: OP 6 (Table 13.3). -/
theorem test_decode_mgrd : decodeSlot .m 0x1802050122C00000 = .ok (Instr.mpushGrd ⟨always, 8, 10, false, 0, 9, 11⟩).view := by decide
/-- MLDA of 64 diagonals at 0x20000: OP 7 (Table 13.4). -/
theorem test_decode_mlda : decodeSlot .m 0x1C00000080003F00 = .ok (Instr.mlda ⟨always, 0x20000, 63, 0, false⟩).view := by decide
/-- MSWAP: OP 0x0A. -/
theorem test_decode_mswap : decodeSlot .m 0x2800000000000000 = .ok (Instr.mswap ⟨always, 0, 0, false, 0⟩).view := by decide
/-- CPY on channel 1 of tensor 3 to 0x8000: OP 0 in [63:58], CH 1 in [52:50] (Tables 3.5, 17.2). -/
theorem test_decode_cpy : decodeSlot .c0 0x000400C002000000 = .ok (Instr.cpy ⟨always, 1, 3, 0, 0x8000, 0, 0⟩).view := by decide
/-- VADD z1, z0, v5: D 1 in [51:46], A 64 in [45:39], B 5 in [38:32], DS (Table 3.3). -/
theorem test_decode_vadd : decodeSlot .v1 0x0000600500010000 = .ok (Instr.vadd ⟨always, 1, 64, 5, 0, 0, 0, 0, true, 0⟩).view := by decide
/-- VQNT v10, v8, v9: OP 0x32. -/
theorem test_decode_vqnt : decodeSlot .v0 0x6402840900000001 = .ok (Instr.vqnt ⟨always, 10, 8, 9, 0, 0, 0, 0, false, 1⟩).view := by decide

/-! ## Well-formedness: for each check a term that it refuses -/

/-- CLZ with a B field (R71). -/
theorem test_refuse_clz : ¬ (Instr.clz ⟨always, 1, 2, 3⟩).WellFormed := by decide
/-- A compare into p16. -/
theorem test_refuse_compare : ¬ (Instr.cmpEq ⟨always, 16, 2, 3⟩).WellFormed := by decide
/-- SHLI by 64. -/
theorem test_refuse_shift : ¬ (Instr.shli ⟨always, 1, 2, 64⟩).WellFormed := by decide
/-- PNOT with a B field. -/
theorem test_refuse_pnot : ¬ (Instr.pnot ⟨always, 1, 2, 3, false, false⟩).WellFormed := by decide
/-- LOOP with a count that names no x register. -/
theorem test_refuse_loop : ¬ (Instr.loop ⟨always, 0, 0, 1⟩).WellFormed := by decide
/-- SETS with a value field that names no x register. -/
theorem test_refuse_sets : ¬ (Instr.sets ⟨always, 0x42, 1⟩).WellFormed := by decide
/-- WAITV whose condition group is not a multiple of 8. -/
theorem test_refuse_waitv : ¬ (Instr.waitv ⟨always, 1, 9, 2, false⟩).WellFormed := by decide
/-- SYNC at level 4. -/
theorem test_refuse_sync : ¬ (Instr.sync ⟨always, 0, 0, 4⟩).WellFormed := by decide
/-- LDG.Q into x63 and a register beyond. -/
theorem test_refuse_ldgQ : ¬ (Instr.ldgQ ⟨always, 63, 1, 0⟩).WellFormed := by decide
/-- A fence scope of 11. -/
theorem test_refuse_rel : ¬ (Instr.rel ⟨always, 11⟩).WellFormed := by decide
/-- SEMA.ACQUIRE with the SUB value of RELEASE (Table 24.7). -/
theorem test_refuse_sema : ¬ (Instr.semaAcquire ⟨always, 1, 2, 0, 1⟩).WellFormed := by decide
/-- VADD with TYPE INT32. -/
theorem test_refuse_vadd : ¬ (Instr.vadd ⟨always, 1, 2, 3, 0, 0, 3, 0, false, 0⟩).WellFormed := by decide
/-- VADD into stream z16. -/
theorem test_refuse_stream : ¬ (Instr.vadd ⟨always, 16, 2, 3, 0, 0, 0, 0, true, 0⟩).WellFormed := by decide
/-- VADD from operand code 80. -/
theorem test_refuse_operand : ¬ (Instr.vadd ⟨always, 1, 80, 3, 0, 0, 0, 0, false, 0⟩).WellFormed := by decide
/-- VIADD with the saturation mode 3 (R157). -/
theorem test_refuse_viadd : ¬ (Instr.viadd ⟨always, 1, 2, 3, 0, 0, 3, 0, false, 3⟩).WellFormed := by decide
/-- MPUSH.DRV with REV (R203). -/
theorem test_refuse_mpush : ¬ (Instr.mpushDrv ⟨always, 1, 2, true, 0⟩).WellFormed := by decide
/-- MPUSH.GRD with one register for both outputs. -/
theorem test_refuse_mgrd : ¬ (Instr.mpushGrd ⟨always, 1, 2, false, 0, 3, 2⟩).WellFormed := by decide
/-- MLDA of 64 diagonals from diagonal 1. -/
theorem test_refuse_mlda : ¬ (Instr.mlda ⟨always, 0, 63, 1, false⟩).WellFormed := by decide
/-- MCLR of nothing. -/
theorem test_refuse_mclr : ¬ (Instr.mclr ⟨always, 0, 0⟩).WellFormed := by decide
/-- CPY with an XA field (R254). -/
theorem test_refuse_cpy : ¬ (Instr.cpy ⟨always, 0, 3, 0, 0, 1, 0⟩).WellFormed := by decide
/-- GATH of 65 rows. -/
theorem test_refuse_gath : ¬ (Instr.gath ⟨always, 0, 3, 65, 0⟩).WellFormed := by decide
/-- WADV by 257 rows. -/
theorem test_refuse_wadv : ¬ (Instr.wadv ⟨always, 0, 0, 0, 257⟩).WellFormed := by decide

/-! ## Witnesses: for each obligation a state and operands that meet the hypotheses of its clauses -/

theorem wit_DecodeEncode :
    (Instr.addi ⟨always, 63, 63, 255⟩).WellFormed ∧ (Instr.addi ⟨always, 63, 63, 255⟩).view.homeSlot = some .s ∧
    (Instr.vadd ⟨always, 63, 79, 79, 0, 7, 2, 3, false, 0⟩).WellFormed ∧
    (Instr.vadd ⟨always, 63, 79, 79, 0, 7, 2, 3, false, 0⟩).view.homeSlot = some .v0 ∧
    (Instr.csig ⟨always, 7, 63, 63, 10, true⟩).WellFormed ∧ (Instr.csig ⟨always, 7, 63, 63, 10, true⟩).view.homeSlot = some .c0 ∧
    (Instr.mlda ⟨always, 0x3FFFFF, 0, 63, false⟩).WellFormed ∧
    (Instr.mlda ⟨always, 0x3FFFFF, 0, 63, false⟩).view.homeSlot = some .m := by decide

theorem wit_EncodeDecode : (∃ v, decodeSlot .s 0xFFFFFFFF30014503 = .ok v) ∧ (∃ v, decodeSlot .v1 0x0000600500010000 = .ok v) ∧
    (∃ v, decodeSlot .m 0x2800000000000000 = .ok v) ∧ ∃ v, decodeSlot .c1 0x000400C002000000 = .ok v :=
  ⟨⟨_, rfl⟩, ⟨_, rfl⟩, ⟨_, rfl⟩, ⟨_, rfl⟩⟩

theorem wit_AluResults : base.holds always = true ∧ (withX 1 7).holds ⟨15, true⟩ = true := by decide

theorem wit_BitOperationResults : base.holds always = true ∧ (1#64 <<< 63).getLsbD 63 = true ∧ 0 ≤ (63 : Nat) := by decide

theorem wit_ImmediateResults : base.holds always = true := by decide

theorem wit_CompareAndPredicateResults : base.holds always = true := by decide

theorem wit_BranchesTransfer :
    base.holds always = true ∧ targetOk base.core 0x3FFFC = true ∧ targetOk base.core 0x40000 = false ∧ targetOk base.core 2 = false ∧
    targetOk base.core (-4) = false := by decide

/-- The seat of an operation at an address of the IMEM. -/
def seatAt (pc : Nat) : IssueCtx := ⟨.s, ⟨none, false, 0, pc, 4, 0, 0, 0, 0, 0⟩⟩

theorem wit_LoopsStartAndBreak :
    base.holds always = true ∧ base.holds never = false ∧ 4 + base.core.bodyBytes 4 1 ≤ 0x40000 ∧
    (base.readX 1).toNat < 2 ^ 32 ∧ 2 ^ 32 ≤ ((withX 1 0x100000000).readX ((4#8).extractLsb' 2 6)).toNat ∧
    0x40000 < 0x3FFFC + 4 + base.core.bodyBytes 0x40000 1 ∧ ({ base with ctx := seatAt 0x3FFFC } : State).holds always = true ∧
    (onBank fun b => { b with loop := { b.loop with act := true } }).bank.loop.act = true ∧ base.bank.loop.act = false := by decide

/-- A loop with the two stage counters given. -/
def looping (irc : BitVec 32) (drc : BitVec 6) : State :=
  onBank fun b => { b with loop := { b.loop with act := true }, irc := irc, drc := drc }
/-- The same with three items put aside. -/
def aside : State := onBank fun b => { b with loop := { b.loop with act := true, lpend := 3 } }

theorem wit_PassEndRotates :
    (looping 1 2).bank.loop.brk = false ∧ (looping 1 2).core.preReq = none ∧ (looping 1 2).bank.loop.lpend = 0 ∧ (looping 1 2).bank.irc ≠ 0 ∧
    (looping 0 2).bank.irc = 0 ∧ (looping 0 2).bank.drc ≠ 0 ∧ (looping 0 0).bank.irc = 0 ∧ (looping 0 0).bank.drc = 0 ∧
    (onBank fun b => { b with loop := { b.loop with act := true, brk := true } }).bank.loop.brk = true ∧
    (let r (s : State) : State := s.modCore fun c => { c with preReq := some 0 }
     (r (looping 1 2)).bank.loop.brk = false ∧ (r (looping 1 2)).core.preReq.isSome = true ∧ (r (looping 1 2)).core.run = .running ∧
       (r (looping 1 2)).bank.drc ≠ 0 ∧ (r (looping 1 0)).bank.drc = 0 ∧ (r (looping 1 0)).core.run = .running) ∧
    aside.bank.loop.brk = false ∧ aside.core.preReq = none ∧ aside.bank.loop.lpend ≠ 0 ∧ aside.bank.draining = false ∧
    aside.bank.irc = 0 ∧ aside.bank.drc = 0 := by decide

theorem wit_PreemptionPointActs :
    base.holds always = true ∧ base.core.preReq = none ∧ (onCore fun c => { c with preReq := some 0 }).core.preReq.isSome = true ∧
    (onCore fun c => { c with preReq := some 0 }).core.run = .running ∧ (onCore fun c => { c with run := .draining }).core.run ≠ .running ∧
    (onCore fun c => { c with run := .draining }).holds always = true ∧
    (onCore fun c => { c with preReq := some 0 }).bank.loop.act = false ∧
    (onCore fun c => { c with preReq := some 0, bankA := { c.bankA with loop := { c.bankA.loop with act := true } } }).bank.loop.act = true ∧
    (onCore fun c => { c with preReq := some 0, bankA := { c.bankA with loop := { c.bankA.loop with act := true } } }).holds always
      = true := by decide

/-- The PTP latch is armed. -/
def latched : State := onBank fun b => { b with nsArmed := true }

theorem wit_SpecialRegisterReads :
    base.holds always = true ∧ base.special 5 = none ∧ base.special 0x3FF = none ∧ base.special 0 = some 0 ∧
    engineRegister 0 = false ∧ base.special 0x0CA = some 0 ∧ base.bank.nsArmed = false ∧ engineRegister 0x0CA = false ∧
    (∃ w, base.special 0x080 = some w) ∧ engineRegister 0x080 = true ∧ (∃ w, base.special 0x0A8 = some w) ∧
    engineRegister 0x0A8 = true ∧ latched.bank.nsArmed = true ∧ latched.holds always = true :=
  ⟨by decide, by decide, by decide, by decide, by decide, by decide, by decide, by decide, ⟨_, rfl⟩, by decide, ⟨_, rfl⟩, by decide,
    by decide, by decide⟩

/-- An arrival at level 0 is outstanding. -/
def arrived : State := onBank fun b => { b with out := vset b.out 0 (some ⟨0, 1, false, 0, 0, none, false⟩) }

theorem wit_SpecialRegisterWrites :
    base.holds always = true ∧ base.special 5 = none ∧ base.special 0 ≠ none ∧ specialWritable 0 = false ∧
    base.special 0x020 ≠ none ∧ (looping 1 1).bank.loop.act = true ∧ (looping 1 1).special 0x022 ≠ none ∧
    base.special 0x0C0 ≠ none ∧ (vget arrived.bank.out 0 none).isSome = true ∧ arrived.special 0x0C0 ≠ none ∧
    base.special 0x042 ≠ none ∧ specialWritable 0x042 = true ∧ specialWritable 0x0E8 = true ∧
    (vget arrived.bank.out 3 none).isSome = false ∧ specialWritable 0x0C3 = true := by decide

theorem wit_GlobalAccessesStart :
    let s := withX 1 0x003FFFFFFFFFFFF0
    s.holds always = true ∧ ((s.readX 1 + 16 * (0#8).signExtend 64).extractLsb' 54 10 = 0) ∧
    (s.readX 1 + 16 * (0#8).signExtend 64).toNat % 16 = 0 ∧ ((s.readX 1 + 1 * (15#8).signExtend 64).extractLsb' 54 10 = 0) ∧
    (s.readX 1).extractLsb' 54 10 = 0 ∧ (s.readX 1).toNat % 8 = 0 := by decide

theorem wit_MisalignedAccessesTrap :
    (withX 1 0x0040000000000000).holds always = true ∧
    ((withX 1 0x0040000000000000).readX 1).extractLsb' 54 10 ≠ 0 ∧ ((withX 1 4).readX 1).extractLsb' 54 10 = 0 ∧
    ((withX 1 0x0040000000000000).readX 1 + 4 * (0#8).signExtend 64).extractLsb' 54 10 ≠ 0 ∧
    ((withX 1 2).readX 1 + 4 * (0#8).signExtend 64).toNat % 4 ≠ 0 ∧ ((withX 1 2).readX 1 + 8 * (255#8).signExtend 64).extractLsb' 54 10 ≠ 0 ∧
    ((withX 1 4).readX 1 + 8 * (0#8).signExtend 64).extractLsb' 54 10 = 0 ∧ ((withX 1 4).readX 1 + 8 * (0#8).signExtend 64).toNat % 8 ≠ 0 ∧
    ((withX 1 4).readX 1).toNat % (if true then 8 else 4) ≠ 0 ∧ ((withX 1 2).readX 1).toNat % (if false then 8 else 4) ≠ 0 := by decide

theorem wit_MisalignedAccessesTrap_sizes :
    ((withX 1 0x0040000000000000).readX 1 + 1 * (0#8).signExtend 64).extractLsb' 54 10 ≠ 0 ∧
    ((withX 1 0x0040000000000000).readX 1 + 2 * (0#8).signExtend 64).extractLsb' 54 10 ≠ 0 ∧
    ((withX 1 0x0040000000000000).readX 1 + 8 * (0#8).signExtend 64).extractLsb' 54 10 ≠ 0 ∧
    ((withX 1 0x0040000000000000).readX 1 + 16 * (0#8).signExtend 64).extractLsb' 54 10 ≠ 0 ∧
    ((withX 1 1).readX 1 + 2 * (0#8).signExtend 64).extractLsb' 54 10 = 0 ∧ ((withX 1 1).readX 1 + 2 * (0#8).signExtend 64).toNat % 2 ≠ 0 ∧
    ((withX 1 1).readX 1 + 4 * (0#8).signExtend 64).extractLsb' 54 10 = 0 ∧ ((withX 1 1).readX 1 + 4 * (0#8).signExtend 64).toNat % 4 ≠ 0 ∧
    ((withX 1 1).readX 1 + 8 * (0#8).signExtend 64).extractLsb' 54 10 = 0 ∧ ((withX 1 1).readX 1 + 8 * (0#8).signExtend 64).toNat % 8 ≠ 0 ∧
    ((withX 1 1).readX 1 + 16 * (0#8).signExtend 64).extractLsb' 54 10 = 0 ∧ ((withX 1 1).readX 1 + 16 * (0#8).signExtend 64).toNat % 16 ≠ 0 := by decide

theorem wit_AtomicsCombine : 2 ^ 32 - 1 < 2 ^ 32 ∧ 2 ^ 64 - 1 < 2 ^ 64 := by decide

theorem wit_FencesHold :
    let h (s : State) : State := s.modBankOf false fun b => { b with fenceHost := true }
    let busy := onBank fun b => { b with fenceW := true, posted := [⟨0, .store, 0, 0, 4, 0, 0, 0, 0, 0, 0, .walk, 0, 0, 0⟩] }
    let ended (s : State) : Bool := !((s.modBankOf false Bank.settleFences).bankOf false).fenceR &&
      !((s.modBankOf false Bank.settleFences).bankOf false).fenceW
    base.holds always = true ∧ (base.bankOf false).fenceHost = false ∧ ended (h busy) = false ∧ ((h base).bankOf false).fenceHost = true ∧
    ended (h base) = true := by decide

/-- Level 0 has `n` tasks in its domain; nothing else differs from `base`. -/
def domain (n : BitVec 16) : State :=
  onBank fun b => { b with dm := vset b.dm 0 (0x8000000000000003 ||| (n.setWidth 64 <<< 16)) }

/-- A SYNC has arrived at level 0, and its phase has completed. -/
def syncDone : State :=
  onBank fun b => { b with syncWait := some ⟨0, true⟩, out := vset b.out 0 (some ⟨0, 1, true, 0, 0, none, false⟩) }

theorem wit_BarriersArrive :
    (domain 2).holds always = true ∧ (domain 2).bank.dmValid 0 = true ∧ (domain 2).bank.dmCount 0 ≤ 8192 ∧
    vget (domain 2).bank.out 0 none = none ∧ (domain 2).bank.accessesDone 1 = true ∧ (domain 2).bank.storesDone = true ∧ base.bank.dmValid 0 = false ∧
    (domain 8193).bank.dmValid 0 = true ∧ 8192 < (domain 8193).bank.dmCount 0 ∧ vget arrived.bank.out 0 none ≠ none ∧
    (domain 2).bank.syncWait = none ∧ (domain 2).bank.issuedUpTo (domain 2).ctx.entry.seq = true ∧
    (domain 2).bank.resultsLanded = true ∧ (domain 2).core.mesh.done = true ∧ (domain 2).core.copiesDone = true ∧
    (takeSchedCause (domain 2)).isNone = true ∧ (domain 2).core.frozenChan = none ∧
    syncDone.bank.syncWait = some ⟨0, true⟩ ∧ vget syncDone.bank.out 0 none = some ⟨0, 1, true, 0, 0, none, false⟩ := by decide

theorem wit_BarriersArrive_excess :
    let s := onBank fun b => { b with dm := vset b.dm 3 0x8000000000020006, out := vset b.out 3 (some ⟨0, 1, false, 0, 0, none, false⟩) }
    s.holds always = true ∧ s.bank.dmValid 3 = true ∧ s.bank.dmCount 3 ≤ 8192 ∧ vget s.bank.out 3 none ≠ none := by decide

theorem wit_BarriersArrive_event :
    let e : Entry := ⟨some (Instr.sync ⟨always, 0, 0, 0⟩).view, false, 0, 0, 4, 0, 0, 0, 0, 0⟩
    let s := onBank fun b => { b with syncWait := some ⟨0, false⟩, queues := vset b.queues 0 [e] }
    s.bank.syncWait = some ⟨0, false⟩ ∧ s.bank.queues[0]? = some [e] := by decide

/-- An ARRV at the head of the S queue behind a store that has not performed. -/
theorem wit_BarriersArrive_held :
    let e : Entry := ⟨some (Instr.arrv ⟨always, 0, 0, 0⟩).view, false, 0, 0, 4, 0, 1, 1, 0, 0⟩
    let s := (domain 2).modBank fun b => { b with
      queues := vset b.queues 0 [e], posted := [⟨0, .store, 0, 0, 4, 0, 0, 0, 0, 0, 0, .walk, 0, 0, 0⟩] }
    s.bank.queue .s = [e] ∧ e.op = some (Instr.arrv ⟨always, 0, 0, 0⟩).view ∧ (s.seat .s e).holds always = true ∧
    s.bank.dmValid 0 = true ∧ s.bank.dmCount 0 ≤ 8192 ∧ vget s.bank.out 0 none = none ∧ s.bank.accessesDone e.seq = false := by decide

/-- The monitor is armed. -/
def armed (trig : Bool) : State := onBank fun b => { b with monaddr := if trig then 3 else 1, mwait := true }

/-- A WAITV on VFRZ of watermark 0 with no timeout. -/
def waitingv (start : Nat) : State :=
  onBank fun b => { b with tracked := [⟨[⟨.x, 1⟩], .waitv ⟨0, [⟨0x2000000000000000, 0⟩], false, 1, start, 0, 0, []⟩, 0, 0, 0, 0, .s⟩] }

theorem wit_WaitsAndMonitor :
    (withX 1 128).holds always = true ∧ ((withX 1 128).readX 1 + 128 * (0#8).signExtend 64).extractLsb' 54 10 = 0 ∧
    ((withX 1 128).readX 1 + 128 * (0#8).signExtend 64).toNat % 128 = 0 ∧ base.bank.monaddr.getLsbD 0 = false ∧
    (armed true).bank.monaddr.getLsbD 0 = true ∧ (armed true).bank.monaddr.getLsbD 1 = true ∧
    (armed false).bank.monaddr.getLsbD 0 = true ∧ (armed false).bank.monaddr.getLsbD 1 = false ∧ (armed false).core.preReq = none ∧
    (armed true).bank.mwait = true ∧ (∀ c ∈ base.waitConds 8, c.cause = none) ∧
    (waitingv 0).core.run.issues = true ∧ (waitingv 0).bank.places Tracked.isWaitv = [0] ∧
    ({ waitingv 0 with cycle := 25 } : State).bank.places (Tracked.waitvExpired { waitingv 0 with cycle := 25 }) = [0] ∧
    (let s := onCore fun c => { c with preReq := some 0, bankA := { c.bankA with monaddr := 1, mwait := true } }
     s.holds always = true ∧ s.bank.mwait = true ∧ s.bank.monaddr.getLsbD 0 = true ∧ s.bank.monaddr.getLsbD 1 = false ∧
       s.core.preReq.isSome = true) := by
  decide

/-- A copy of `n` bytes by operation `v` to address 0x1000, `l` of them landed, with returned bytes and failed units. -/
def copying (v : View) (n l : Nat) (buf : List (Nat × BitVec 8)) (failed : List (Nat × BitVec 4)) : Copy :=
  ⟨v, 0, 0, 1, 0x1000, n, 0, 1, 0, 1, n, l, none, 0, CopyArgs.none 0, buf, failed, 0, 0, false, [], false, false, none, 0⟩
/-- `base` with a copy current in channel `n`, running or frozen. -/
def withCopy (n : Nat) (frz : Bool) (c : Copy) : State :=
  let ch : Channel := { Channel.reset with
    cur := some c, wm := { c.startWm with frz := frz }, state := if frz then 3 else 1, tid := 1 }
  onCore fun k => { k with chans := vset k.chans n ch }
/-- CLL on channel 0, CPY on channel 0. -/
def cllOp : View := (Instr.cll ⟨always, 0, 0, 0x1000, 1⟩).view
def cpyOp : View := (Instr.cpy ⟨always, 0, 3, 0, 0x1000, 0, 0⟩).view

/-- What HALT waits for is over. -/
def atRest (s : State) : Bool := s.bank.issuedUpTo s.ctx.entry.seq && s.bank.resultsLanded && s.bank.storesTranslated &&
  s.core.mesh.done && s.core.copiesRest

theorem wit_TasksHaltAndTrap :
    base.holds always = true ∧ atRest base = true ∧ (takeSchedCause base).isNone = true ∧ base.core.frozenChan = none ∧
    atRest (withCopy 7 true (copying cllOp 4 0 [] [])) = true ∧ (takeSchedCause (withCopy 7 true (copying cllOp 4 0 [] []))).isNone = true ∧
    (withCopy 7 true (copying cllOp 4 0 [] [])).core.frozenChan = some 7 ∧ atRest (waitingv 0) = false ∧
    base.bank.issuedUpTo base.ctx.entry.seq = true := by decide

/-- A device queue 256 of two entries that is enabled, with HEAD and TAIL. -/
def queued (head tail : BitVec 32) : State :=
  { base with devrdy := true, queues := [(256, ⟨⟨#[0x8000000000000001, 0, tail.setWidth 64, head.setWidth 64, 0, 0, 0, 0], rfl⟩, 0⟩)] }

theorem wit_LaunchesPost :
    base.holds always = true ∧ ((withX 1 64).readX 1).toNat % 128 ≠ 0 ∧ (base.readX 1).toNat % 128 = 0 ∧ base.served 256 = false ∧
    (queued 0 2).served 256 = true ∧ 2 ^ ((queued 0 2).queueAt 256).log2 ≤ (((queued 0 2).queueAt 256).tail -
      ((queued 0 2).queueAt 256).head).toNat ∧ (queued 0xFFFFFFFF 0).served 256 = true ∧
    (((queued 0xFFFFFFFF 0).queueAt 256).tail - ((queued 0xFFFFFFFF 0).queueAt 256).head).toNat
      < 2 ^ ((queued 0xFFFFFFFF 0).queueAt 256).log2 := by decide

theorem wit_CollieOperations :
    let held : State := { base with semas := [(0, base.collieNo)] }
    let other : State := { base with semas := [(0, base.collieNo + 1)] }
    base.holds always = true ∧ base.holder ((base.readX 1).toNat % 32) = none ∧ held.holder 0 = some held.collieNo ∧
    other.holder 0 ≠ none ∧ other.holder 0 ≠ some other.collieNo ∧ (onCore fun c => { c with wdog := some 9 }).core.wdog = some 9 ∧
    (base.readX 1).toNat % 512 < 272 ∧ (base.readX 2).toNat + 64 ≤ base.core.spadSize ∧ (base.readX 2).toNat % 64 = 0 ∧
    ((run (base.readX 2).toNat 64).find? base.core.spadBad.contains) = none ∧
    (let pa := (withX 1 0x3E0000000000).readX 1 + 8 * (0#8).signExtend 64
     pa.toNat % 8 = 0 ∧ pa.toNat < 2 ^ 52 ∧ deviceAddr pa.toNat = true) ∧
    ((withX 1 4).readX 1 + 8 * (0#8).signExtend 64).toNat % 8 ≠ 0 ∧
    (base.readX 1 + 8 * (0#8).signExtend 64).toNat % 8 = 0 ∧
    deviceAddr (base.readX 1 + 8 * (0#8).signExtend 64).toNat = false ∧
    2 ^ 52 ≤ ((withX 1 0x10000000000000).readX 1 + 8 * (0#8).signExtend 64).toNat ∧ base.core.spadSize < ((withX 2 0x2FFFC1).readX 2).toNat + 64 ∧
    ((withX 2 0x2FFFBF).readX 2).toNat + 64 ≤ base.core.spadSize ∧ ((withX 2 0x2FFFBF).readX 2).toNat % 64 ≠ 0 ∧
    272 ≤ ((withX 1 272).readX 1).toNat % 512 := by decide

/-- A V payload on registers: D 1, A 2, B 3, C 4, under m0. -/
def regs : VOp := ⟨always, 1, 2, 3, 4, 0, 0, 0, false, 0⟩
/-- A V payload from stream z0 into stream z1. -/
def flows : VOp := ⟨always, 1, 64, 3, 4, 0, 0, 0, true, 0⟩
/-- The descriptor of a stream of 256 FP32 elements at an address. -/
def stream (a : BitVec 22) : BitVec 512 := a.setWidth 512 ||| (1 <<< 26) ||| ((256 ||| (4 <<< 16)) <<< 128)
/-- `base` with z0 and z1 bound. -/
def streams : State := onBank fun b => { b with z := vset (vset b.z 0 (stream 0)) 1 (stream 0x2FFC00) }
/-- The uses that `flows` makes of its streams. -/
def flowUses : List Use := [makeUse (stream 0) ⟨0, false, 128⟩, makeUse (stream 0x2FFC00) ⟨1, true, 128⟩]

theorem ready_regs (srcs : List (BitVec 7)) (h : srcs = [] ∨ srcs = [2] ∨ srcs = [3] ∨ srcs = [2, 3] ∨ srcs = [3, 4] ∨ srcs = [2, 3, 4])
    (whole full : Bool) : VReady regs srcs whole full .none [] base := by
  rcases h with rfl | rfl | rfl | rfl | rfl | rfl <;> cases whole <;> cases full <;> exact ⟨rfl, rfl, rfl, rfl, rfl⟩

theorem quiet_flags (fl : List Flags) (f : VOp) (srcs : List (BitVec 7)) (us : List Use) (h : (vAfterRead f srcs false us base).trapEnable = 0) :
    NoFlagTrap fl (vAfterRead f srcs false us base) := by simp [NoFlagTrap, h]

theorem wit_VectorFloatResults :
    VReady regs [regs.a] false false .none [] base ∧ VReady regs [regs.a, regs.b] false false .none [] base ∧
    VReady regs [regs.a, regs.b, regs.c] false false .none [] base ∧ VReady flows [flows.a] false false .none flowUses streams ∧
    (vAfterRead regs [regs.a, regs.b, regs.c] false [] base).trapEnable = 0 ∧
    (vAfterRead flows [flows.a] false flowUses streams).trapEnable = 0 :=
  ⟨ready_regs _ (by decide) _ _, ready_regs _ (by decide) _ _, ready_regs _ (by decide) _ _, ⟨rfl, by decide +kernel, rfl, by decide +kernel, by decide +kernel⟩, rfl, by decide +kernel⟩

theorem wit_VectorIntegerResults :
    VReady regs [regs.a] false false .none [] base ∧ VReady regs [regs.a, regs.b] false false .none [] base ∧
    ({ regs with imm := 0x8000 } : VOp).imm.getLsbD 15 = true ∧ regs.imm.getLsbD 15 = false ∧
    VReady { regs with imm := 0x801F } [regs.a] false false .none [] base ∧ (vAfterRead regs [regs.a] false [] base).trapEnable = 0 :=
  ⟨ready_regs _ (by decide) _ _, ready_regs _ (by decide) _ _, by decide, by decide, ⟨rfl, rfl, rfl, rfl, rfl⟩, rfl⟩

theorem wit_VectorCompareResults :
    VReady regs [regs.a, regs.b] false false .none [] base ∧ (vAfterRead regs [regs.a, regs.b] false [] base).trapEnable = 0 :=
  ⟨ready_regs _ (by decide) _ _, rfl⟩

theorem wit_VectorConversionResults :
    VReady regs [regs.a, regs.b] false false .none [] base ∧ VReady regs [regs.a] false false .none [] base ∧
    (vAfterRead regs [regs.a] false [] base).trapEnable = 0 :=
  ⟨ready_regs _ (by decide) _ _, ready_regs _ (by decide) _ _, rfl⟩

theorem wit_VectorMovementResults :
    VReady regs [regs.a, regs.b] true false .none [] base ∧ VReady regs [regs.a] true false .none [] base ∧
    VReady regs [regs.a] true true .none [] base ∧ (vAfterRead regs [regs.a] true [] base).trapEnable = 0 :=
  ⟨ready_regs _ (by decide) _ _, ready_regs _ (by decide) _ _, ready_regs _ (by decide) _ _, rfl⟩

theorem wit_VectorReductionResults :
    VReady regs [regs.a] false false .none [] base ∧ VReady regs [regs.a, regs.b] false false .none [] base ∧
    VReady regs [regs.a] false true .none [] base ∧ (vAfterRead regs [regs.a] false [] base).trapEnable = 0 :=
  ⟨ready_regs _ (by decide) _ _, ready_regs _ (by decide) _ _, ready_regs _ (by decide) _ _, rfl⟩

theorem wit_ScalarAndMaskMoves :
    base.holds regs.g = true ∧ VReady regs [] false false .none [] base ∧ VReady regs [regs.a] true false .none [] base ∧
    (vAfterRead regs [] false [] base).trapEnable = 0 :=
  ⟨rfl, ready_regs _ (by decide) _ _, ready_regs _ (by decide) _ _, rfl⟩

/-- Direct accesses to the words from 0x2FFE00 to the end of the scratchpad, one for each lane. -/
def words (reads writes apart : Bool) : VDirect := ⟨(List.range 128).map fun i => ((0x2FFE00 + 4 * i : Nat) : Int), reads, writes, apart⟩
/-- `base` with x2 at 0x2FFE00. -/
def atTop : State := withX 2 0x2FFE00

theorem wit_ScratchpadAccessResults :
    VReady flows [flows.a] false false .none flowUses streams ∧
    VReady regs [] false false ⟨(onLanes (base.readM 0)).map fun i => ((0 + 4 * i : Nat) : Int), true, false, false⟩ [] base ∧
    VReady regs [] false false ⟨(onLanes (atTop.readM 0)).map fun i => ((0x2FFE00 + 4 * i : Nat) : Int), true, false, false⟩ [] atTop ∧
    VReady regs [regs.b] false false ⟨(onLanes (atTop.readM 0)).map fun i => ((0x2FFE00 + 4 * i : Nat) : Int), false, true, false⟩ [] atTop ∧
    (atTop.readX (regs.a.setWidth 6)).toNat % 4 = 0 ∧
    (∃ b, indexLanes regs [regs.b] atTop = some b ∧ ∀ i ∈ onLanes (atTop.readM 0), (b.lane i).toNat < indexLimit regs) ∧
    (∃ b, indexLanes regs [regs.b, regs.c] atTop = some b ∧ ∀ i ∈ onLanes (atTop.readM 0), (b.lane i).toNat < indexLimit regs) :=
  ⟨⟨rfl, by decide +kernel, rfl, by decide +kernel, by decide +kernel⟩,
    ⟨rfl, rfl, by decide +kernel, by decide +kernel, by decide +kernel⟩,
    ⟨rfl, rfl, by decide +kernel, by decide +kernel, by decide +kernel⟩,
    ⟨rfl, rfl, by decide +kernel, by decide +kernel, by decide +kernel⟩, by decide,
    ⟨⟨List.replicate 128 0, List.replicate 128 0⟩, by decide +kernel, by decide +kernel⟩,
    ⟨⟨List.replicate 128 0, List.replicate 128 0⟩, by decide +kernel, by decide +kernel⟩⟩

/-- `base` with the descriptor of a stream in scratchpad at 0x40. -/
def described : State := onCore fun c => { c with spad := Memory.put [] 0x40 64 (stream 0).toNat }

theorem wit_StreamControlResults :
    let f : VOp := { regs with a := 0, imm := 1 }
    let a := described.readX (f.a.setWidth 6) + 64 * f.imm.setWidth 64
    let d := BitVec.ofNat 512 (described.core.spad.num a.toNat 64)
    described.holds f.g = true ∧ a.toNat % 64 = 0 ∧ a.toNat + 64 ≤ described.core.spadSize ∧
    described.core.frozenAccess [spanBytes [(a.toNat, 64)]] = none ∧ described.badByte [(a.toNat, 64)] = none ∧
    Desc.cause d = none ∧ Desc.cause (Desc.rewound d) = none ∧ (withX 2 1).holds regs.g = true ∧
    ((withX 2 1).readX (regs.a.setWidth 6) + 64 * regs.imm.setWidth 64).toNat % 64 ≠ 0 ∧
    Desc.cause (streams.zreg 1) = none ∧ (256#16).toNat ≤ Desc.left (streams.zreg 1) ∧ Desc.left (streams.zreg 1) < (257#16).toNat := by
  decide +kernel

/-- `base` with the mesh as `f` leaves it. -/
def onMesh (f : Mesh → Mesh) : State := onCore fun c => { c with mesh := f c.mesh }

theorem wit_MeshPushesEnter :
    let f : FmtMP := ⟨always, 64, 65, false, 0⟩
    let us := [makeUse (stream 0) ⟨0, false, 128⟩, makeUse (stream 0x2FFC00) ⟨1, true, 128⟩]
    planUses streams.zreg streams.core.spadSize (operandUse f.inp false ++ operandUse f.out true) = .ok us ∧
    streams.core.frozenAccess ((us.filter fun u => !u.write).map fun u => spanBytes (u.readSpans fun _ => true)) = none ∧
    streams.badByte (us.flatMap fun u => u.readSpans fun _ => true) = none ∧
    planUses base.zreg base.core.spadSize (operandUse 8 false ++ operandUse 9 false ++ operandUse 10 true ++ operandUse 11 true) = .ok [] ∧
    base.core.mesh.cxm = base.core.mesh.mode ∧ (onMesh fun m => { m with mode := true }).core.mesh.cxm ≠
      (onMesh fun m => { m with mode := true }).core.mesh.mode ∧ base.core.mesh.gp = false ∧
    (onMesh fun m => { m with gp := true }).core.mesh.gp = true ∧ (onMesh fun m => { m with gp := true }).holds always = true := by
  decide +kernel

theorem wit_PlaneOperationsQueue :
    base.holds always = true ∧ 0x2FE000 + 128 * (63 + 1) ≤ base.core.spadSize ∧ 0x2FE000 % 128 = 0 ∧
    base.core.spadSize < 0x2FE080 + 128 * (63 + 1) ∧ 0x2FE040 % 128 ≠ 0 ∧ 0x20 % 64 ≠ 0 ∧ base.core.mesh.gp = false ∧
    (onMesh fun m => { m with gp := true }).core.mesh.gp = true ∧ 0x2FFFFC + 4 * 1 ≤ base.core.spadSize ∧ 2 % 4 ≠ 0 ∧
    0x300000 + 4 * 0 ≤ base.core.spadSize ∧ base.core.spadSize < 0x300000 + 4 * 1 ∧ 0 + base.core.mesh.imageLen ≤ base.core.spadSize ∧
    base.core.spadSize < 0x2FFFC0 + base.core.mesh.imageLen := by decide

/-- A push that has been in the pipeline for 71 cycles and lands nowhere. -/
def oldPush : Push :=
  ⟨0, false, false, 0, none, false, 0, 71, 0, .none, [], false, 0, 0, 0, false, false, false, 0, 0, 0, 0⟩

theorem wit_MeshStatusAndDrain :
    let e : Entry := ⟨some (Instr.mdrn ⟨always, 0, 0, false, 0⟩).view, false, 0, 0, 4, 0, 0, 0, 0, 0⟩
    let s := onBank fun b => { b with queues := vset b.queues 3 [e] }
    let t := onMesh fun m => { m with pipe := [oldPush] }
    let o : PlaneOp := ⟨.mnrm 5, false, 0, 0, 0, 0, 1⟩
    let sw : PlaneOp := ⟨.mswap, false, 0, 0, 0, 0, 1⟩
    let d := stream 0
    let u : State := { onMesh fun m => { m with unit := [o] } with cycle := 1 }
    base.holds always = true ∧ base.core.mesh.done = true ∧ t.core.mesh.done = false ∧ s.bank.queues[3]? = some [e] ∧
    s.core.mesh.done = true ∧ s.core.mesh.frz = false ∧ t.core.mesh.pipe = [oldPush] ∧ landReady t = true ∧ oldPush.out = .none ∧
    landReady (onMesh fun m => { m with pipe := [{ oldPush with out := .reg 5 }] }) = true ∧
    landReady (onMesh fun m => { m with pipe := [{ oldPush with out := .stream d }] }) = true ∧
    base.core.frozenAccess [({ oldPush with out := .stream d } : Push).out.bytes] = none ∧ landReady base = false ∧
    (onMesh fun m => { m with frz := true }).core.mesh.frz = true ∧
    u.core.mesh.unit = [o] ∧ unitReady u = true ∧ o.done = 0 ∧ o.kind = .mnrm 5 ∧
    unitReady { onMesh fun m => { m with unit := [sw] } with cycle := 1 } = true ∧ sw.kind = .mswap ∧ unitReady base = false := by
  decide +kernel

theorem answers_ok {ε α σ : Type} {r : Except ε α × σ} (h : r.1.isOk = true) : ∃ a t, r = (.ok a, t) := by
  obtain ⟨_ | a, t⟩ := r
  · cases h
  · exact ⟨a, t, rfl⟩

/-- The check ended in a trap. -/
def trapped {α σ : Type} (r : Except Stop α × σ) : Bool := match r.1 with | .error (.trap ..) => true | _ => false

theorem traps_ok {α σ : Type} {r : Except Stop α × σ} (h : trapped r = true) :
    ∃ cause addr d0 d1 t, r = (.error (.trap cause addr d0 d1), t) := by
  obtain ⟨_ | a, t⟩ := r
  · rename_i e; cases e <;> first | exact ⟨_, _, _, _, t, rfl⟩ | cases h
  · cases h

/-- A tensor of 4 rows of 16 FP32 elements. -/
def tensor : BitVec 1024 := 0x100000 ||| (2 <<< 68) ||| (16 <<< 128) ||| (4 <<< 192) ||| (4 <<< 256) ||| (64 <<< 320)
/-- `base` with tensor 3 of ASID 0 in its table at 0x80000, held by the home slice. -/
def tensors : State := { base with asids := [(0, (0, 0x80000))], slice := [⟨0x1003, .c, tensor, false, 0⟩] }

theorem wit_CopiesEnterTheirChannel :
    base.holds always = true ∧ (∃ c t, (planOf 0x03 (.l ⟨always, 0, 0, 0x1000, 1⟩)).run.run (withX 1 4) = (.ok c, t)) ∧
    (∃ c t, (planOf 0x00 (.t ⟨always, 0, 3, 0, 0x1000, 0, 0⟩)).run.run tensors = (.ok c, t)) ∧
    (∃ c t, (planOf 0x15 (.t ⟨always, 0, 3, 0, 0, 0, 0⟩)).run.run tensors = (.ok c, t)) ∧
    (∃ c t, (planOf 0x18 (.km ⟨always, 0, 255⟩)).run.run base = (.ok c, t)) ∧
    (∃ t, (planOf 0x03 (.l ⟨always, 0, 0, 0x1000, 1⟩)).run.run (withX 1 0x400000) = (.error (.trap 0x53 0x1000 3 0x400000), t)) ∧
    (vget base.core.chans 7 Channel.reset).cur = none ∧ (7 : Nat) < 8 ∧
    (vget base.core.chans 7 Channel.reset).cur.all Copy.ghost = true ∧ (vget base.core.chans 7 Channel.reset).wm.frz = false ∧
    (vget (withCopy 7 false (copying cllOp 4 0 [] [])).core.chans 7 Channel.reset).cur.all Copy.ghost = false ∧
    (vget (withCopy 7 true (copying cllOp 4 0 [] [])).core.chans 7 Channel.reset).wm.frz = true :=
  ⟨rfl, answers_ok (by decide +kernel), answers_ok (by decide +kernel), answers_ok (by decide +kernel), answers_ok (by decide +kernel),
    ⟨_, rfl⟩, rfl, by decide, by decide, by decide, by decide, by decide⟩

/-- A bind block for a FLOW 2 window of one row of 64 bytes at 0x1000, and one for the rows of tensor 3 as FLOW 1. -/
def bindBlock (flow : Nat) : Nat := 0x1000 + 64 * 2 ^ 24 + flow * 2 ^ 48 + (if flow = 1 then 3 * 2 ^ 64 else 0)

theorem wit_WindowsBindAndAdvance :
    let f : FmtW := ⟨always, 0, 2, 0, 0⟩
    let s (b : Nat) := onCore fun c => { c with spad := Memory.put [] 0 64 b }
    let bound (flow : Nat) := onCore fun c => { c with
      wins := vset c.wins 2 { Window.reset with tensor := 3, w0 := BitVec.ofNat 64 (bindBlock flow), wm := { Wm.reset with act := true } } }
    base.holds always = true ∧ (vget (bound 2).core.wins 2 Window.reset).wm.act = true ∧
    (vget base.core.wins 2 Window.reset).wm.act = false ∧
    (∃ p t, (planBind f).run.run (s (bindBlock 2)) = (.ok p, t)) ∧ bitsOf (bindBlock 2) 48 3 ≠ 1 ∧ bitsOf (bindBlock 1) 48 3 = 1 ∧
    (∃ d t, (planAdvance { f with k := 1 }).run.run (bound 2) = (.ok d, t)) ∧ (vget (bound 2).core.wins 2 Window.reset).flow ≠ 1 ∧
    (vget (bound 1).core.wins 2 Window.reset).flow = 1 ∧
    (∃ p t, (planBind f).run.run { tensors with core := (s (bindBlock 1)).core } = (.ok p, t)) ∧
    (∃ d t, (planAdvance { f with k := 1 }).run.run { tensors with core := (bound 1).core } = (.ok d, t)) ∧
    (∃ d t, (planAdvance f).run.run (bound 2) = (.ok d, t)) ∧
    (∃ cause addr d0 d1 t, (planAdvance f).run.run base = (.error (.trap cause addr d0 d1), t)) ∧
    (∃ cause addr d0 d1 t, (planBind f).run.run base = (.error (.trap cause addr d0 d1), t)) :=
  ⟨rfl, by decide, by decide, answers_ok (by decide +kernel), by decide, by decide, answers_ok (by decide +kernel), by decide, by decide,
    answers_ok (by decide +kernel), answers_ok (by decide +kernel), answers_ok (by decide +kernel), traps_ok (by decide +kernel),
    traps_ok (by decide +kernel)⟩

/-- `base` with a number of bytes in scratchpad at 0. -/
def withBytes (n v : Nat) : State := onCore fun c => { c with spad := Memory.put [] 0 n v }

theorem wit_ChannelControlActs :
    base.holds always = true ∧ base.core.gq.length < 64 ∧ 64 ≤ (onCore fun c => { c with gq := List.replicate 64 0 }).core.gq.length ∧
    (onCore fun c => { c with gq := List.replicate 63 0 }).core.gq.length < 64 ∧ (0 : BitVec 22).toNat % 16 = 0 ∧
    (∃ l t, (readSchedule 0 1024 0 0 []).run.run (withBytes 16 (0x000400C002000000 + 2 ^ 96)) = (.ok l, t)) ∧
    (takeSchedCause base).isNone = true ∧
    (vget (withCopy 7 true (copying cllOp 4 0 [] [])).core.chans 7 Channel.reset).state = 3 ∧
    (vget base.core.chans 7 Channel.reset).state ≠ 3 ∧ (vget base.core.chans 7 Channel.reset).state ≠ 4 ∧
    0x2FFFC0 + 64 ≤ base.core.spadSize ∧ 0x2FFFC0 % 8 = 0 ∧
    base.core.frozenAccess [(List.range 64).map (0x2FFFC0 + ·)] = none ∧ (8 : BitVec 22).toNat % 16 ≠ 0 ∧
    (∃ r t, takeSchedCause (onCore fun c => c.modChan 7 fun ch =>
      { ch with schedCause := some ⟨0x53, .atIssue, 0, 0, 0, 0, 0, 0⟩ }) = some (r, t)) ∧
    (∃ d t, (planResume ⟨always, 7, 3, true⟩).run.run
      { tensors with core := (withCopy 7 true { copying cpyOp 4 0 [] [] with args := { CopyArgs.none 0 with desc := tensor } }).core }
        = (.ok d, t)) ∧
    base.core.spadSize < 0x2FFFC8 + 64 ∧ 0x2FFFBC + 64 ≤ base.core.spadSize ∧ 0x2FFFBC % 8 ≠ 0 ∧ base.core.spad.wf = true :=
  ⟨rfl, by decide, by decide, by decide, by decide, answers_ok (by decide +kernel), by decide, by decide, by decide, by decide, by decide,
    by decide, by decide +kernel, by decide, ⟨_, _, rfl⟩, answers_ok (by decide +kernel), by decide, by decide, by decide, by decide⟩

/-- An entry for an operation, its bundle issue the first. -/
def entryOf (op : Option View) (sticky : Bool) : Entry := ⟨op, sticky, 0, 0, 4, 0, 0, 0, 0, 0⟩
/-- `base` with one entry in the S queue. -/
def withEntry (e : Entry) : State := onBank fun b => { b with queues := vset b.queues 0 [e], seqNext := 1, ended := false }
/-- `base` with a task running and a header without payloads at address 0: CHK 1010. -/
def withHeader (h : Nat) : State := onCore fun c => { c with imem := Memory.put [] 0 4 h, bankA := { c.bankA with ended := false } }

theorem wit_SequencerEventsAct :
    (withEntry (entryOf none false)).bank.queue .s = [entryOf none false] ∧ slotReady (withEntry (entryOf none false)) .s = true ∧
    (withEntry (entryOf (some (Instr.add ⟨always, 1, 2, 3⟩).view) true)).bank.queue .s =
      [entryOf (some (Instr.add ⟨always, 1, 2, 3⟩).view) true] ∧
    slotReady (withEntry (entryOf (some (Instr.add ⟨always, 1, 2, 3⟩).view) true)) .s = true ∧
    mayDispatch (withHeader 0xA) = true ∧ illegalCause (withHeader 0xA).core (withHeader 0xA).bank = none ∧
    bodyBroken (withHeader 0xA).core (withHeader 0xA).bank = false := by decide +kernel

theorem wit_SequencerEventsAct_loop : passEndIfDue (withHeader 0xA) = withHeader 0xA := rfl

/-- A result and a tracked value under way. -/
def landing : State := onBank fun b => { b with
  inflight := [⟨⟨.x, 5⟩, 7, 0, 1, 0, 0, .s, none, false⟩], tracked := [⟨[⟨.x, 6⟩], .value 8, 1, 0, 0, 0, .s⟩] }
/-- A load or store of 4 bytes at HBM address 0x100 that has been translated. -/
def accessing (k : GKind) : GAccess := ⟨0, k, 0, 0x100, 4, 0, 0, 0, 0, 0, 0, .ready 0x100 0, 0, 0, 0⟩
/-- `base` with the line of that address in the home slice, the load tracked and the store posted. -/
def withLine (k : GKind) : State := { (onBank fun b =>
    if k = .load then { b with tracked := [⟨[⟨.x, 1⟩], .access (accessing k), 0, 0, 0, 0, .s⟩] } else { b with posted := [accessing k] }) with
  slice := [⟨2, .d, 5, false, 0⟩] }

theorem wit_SequencerEventsAct_landing :
    landing.bank.inflight[0]? = some ⟨⟨.x, 5⟩, 7, 0, 1, 0, 0, .s, none, false⟩ ∧
    (∀ g ∈ landing.bank.inflight.take 0, g.reg ≠ ⟨.x, 5⟩) ∧ landing.bank.tracked[0]? = some ⟨[⟨.x, 6⟩], .value 8, 1, 0, 0, 0, .s⟩ ∧
    (accessing .load).phase = .ready 0x100 0 ∧ (withLine .load).bank.blocked (accessing .load) = false ∧
    devOf 0x100 = (withLine .load).devId ∧ rangeOf (localOf 0x100) = .hbm ∧ (withLine .load).sliceLine (lineOf 0x100) = some ⟨2, .d, 5, false, 0⟩ ∧
    (withLine .load).bank.tracked[0]? = some ⟨[⟨.x, 1⟩], .access (accessing .load), 0, 0, 0, 0, .s⟩ ∧
    (withLine .store).bank.posted[0]? = some (accessing .store) ∧ (withLine .store).bank.blocked (accessing .store) = false ∧
    (withLine .store).sliceLine (lineOf 0x100) = some ⟨2, .d, 5, false, 0⟩ ∧
    stepDue (onBank fun b => { b with singleStep := true, seqNext := 1 }) = true := by decide +kernel

/-- A launch on core 0, bank A, from queue 0. -/
def launched : Launch :=
  ⟨⟨0, 1, 0, false, false, 0, 0, 0, 1, 0, 0, 0, 0, [], [], 0, [], [], 0⟩, 0, true, [(0, false)], 0, []⟩
/-- `base` with that launch, the core as `f` leaves it. -/
def withLaunch (f : Core → Core) : State := { onCore fun c => f { c with launch := some (0, 1) } with launches := [launched] }
/-- A core that freezes with a cause. -/
def freezingOn (cause : BitVec 8) : State :=
  withLaunch fun c => { c with run := .freezing, trap := some ⟨cause, .atIssue, 0, 0, 0, 0, 0, 0⟩ }
def freezing : State := freezingOn 0x10
/-- The freeze complete, with the record written. -/
def frozenOn (cause : BitVec 8) : State :=
  ((takeSnapshot (freezeWaits (freezingOn cause))).modCore fun c => { c with run := .frozen }).writeRecord
def frozen : State := frozenOn 0x10
/-- A task that drains since tick 0, with a drain bound of one tick, at cycle 25. -/
def draining : State :=
  { onCore fun c => { c with run := .draining, drainAt := some 0, drainB := 1 } with cycle := 25 }

theorem wit_FreezeAndTaskEventsAct :
    freezing.core.run = .freezing ∧ (freezeWaits freezing).core.freezeReady = true ∧ (freezeWaits freezing).core.collie = false ∧
    frozen.core.trap = some ⟨0x10, .atIssue, 0, 0, 0, 0, 0, 0⟩ ∧ ((frozen.policyOf 0x10).extractLsb' 0 2).toNat = 1 ∧
    ((({ frozen with policy := [(0x10, 0)] } : State).policyOf 0x10).extractLsb' 0 2).toNat = 0 ∧
    ((({ frozen with policy := [(0x10, 3)] } : State).policyOf 0x10).extractLsb' 0 2).toNat = 3 ∧
    frozen.launchOf frozen.core.launch = some launched ∧ ((onCore fun c => { c with run := .frozen }).focus 0).core.run = .frozen ∧
    draining.core.drained = true ∧ draining.core.copiesParked = true ∧ draining.core.drainAt = some 0 ∧ draining.core.drainB ≠ 0 ∧
    0 + draining.core.drainB.toNat ≤ draining.tick ∧ (0x10 : BitVec 8).extractLsb' 4 4 ≠ 7 ∧
    ((({ frozen with policy := [(0x10, 2)] } : State).policyOf 0x10).extractLsb' 0 2).toNat = 2 ∧
    (frozenOn 0x70).core.trap = some ⟨0x70, .atIssue, 0, 0, 0, 0, 0, 0⟩ ∧ (0x70 : BitVec 8).extractLsb' 4 4 = 7 ∧
    ({ frozen with launches := [] } : State).launchOf frozen.core.launch = none ∧
    (let c := onCore fun c => { c with run := .freezing, collie := true }
     c.core.run = .freezing ∧ (freezeWaits c).core.freezeReady = true ∧ (freezeWaits c).core.collie = true) ∧
    (let s := onCore fun c => { c with run := .freezing, bankA := { c.bankA with
       tracked := [⟨[⟨.x, 1⟩], .access (accessing .load), 0, 0, 0, 0, .s⟩] } }
     s.core.run = .freezing ∧ (freezeWaits s).core.freezeReady = false) := by decide +kernel

/-- A task that a pre-emption request and its watchdog have waited on for two ticks. -/
def late : State :=
  { withLaunch fun c => { c with preReq := some 0, preB := 2, wdogB := 2 } with cycle := 25 }
/-- A core whose saved task returns. -/
def saved : State := { State.reset with saved := [(0, { Core.reset false with run := .parked })] }
/-- A core in bank B at its pre-emption point while bank A may run. -/
def switching : State := onCore fun c => { c with cur := true, point := true, bankA := { c.bankA with ended := false } }
/-- The task of bank A ends; that of bank B has ended, or has not. -/
def ending (b : Bool) : State :=
  withLaunch fun c => { c with bankA := { c.bankA with ending := true, ended := false }, bankB := { c.bankB with ended := b } }
/-- The same with another task of the launch left. -/
def endingOne : State := { ending true with launches := [{ launched with tasks := [(0, false), (1, false)] }] }

theorem wit_FreezeAndTaskEventsAct_tasks :
    late.core.run = .running ∧ late.core.preReq = some 0 ∧ late.core.preB ≠ 0 ∧ 0 + late.core.preB.toNat ≤ late.tick ∧
    late.core.wdogB ≠ 0 ∧ late.core.launch.isSome = true ∧ late.core.released + late.core.wdogB.toNat ≤ late.tick ∧
    saved.core.launch = none ∧ saved.core.run = .halted ∧
    (∃ c, (saved.saved.find? fun p => p.1 == saved.coreNo) = some (0, c) ∧ c.run = .parked) ∧ switchBackDue switching.core = true ∧
    (ending true).core.wins.toList.any Window.holdsEnd = false ∧
    (onCore fun c => { c with cur := true, bankB := { c.bankB with ending := true } }).bank.ending = true ∧
    (onCore fun c => { c with wins := vset c.wins 0 { Window.reset with
      w0 := 4 <<< 48, wm := { Wm.reset with act := true }, fetchable := 1 } }).core.wins.toList.any Window.holdsEnd = true ∧
    (withLaunch fun c => { c with bankB := { c.bankB with ended := false, xfault := true } }).core.bankB.xfault = true ∧
    (ending false).bank.ending = true ∧ (ending false).core.cur = false ∧ (ending false).core.bankB.ended = false ∧
    (ending false).core.bankB.xfault = false ∧ (ending true).core.bankB.ended = true :=
  ⟨rfl, rfl, by decide, by decide, by decide, by decide, by decide, rfl, rfl, ⟨_, rfl, rfl⟩, by decide, by decide, rfl,
    by decide, rfl, rfl, rfl, rfl, rfl, rfl⟩

theorem wit_FreezeAndTaskEventsAct_end :
    let v (s : State) := (((s.modCore fun c => { c with wins := c.wins.map Window.released, gq := [], sched := [] }).modBank fun b =>
      { b with ending := false, ended := true, monaddr := b.monaddr &&& ~~~1, monLine := none, monSeen := [] }).modLaunch
        s.core.launch fun l => { l with tasks := l.tasks.filter (· != (s.coreNo, false)) }).modCore fun c =>
          { c.dropCredits with run := .halted, launch := none, preReq := none, drainAt := none }
    (v (ending true)).launchOf (ending true).core.launch = some { launched with tasks := [] } ∧
    (v endingOne).launchOf endingOne.core.launch = some { launched with tasks := [(1, false)] } ∧
    (v { ending true with launches := [] }).launchOf (ending true).core.launch = none := by decide +kernel

theorem wit_PeriodsFramesAndClaimsAct :
    let held (k : Nat) : State := { withCopy 0 false { copying cllOp 4 0 [] [] with heldOn := some 0, held := k } with
      budgets := [(0, 0x0000010000000000)] }
    let late (s : State) : Bool := s.core.chans.toList.any fun h => h.runs && h.cur.any fun c =>
      c.heldOn == some (8 * 0 + 0) && ((s.budget 0 0).extractLsb' 40 8).toNat < c.held
    let w : State := { base with others := [(128, { Core.reset true with wdog := some 0 })] }
    let r : State := { base with ranges := ⟨#[(1, 2), (0, 0), (3, 5), (0, 0)], rfl⟩ }
    let e : State := { base with ranges := ⟨#[(4, 5), (0, 0), (0, 0), (0, 0)], rfl⟩ }
    (held 2).core.run = .running ∧ (((held 2).budget 0 0).extractLsb' 40 8).toNat ≠ 0 ∧ late (held 2) = true ∧ late (held 1) = false ∧
    (w.coreAt 128).wdog = some 0 ∧ 0 ≤ w.tick ∧ (vget r.ranges 0 (0, 0)).1 < (vget r.ranges 0 (0, 0)).2 ∧
    (vget r.ranges 1 (0, 0)).2 ≤ (vget r.ranges 1 (0, 0)).1 ∧ 2 ≤ (largestRange r.ranges 1).2 ∧
    (vget e.ranges 1 (0, 0)).2 ≤ (vget e.ranges 1 (0, 0)).1 ∧ (largestRange e.ranges 1).2 < 2 := by decide +kernel

/-- Device 0 in a domain with device 1. -/
def joined : State := { base with fab := ⟨#[0x100, 3, 0, 0, 0xFFFFFFFFFFFFFFFF], rfl⟩ }
/-- An arrival of core 0 of device 1 at level 2, phase 1, of `n` tasks. -/
def arrival (n : Nat) : Arrival := ⟨2, 5, n, 1, 1, 0, false, 0, 1, false⟩

theorem wit_BarrierEventsAct :
    let c (n k : Nat) : Counter := ⟨2, 5, 1, n, List.replicate k (arrival 2)⟩
    let s (n k : Nat) : State := { base with counters := [c n k] }
    let w : Outstanding := ⟨5, 1, false, 4, 0, some 0, false⟩
    let o : State := { onBank fun b => { b with out := vset b.out 2 (some w), dm := vset b.dm 2 0x8000000500020005 } with
      fab := vset base.fab 3 1 }
    (base.counters.find? fun c => c.counts (arrival 2)) = none ∧ 2 ≤ (arrival 2).count ∧
    ((s 3 1).counters.find? fun c => c.counts (arrival 3)) = some (c 3 1) ∧ (c 3 1).count ≠ 0 ∧ (c 3 1).arrivals.length + 1 < (c 3 1).count ∧
    ((s 3 2).counters.find? fun c => c.counts (arrival 3)) = some (c 3 2) ∧ (c 3 2).count ≤ (c 3 2).arrivals.length + 1 ∧
    ((s 0 2).counters.find? fun c => c.counts (arrival 2)) = some (c 0 2) ∧ (c 0 2).count = 0 ∧ (arrival 2).dev ≠ (s 0 2).devId ∧
    (arrival 2).dev ≠ base.devId ∧ base.admits (arrival 2).dev = false ∧ joined.admits (arrival 2).dev = true ∧
    { arrival 2 with dev := 0 }.dev = base.devId ∧ { arrival 2 with withdrawn := true }.withdrawn = true ∧ (arrival 1).count ≤ 1 ∧
    ((s 0 2).counters.find? fun c => c.counts { arrival 2 with dev := 0 }) = some (c 0 2) ∧ (arrival 2).withdrawn = false ∧
    vget o.core.bankA.out 2 none = some w ∧ o.barrierRoot 2 ≠ o.devId ∧ o.coreNo < 136 ∧ o.core.run = .running ∧ w.phase = 1 ∧
    w.domid = 5 ∧ 0 ≤ o.tick ∧ o.core.bankB.anyOut 2 Outstanding.waits = false ∧ base.barrierRoot 2 = base.devId := by decide +kernel

/-- The views of CXW, CLDM and CSCAN on channel 0. -/
def cxwOp : View := (Instr.cxw ⟨always, 0, 0, 2, 1⟩).view
def cldmOp : View := .c 0x1A (.t ⟨always, 0, 3, 0, 0x1000, 0, 0⟩)
def cscanOp : View := .c 0x12 (.kc ⟨always, 0, 3, 2, 0, 0⟩)

theorem wit_CopyEventsAct :
    let land := copying cpyOp 4 0 [(0, 1), (1, 2), (2, 3), (3, 4)] []
    let fail := copying cpyOp 4 0 [] [(0, 2)]
    let s (c : Copy) := withCopy 0 false c
    ((s land).chan 0).cur = some land ∧ ((s land).chan 0).runs = true ∧ land.lidx < land.total ∧ land.toTensor = false ∧
    land.onLines = false ∧ land.isFetch = false ∧ land.code = 0 ∧ land.need (run 0 4) = .have_ [1, 2, 3, 4] ∧
    ((s fail).chan 0).cur = some fail ∧ fail.code = 0 ∧ fail.need (run 0 4) = .failing 0 2 ∧
    (copying cllOp 4 3 [] []).fromSpad = true ∧ ((s (copying cllOp 4 3 [] [])).chan 0).queue = [] ∧
    (copying cllOp 4 3 [] []).outstanding 3 = true ∧ (copying cllOp 4 3 [] []).fresh = false ∧
    (copying cllOp 4 3 [] []).lidx < (copying cllOp 4 3 [] []).total ∧ (copying cllOp 4 3 [] []).fetchFrom ≤ 3 ∧ completes 0 (copying cpyOp 4 4 [] []) (s (copying cpyOp 4 4 [] [])) = true ∧
    (copying cxwOp 4 0 [] []).code = 5 ∧ ((s (copying cxwOp 4 0 [] [])).chan 0).runs = true ∧ (s land).copyEnds land = false ∧
    (s fail).copyEnds fail = false ∧ (s (copying cllOp 4 3 [] [])).copyEnds (copying cllOp 4 3 [] []) = false ∧
    (let t (c : Copy) : State := (s c).awaits .writeOnce ((s c).askerFor c) windowKey 1 none
     (t (copying cxwOp 4 0 [] [])).copyEnds (copying cxwOp 4 0 [] []) = false ∧
       ((t (copying cxwOp 4 0 [] [])).request .writeOnce ((t (copying cxwOp 4 0 [] [])).askerFor (copying cxwOp 4 0 [] [])) windowKey).isSome = true) ∧
    (s land).request .writeOnce ((s land).askerFor land) windowKey = none := by decide +kernel

/-- A copy of a region of one element of the tensor at 0x100000. -/
def onTensor (v : View) : Copy :=
  let c := copying v 4 0 [] []
  { c with args := { c.args with desc := tensor, coord := [0, 0], ext := [1, 1] } }
/-- Such a copy runs under the live ASID 0. Of its table at HBM address 0, in the home slice beside the line of the element, the first
entry maps the lowest 4 TiB of virtual addresses to the device's own, readable and writable. -/
def scanning (v : View) : State := { withCopy 0 false (onTensor v) with
  asids := [(0, (0x8000000000000000, 0))], slice := [⟨0, .c, 0xC0C0000000000000, false, 0⟩, ⟨0x2000, .d, 9, false, 0⟩] }

theorem sample_frame (s : State) (pa : Nat) : ∃ c ts, s.sample pa = { s with choices := c, tiers := ts } := by
  unfold State.sample State.choose
  simp only [show ¬ (64 ≤ 1) by decide, if_false]
  split
  · exact ⟨_, _, rfl⟩
  · split <;> exact ⟨_, _, rfl⟩

theorem walkFrom_slice {s : State} {who : Asker} (hq : s.request .table who 0 = none) (hx : s.sliceLine 0 = some ⟨0, .c, 0xC0C0000000000000, false, 0⟩)
    (hm : s.malformed 0 0xC0C0000000000000 = false) :
    walkFrom who 0x100000 true false 0 0 3 s = (.leaf 0x100000 0 false, some (0, 0xC0C0000000000000), s) := by
  have hr : homeAccess .table who (lineOf (0 + 8 * (0x100000 / 2 ^ levelShift 0 % 4096))) .read false s =
      (.ready 0xC0C0000000000000 false, s) := by
    rw [show lineOf (0 + 8 * (0x100000 / 2 ^ levelShift 0 % 4096)) = 0 by decide]
    simp [homeAccess, hq, State.sliceState, hx, HomeOp.hits, homeAct, State.homeData]
  have he : BitVec.ofNat 64 (leNat (peekLine 0xC0C0000000000000 ((0 + 8 * (0x100000 / 2 ^ levelShift 0 % 4096)) % 128) 8)) =
    0xC0C0000000000000 := by decide +kernel
  simp only [walkFrom, hr, he, hm, show (0xC0C0000000000000 : BitVec 64).getLsbD 63 = true by decide,
    show (0xC0C0000000000000 : BitVec 64).getLsbD 62 = true by decide, show (0xC0C0000000000000 : BitVec 64).getLsbD 57 = false by decide,
    show grants 0xC0C0000000000000 true false = true by decide, show leafOf 0 0xC0C0000000000000 0x100000 = .leaf 0x100000 0 false by decide]
  rfl

/-- What the walk of a copy answers where the tables place the address: a state that differs in the samples of its tiers, in the
translation cache and in STATE of the channel. -/
theorem copyWalk_places {s : State} {n : Nat} {c : Copy} (hx : s.sliceLine 0 = some ⟨0, .c, 0xC0C0000000000000, false, 0⟩)
    (hm : s.malformed 0 0xC0C0000000000000 = false) (hq : s.request .table (.copy s.coreNo c.num) 0 = none) (hk : s.marks = [])
    (ha : s.pageAsked (.copy s.coreNo (BitVec.ofNat 3 n)) 0x100000 = false) (hc : s.tlb = [])
    (hl : (s.asidWord c.args.asid).getLsbD 63 = true) (hr : ((s.asidWord c.args.asid).extractLsb' 15 37).toNat * 2 ^ 15 = 0)
    (ht : s.tableOk 0 = true) :
    ∃ t, copyWalk n c 0x100000 false true s = (.at_ 0x100000 0 false, t) ∧ t.devId = s.devId ∧ t.metaError = s.metaError ∧
      t.txBusy = s.txBusy ∧ t.sliceLine = s.sliceLine ∧ t.request = s.request ∧ t.askerFor = s.askerFor ∧
      t.budgetOk = s.budgetOk := by
  obtain ⟨k, ts, hs⟩ := sample_frame s 0x100000
  simp only [copyWalk, ha, translateMarked, Machine.translate, hc, List.find?_nil, Machine.walk, hl, hr, ht, walkFrom_slice hq hx hm, hs,
    State.cacheLeaf, hk, List.isEmpty_nil, Bool.not_true, Bool.not_false, Bool.false_eq_true, if_true, if_false]
  split <;> exact ⟨_, rfl, rfl, rfl, rfl, rfl, rfl, rfl, rfl⟩

theorem wit_CopyEventsAct_metadata :
    let c := onTensor cldmOp
    let s := scanning cldmOp
    (s.chan 0).cur = some c ∧ (s.chan 0).runs = true ∧ c.code = 0x1A ∧ c.lidx = 0 ∧
    regionLines c.args.desc c.args.coord c.args.ext = [0x2000] ∧ c.failOf 0 = none ∧
    chooseFrom 1 (fun k => c.outstanding (4 * k)) s = (some 0, s) ∧
    ∃ t, copyWalk 0 c (0x2000 * 128) false true s = (.at_ 0x100000 0 false, t) ∧ rangeOf (localOf 0x100000) = .hbm ∧
      devOf 0x100000 = t.devId ∧ t.metaError (localLine (lineOf 0x100000)) = false ∧ t.txBusy (lineOf 0x100000) = false ∧
      t.budgetOk c 0x100000 = true ∧ t.request (.home false) (t.askerFor c) (lineOf 0x100000) = none := by
  obtain ⟨t, h, hd, hm, hx, hl, hr, hf, hb⟩ := copyWalk_places (s := scanning cldmOp) (n := 0) (c := onTensor cldmOp) (by decide +kernel)
    (by decide +kernel) (by decide +kernel) (by decide +kernel) (by decide +kernel) (by decide +kernel) (by decide +kernel)
    (by decide +kernel) (by decide +kernel)
  refine ⟨by decide +kernel, by decide +kernel, by decide +kernel, by decide +kernel, by decide +kernel, by decide +kernel,
    ?_, t, h, by decide, ?_, ?_, ?_, ?_, ?_⟩
  · simp only [chooseFrom, State.choose, Nat.le_refl, if_true]
    exact Prod.ext (by decide +kernel) rfl
  · rw [hd]; decide +kernel
  · rw [hm]; decide +kernel
  · rw [hx]; decide +kernel
  · rw [hb]; decide +kernel
  · rw [hr, hf]; decide +kernel

/-- Of the one line of the scan there is no choice. -/
theorem scan_first : chooseFrom (onTensor cscanOp).scanLines.length
    (fun i => ((onTensor cscanOp).readLine ((onTensor cscanOp).scanLines.getD i 0)).isNone) (scanning cscanOp) =
      (some 0, scanning cscanOp) := by
  have hn : (onTensor cscanOp).scanLines.length = 1 := by decide +kernel
  simp only [chooseFrom, State.choose, hn, Nat.le_refl, if_true]
  exact Prod.ext (by decide +kernel) rfl

theorem wit_CopyEventsAct_scan :
    let c := onTensor cscanOp
    let s := scanning cscanOp
    let stop : Copy := { c with args := { c.args with row0 := 1 } }
    (s.chan 0).cur = some c ∧ (s.chan 0).runs = true ∧ c.op = cscanOp ∧ c.closed = false ∧ c.failed = [] ∧
    stop.scanLeft = [] ∧ c.scanLines = [0x2000] ∧ s.copyEnds c = false ∧
    chooseFrom c.scanLines.length (fun i => (c.readLine (c.scanLines.getD i 0)).isNone) s = (some 0, s) ∧
    ∃ t, copyWalk 0 c 0x100000 false true s = (.at_ 0x100000 0 false, t) ∧ devOf 0x100000 = t.devId ∧
      rangeOf (localOf 0x100000) = .hbm ∧ t.budgetOk c 0x100000 = true ∧
      t.request (.home false) (t.askerFor c) (lineOf 0x100000) = none ∧
      t.sliceLine (lineOf 0x100000) = some ⟨0x2000, .d, 9, false, 0⟩ := by
  obtain ⟨t, h, hd, hm, hx, hl, hr, hf, hb⟩ := copyWalk_places (s := scanning cscanOp) (n := 0) (c := onTensor cscanOp)
    (by decide +kernel) (by decide +kernel) (by decide +kernel) (by decide +kernel) (by decide +kernel) (by decide +kernel)
    (by decide +kernel) (by decide +kernel) (by decide +kernel)
  refine ⟨by decide +kernel, by decide +kernel, by decide +kernel, by decide +kernel, by decide +kernel, by decide +kernel,
    by decide +kernel, by decide +kernel, scan_first, t, h, ?_, by decide, ?_, ?_, ?_⟩
  · rw [hd]; decide +kernel
  · rw [hb]; decide +kernel
  · rw [hr, hf]; decide +kernel
  · rw [hl]; decide +kernel

/-- `base` with one entry of the copy schedule: CLL of x1 bytes on channel 0 from 0 to 0x1000, whose guard holds or never does. -/
def scheduled (sense : Bool) : State :=
  { withX 1 4 with core := { (withX 1 4).core with
    sched := [⟨(View.c 0x03 (.l ⟨⟨0, sense⟩, 0, 0, 0x1000, 1⟩)).encode, 0⟩] } }
/-- The seat in which that entry is released. -/
def released (sense : Bool) : State :=
  { scheduled sense with ctx := ⟨.s, scheduleEntry (scheduled sense).bank (.c 0x03 (.l ⟨⟨0, sense⟩, 0, 0, 0x1000, 1⟩))⟩ }
/-- A FLOW 2 window 2 of four rows of 64 bytes, fetchable, from channel 1 of core 3 of device 1. -/
def flowWindow : Window :=
  { Window.reset with
    w0 := 0x1000 ||| (64 <<< 24) ||| (3 <<< 40) ||| (2 <<< 48), ident := 1 ||| (3 <<< 8) ||| (1 <<< 16),
    wm := { Wm.reset with act := true }, fetchable := 4 }

theorem wit_CopyEventsAct_schedule :
    (scheduled false).core.sched = [⟨(View.c 0x03 (.l ⟨⟨0, false⟩, 0, 0, 0x1000, 1⟩)).encode, 0⟩] ∧
    decodeSlot .c0 (View.c 0x03 (.l ⟨⟨0, false⟩, 0, 0, 0x1000, 1⟩)).encode = .ok (.c 0x03 (.l ⟨⟨0, false⟩, 0, 0, 0x1000, 1⟩)) ∧
    decodeSlot .c0 (View.c 0x03 (.l ⟨⟨0, true⟩, 0, 0, 0x1000, 1⟩)).encode = .ok (.c 0x03 (.l ⟨⟨0, true⟩, 0, 0, 0x1000, 1⟩)) ∧
    (0 : BitVec 32) ≤ (scheduled false).core.cstage ∧ (released true).holds ⟨0, true⟩ = false ∧ (released false).holds ⟨0, false⟩ = true ∧
    copyHeld (released false) (.c 0x03 (.l ⟨⟨0, false⟩, 0, 0, 0x1000, 1⟩)) = false ∧
    watermarkHeld (released false) (released false).zreg (.c 0x03 (.l ⟨⟨0, false⟩, 0, 0, 0x1000, 1⟩)) = false ∧
    (∃ c u, (planOf 0x03 (.l ⟨⟨0, false⟩, 0, 0, 0x1000, 1⟩)).run.run (released false) = (.ok c, u)) ∧
    joined.admits 1 = true ∧ base.admits 1 = false ∧ flowWindow.takes ⟨1, 3, 1⟩ = true ∧ ({ flowWindow with fetchable := 0 } : Window).fetchable ≤ flowWindow.landed ∧ flowWindow.landed < flowWindow.fetchable ∧ flowWindow.takes ⟨1, 3, 0⟩ = false ∧
    (0x2FFFFF : BitVec 26).toNat + [(0 : BitVec 8)].length ≤ 0x300000 ∧ joined.hostOps.any (·.dev == some 1) = false ∧
    (let w : State := { joined with hostOps := [⟨some 1, 0, 0x3E0000000000, 8, none⟩] }
     w.admits 1 = true ∧ w.hostOps.any (·.dev == some 1) = true) :=
  ⟨by decide +kernel, by decide +kernel, by decide +kernel, by decide +kernel, by decide +kernel, by decide +kernel, by decide +kernel,
    by decide +kernel, answers_ok (by decide +kernel), by decide +kernel, by decide +kernel, by decide +kernel, by decide +kernel,
    by decide +kernel, by decide +kernel, by decide, by decide, by decide⟩

/-- A frame of 60 zero bytes, and a FLOW 3 window of two rows of `rowb` bytes of which `n` have landed. -/
def zeroFrame : List (BitVec 8) := List.replicate 60 0
def frames (rowb n : Nat) : State :=
  onCore fun c => { c with wins := vset c.wins 5 { Window.reset with
    w0 := BitVec.ofNat 64 (rowb * 2 ^ 24 + 2 ^ 40 + 3 * 2 ^ 48), wm := ⟨0, true, false, false, false, BitVec.ofNat 22 n⟩ } }

theorem wit_WireFramesMove :
    let w : BitVec 64 := (60 <<< 22) ||| 0x1000
    let s : State := { base with wires := vset base.wires 1 { WirePort.reset with txq := [w], got := [[]] } }
    let r : WirePort := { WirePort.reset with txq := [w], got := [(List.range 4).map fun g => (g, List.replicate 16 7)] }
    txqAccepts (vget base.wires 0 WirePort.reset) w = true ∧ txqAccepts (vget base.wires 0 WirePort.reset) (59 <<< 22) = false ∧
    txqAccepts (vget base.wires 0 WirePort.reset) (9213 <<< 22) = false ∧ (vget s.wires 1 WirePort.reset).txq = [w] ∧
    (vget s.wires 1 WirePort.reset).got.headD [] = [] ∧ granulesOf w = 4 ∧
    (∀ g < granulesOf w, (r.got.headD []).find? (·.1 == g) = some (g, List.replicate 16 7)) ∧
    (w.extractLsb' 0 22).toNat + (w.extractLsb' 22 14).toNat ≤ (s.coreAt (w.extractLsb' 36 7).toNat).spadSize ∧
    60 ≤ zeroFrame.length ∧ zeroFrame.length ≤ 9212 ∧ base.frameWindow 0 zeroFrame = none ∧
    (frames 64 0).frameWindow 0 zeroFrame = some (0, 5) ∧ (vget ((frames 64 0).coreAt 0).wins 5 Window.reset).rowb < zeroFrame.length + 16 ∧
    (frames 128 2).frameWindow 0 zeroFrame = some (0, 5) ∧
    zeroFrame.length + 16 ≤ (vget ((frames 128 2).coreAt 0).wins 5 Window.reset).rowb ∧
    (let v := vget ((frames 128 2).coreAt 0).wins 5 Window.reset; v.b.toNat + v.slots ≤ v.landed) ∧
    (let v := vget ((frames 128 1).coreAt 0).wins 5 Window.reset; v.landed < v.b.toNat + v.slots) ∧
    (frames 128 1).frameWindow 0 zeroFrame = some (0, 5) := by decide +kernel

/-- The same with a metadata word for line 2, device 1 the owner in home state `h`. -/
def owned (h : BitVec 32) : State := { joined with metaWords := [(2, h ||| (1 <<< 3))] }
/-- A recall of that line is out to device 1. -/
def recalling : HomeTx := ⟨2, .localRead, [], none, some 1, false, none, false, true, 0⟩

theorem wit_HomeAnswersRequests :
    let at_ (e : HomeEvent) : State := { joined with homeTx := joined.homeTx ++ [⟨2, e, [], none, none, false, none, false, false, 0⟩] }
    let quick (e : HomeEvent) : Bool := txMessages (at_ e) ⟨2, e, [], none, none, false, none, false, false, 0⟩ == ([], none)
    joined.admits 1 = true ∧ joined.homeLine 2 = true ∧ joined.txBusy 2 = false ∧ joined.metaError (localLine 2) = false ∧
    quick (.rds 1) = true ∧ quick (.rdx 1 true) = true ∧ quick (.rdx 1 false) = true ∧ quick (.upg 1) = true ∧ quick .localRead = true ∧ quick .localWrite = true ∧
    quick (.uncachedRead 1) = true ∧ quick (.uncachedWrite 1 (128 * 2 + 127) [0] false) = true ∧ quick (.uncachedWrite 1 (128 * 2) [0] true) = true ∧ joined.sliceLine 2 = none ∧
    hst (joined.metaWord (localLine 2)) = 0 ∧ joined.lineBad (localLine 2) = false ∧ base.admits 1 = false ∧
    2 ≤ hst ((owned 2).metaWord (localLine 2)) ∧ (owned 2).metaError (localLine 2) = false ∧ (owned 2).admits 1 = true ∧
    own ((owned 2).metaWord (localLine 2)) = 1 ∧ hst ((owned 2).metaWord (localLine 2)) = 2 ∧ (owned 2).fabricCause 1 = none ∧
    (let s : State := { joined with metaBad := [2] }
     s.admits 1 = true ∧ s.homeLine 2 = true ∧ s.txBusy 2 = false ∧ s.metaError (localLine 2) = true) ∧
    (let s : State := { owned 2 with links := Vector.replicate 16 { vget joined.links 0 FabricPort.none_ with up := false } }
     s.admits 1 = true ∧ s.homeLine 2 = true ∧ s.txBusy 2 = false ∧ s.metaError (localLine 2) = false ∧
       hst (s.metaWord (localLine 2)) = 2 ∧ s.fabricCause (own (s.metaWord (localLine 2))) ≠ none) ∧
    own ((owned 3).metaWord (localLine 2)) = 1 ∧ hst ((owned 3).metaWord (localLine 2)) = 3 := by decide +kernel

theorem wit_HomeAnswersRequests_ack :
    let s : State := { owned 2 with homeTx := [recalling] }
    let b : State := { base with metaBad := [2] }
    let u : HomeTx := ⟨2, .localWrite, [1], some (1, false, none), none, false, none, false, true, 0⟩
    let r : State := { owned 3 with homeTx := [u] }
    (s.homeTx.find? fun t => t.line == 2 && t.active) = some recalling ∧ recalling.owes = some 1 ∧
    recalling.invs = [] ∧ recalling.call = none ∧
    (r.homeTx.find? fun t => t.line == 2 && t.active) = some u ∧ u.owes = none ∧ u.invs = [1] ∧
    u.call = some (1, false, none) ∧ u.event ≠ .rebuild ∧ r.fabricCause 1 = none ∧ b.homeLine 2 = true ∧ b.metaError (localLine 2) = true ∧ b.inDomain = false ∧
    b.mayRepair = true ∧ (b.homeTx.any fun t => t.line == 2 && t.active) = false ∧
    (let d : State := { joined with metaBad := [2] }
     d.homeLine 2 = true ∧ d.mayRepair = true ∧ d.metaError (localLine 2) = true ∧ d.homeTx = [] ∧ d.inDomain = true ∧
       d.reached = [1]) := by
  decide +kernel

/-- `base` with line 2 of its own, or the same line of device 1, in the slice. -/
def holding (dev : Nat) (st : SliceState) (poison : Bool := false) : State :=
  { joined with slice := [⟨dev * 2 ^ 39 + 2, st, 5, poison, 0⟩] }
/-- A request for line 2, or for a line of device 1, of the slice. -/
def wantedLine (k : ReqKind) (line : Nat) (store : Option (BitVec 1024 × Bool)) : Request := ⟨k, .slice, line, 1, 0, none, store, none, none⟩

theorem wit_HolderAnswersMessages :
    let far : Nat := 2 ^ 39 + 2
    let asks (r : Request) (s : State) : State := { s with requests := [r] }
    let first (s : State) : Option Request := s.requests.find? fun r => r.wanting && r.line == far
    (∀ st p, (holding 1 st p).sliceLine far = some ⟨far, st, 5, p, 0⟩ ∧ (holding 1 st p).admits (devOf (128 * far)) = true) ∧
    (∀ st, (holding 0 st).sliceLine 2 = some ⟨2, st, 5, false, 0⟩) ∧ (holding 0 .d).homeLine 2 = true ∧
    (holding 1 .e).homeLine far = false ∧ joined.sliceLine far = none ∧ joined.admits (devOf (128 * far)) = true ∧
    base.admits (devOf (128 * far)) = false ∧ (1 : BitVec 6) ≠ (holding 1 .m).devId ∧
    first (asks (wantedLine .shared far none) joined) = some (wantedLine .shared far none) ∧
    (asks (wantedLine .shared far none) joined).sliceLine far = none ∧
    first (asks (wantedLine .upgrade far none) (holding 1 .s)) = some (wantedLine .upgrade far none) ∧
    (asks (wantedLine .upgrade far none) (holding 1 .s)).sliceLine far = some ⟨far, .s, 5, false, 0⟩ ∧
    first (asks (wantedLine .full far (some (7, false))) joined) = some (wantedLine .full far (some (7, false))) ∧
    (.e : Grant) ≠ .s :=
  ⟨by rintro ⟨⟩ ⟨⟩ <;> decide +kernel, by rintro ⟨⟩ <;> decide +kernel, by decide +kernel, by decide +kernel, by decide +kernel,
    by decide +kernel, by decide +kernel, by decide +kernel, by decide +kernel, by decide +kernel, by decide +kernel,
    by decide +kernel, by decide +kernel, by decide⟩

/-- Sixteen lasting rows of layer 3. -/
def lastingRows : List (Nat × Nat) := (List.range 16).map fun k => (3, k)
/-- `base` with the repair of stack 0. -/
def repairing (st : BitVec 2) (bound : BitVec 20) : State :=
  { base with repairs := vset base.repairs 0 ⟨bound, 7, st, [], lastingRows⟩ }
/-- Tier 0 above HIGH with two pages, the first from the clock hand not accessed and owned. -/
def demoting : State :=
  { base with
    tiers := vset base.tiers 0 ⟨1, 0, [0x40000, 0x40001], [0x40000], 0x40001, false⟩, owners := [⟨0x40001, 2, 0, 0, 0⟩] }
/-- The owner of that page; a move of it has begun. -/
def ownedPage : PageOwner := ⟨0x40001, 2, 0, 0, 0⟩
def begun : State := { demoting with moving := [⟨ownedPage, false, [], none, 0⟩] }

theorem wit_RepairAndDemotionAct :
    let r (s : State) := vget s.repairs 0 ⟨0, 0, 0, [], []⟩
    (r (repairing 0 0)).state = 0 ∧ failingLayer (r (repairing 0 0)) = some 3 ∧ (r (repairing 1 0)).state = 1 ∧
    (r (repairing 1 0)).bound ≠ BitVec.allOnes 20 ∧ (r (repairing 1 0xFFFFF)).bound = BitVec.allOnes 20 ∧
    (r (repairing 2 0)).state = 2 ∧
    failingLayer { r (repairing 2 0) with
      lasting := (r (repairing 2 0)).lasting.filter fun e => e.1 != (r (repairing 2 0)).layer.toNat } = some 3 ∧
    (vget demoting.tiers 0 Tier.reset).high < (vget demoting.tiers 0 Tier.reset).pages.length ∧ demoting.moving = [] ∧
    ((vget demoting.tiers 0 Tier.reset).pages.filter fun p => (vget demoting.tiers 0 Tier.reset).hand ≤ p) = [0x40001] ∧
    (vget demoting.tiers 0 Tier.reset).access.contains 0x40001 = false ∧
    (demoting.owners.find? fun o => o.covers 0x40001) = some ⟨0x40001, 2, 0, 0, 0⟩ ∧
    begun.moving = [⟨ownedPage, false, [], none, 0⟩] ∧ rangeOf (ownedPage.frame * 2 ^ 18) = .hbm ∧
    begun.metaError (localLine (lineOf ownedPage.pteAddr)) = false ∧ begun.txBusy (lineOf ownedPage.pteAddr) = false ∧
    hst (begun.metaWord (localLine (lineOf ownedPage.pteAddr))) = 0 ∧
    begun.request (.home true) ownedPage.asker (lineOf ownedPage.pteAddr) = none ∧ (repairing 1 0xFFFFF).mayRepair = true ∧ (repairing 1 0).mayRepair = true ∧
    (let s : State := { repairing 1 0 with budgets := [(5, 0x8000000000000000)] }
     (r s).state = 1 ∧ (r s).bound ≠ BitVec.allOnes 20 ∧ s.mayRepair = false) := by decide +kernel

theorem places_of {r : Walk × State} {w : Walk} (h : r.1 = w) : ∃ t, r = (w, t) := ⟨r.2, by rw [← h]⟩

/-- A load of 4 bytes at virtual address 0x100, in a phase, after waiting. -/
def walking (ph : GPhase) (waited : Nat) : GAccess := ⟨0, .load, 0, 0x100, 4, 0, 0, 0, 0, 0, 0, ph, waited, 0, 0⟩
/-- `base` with that load tracked, ASID 0 live and the first entry of its table, in the home slice, as given. -/
def translating (e : BitVec 1024) (a : GAccess) : State :=
  { (onBank fun b => { b with tracked := [⟨[⟨.x, 1⟩], .access a, 0, 0, 0, 0, .s⟩] }) with
    asids := [(0, (0x8000000000000000, 0))], slice := [⟨0, .c, e, false, 0⟩] }
/-- `base` with a page request out under tag 5 for a load of the core in focus, or for nobody. -/
def asking (l : List Waiter) : State :=
  { translating 0 (walking .fault 1) with pageReqs := [⟨5, 0, 0, true, false, l⟩] }

theorem wit_TranslationEventsAct :
    (translating 0xC0C0000000000000 (walking .walk 0)).bank.accessAt 0 = some (walking .walk 0) ∧
    (walking .walk 0).phase = .walk ∧ (walking (.migrating 0) 0).phase = .migrating 0 ∧ (walking .walk 0).needs = (true, false) ∧
    (translating 0xC0C0000000000000 (walking (.migrating 0) 0)).bank.accessAt 0 = some (walking (.migrating 0) 0) ∧
    (∃ t, Machine.translate ((translating 0xC0C0000000000000 (walking .walk 0)).askerOf false (walking .walk 0)) 0 0x100 true false (translating 0xC0C0000000000000 (walking .walk 0)) = (.leaf 0x100 0 false, t)) ∧
    (∃ t, Machine.translate ((translating 0xC0C0000000000000 (walking (.migrating 0) 0)).askerOf false (walking (.migrating 0) 0)) 0 0x100 true false (translating 0xC0C0000000000000 (walking (.migrating 0) 0)) = (.leaf 0x100 0 false, t)) ∧
    (∃ t, Machine.translate ((translating 0 (walking .walk 0)).askerOf false (walking .walk 0)) 0 0x100 true false (translating 0 (walking .walk 0)) = (.fault, t)) ∧
    (∃ t, Machine.translate ((translating 0 (walking (.migrating 0) 0)).askerOf false (walking (.migrating 0) 0)) 0 0x100 true false (translating 0 (walking (.migrating 0) 0)) = (.fault, t)) ∧
    (∃ t, Machine.translate ((translating 0x0020000000000000 (walking .walk 0)).askerOf false (walking .walk 0)) 0 0x100 true false (translating 0x0020000000000000 (walking .walk 0)) = (.migrating, t)) ∧
    (walking .walk 0).kind ≠ .monitor ∧ rangeCause (walking .walk 0) 0x100 0 base = none :=
  ⟨by decide, by decide, by decide, by decide, by decide, places_of (by decide +kernel), places_of (by decide +kernel),
    places_of (by decide +kernel), places_of (by decide +kernel), places_of (by decide +kernel), by decide, by decide⟩

theorem wit_TranslationEventsAct_paging :
    let w : Waiter := .access 0 false 0
    let s (l : List Waiter) := asking l
    let f : State := { s [w] with core := { (s [w]).core with faultB := 1 } }
    ((s []).pageReqs.find? fun r => r.tag == (5#8).toNat) = some ⟨5, 0, 0, true, false, []⟩ ∧ (s []).pageWait = [] ∧
    ((s [w]).pageReqs.find? fun r => r.tag == (5#8).toNat) = some ⟨5, 0, 0, true, false, [.access (s [w]).coreNo (s [w]).core.cur 0]⟩ ∧
    ((s [w]).bank.accesses.find? fun a => a.id == 0) = some (walking .fault 1) ∧ (s [w]).core.run = .running ∧
    f.bank.tracked[0]? = some ⟨[⟨.x, 1⟩], .access (walking .fault 1), 0, 0, 0, 0, .s⟩ ∧ f.core.faultB ≠ 0 ∧
    f.core.faultB.toNat ≤ (walking .fault 1).waited ∧ f.waitsOnPage (.access f.coreNo f.core.cur 0) = true ∧ base.xbusy = false ∧
    ({ base with xbusy := true } : State).xbusy = true ∧ ({ base with xbusy := true } : State).settled = true ∧
    (withLine .load).settled = false ∧ base.pageWait = [] := by decide +kernel

theorem wit_LinkFailuresAct :
    let l (s : State) := vget s.links 0 FabricPort.none_
    let one : State := { base with links := vset base.links 0 { l base with up := true, replays := 15 } }
    let rows : State := { base with lasting := [⟨3, 0, 9⟩] }
    let half : State := { rows with links := vset base.links 0 { l base with half := true } }
    let req (k : ReqKind) (p : Option Port) : Request := ⟨k, .slice, 2, 0, 10, p, none, none, none⟩
    let sent (k : ReqKind) (p : Option Port) : State := { base with requests := [req k p], cycle := 2 ^ 40 }
    let owing (c : Nat) : State := { base with homeTx := [{ recalling with due := 10 }], cycle := c }
    (l base).up = true ∧ (l base).replays < 15 ∧ (l one).up = true ∧ 15 ≤ (l one).replays ∧
    (l { base with links := vset base.links 0 FabricPort.none_ }).up = false ∧
    rows.lastingLane 0 = some ⟨3, 0, 9⟩ ∧ (l rows).half = false ∧ half.lastingLane 0 = some ⟨3, 0, 9⟩ ∧ (l half).half = true ∧
    base.lastingLane 0 = none ∧
    (sent .shared none).requests[0]? = some (req .shared none) ∧ (req .shared none).unanswered = true ∧
    (req .shared none).due ≤ (sent .shared none).tick ∧ (sent .port (some .p0)).requests[0]? = some (req .port (some .p0)) ∧
    (req .port (some .p0)).unanswered = false ∧ (req .port (some .p0)).kind = .port ∧
    (req .port (some .cxl2)).port = some .cxl2 ∧
    (owing 0).owed[0]? = some ({ recalling with due := 10 }, 1) ∧ (owing 0).tick < 10 ∧ 10 ≤ (owing (2 ^ 40)).tick := by
  decide +kernel

/-- Which of the two a flit with a CRC error is found to be is openly chosen: one of the two clauses applies. -/
theorem wit_LinkFailuresAct_choice : (∃ u, base.choose 2 = (0, u)) ∨ ∃ u, base.choose 2 = (1, u) := by
  have h : Config.choice base.choices % 2 = 0 ∨ Config.choice base.choices % 2 = 1 := by omega
  rcases h with h | h
  · exact .inl ⟨_, by simp [State.choose, h]; rfl⟩
  · exact .inr ⟨_, by simp [State.choose, h]; rfl⟩

/-- Host queue 0, of two entries and enabled, with HEAD and TAIL. -/
def hostQueue (head tail : BitVec 32) : State :=
  { base with devrdy := true, queues := [(0, ⟨⟨#[0x8000000000000001, 0, tail.setWidth 64, head.setWidth 64, 0, 0, 0, 0], rfl⟩, 0⟩)] }

theorem wit_LaunchesBegin :
    let s := hostQueue 0xFFFFFFFF 0
    let u := takeRecord 0 s
    let w : State := { base with waiting := [launched.record] }
    let r : State := { base with launches := [{ launched with released := false }] }
    (0 : Nat) < 256 ∧ s.served 0 = true ∧ s.hasPolled 0 = false ∧ (s.queueAt 0).head ≠ (s.queueAt 0).tail ∧
    ({ s with frame := 1, polled := [0] } : State).hasPolled 0 = true ∧
    ((u.taking.find? fun t => t.queue == 0).any fun t => !t.failed && !u.asidLive t.asid &&
      ({ refuseRecord 0 t.seq 0 1 u with taking := [] } : State).waiting == []) = true ∧
    ((takeRecord 0 w).taking.any fun t => t.queue == 0) = false ∧ (takeRecord 0 w).waiting = [launched.record] ∧
    launched.record.queue = 0 ∧ (takeRecord 0 w).saved = [] ∧ (∀ n < 128, ((takeRecord 0 w).coreAt n).launch = none ∧ ((takeRecord 0 w).coreAt n).storesLeft = false) ∧
    (match feRead (.launch 0 1) 0 launched.record.img.toNat launched.record.len 2 [] w with | (.got l, _) => l == [] | _ => false) = true ∧
    w.tick < ({ launched with rt := 1 } : Launch).rt ∧ r.coreNo = 0 ∧ launched.record.asid = 0 ∧ launched.record.len / 64 + 2 = 2 ∧
    r.launchOf (some (0, 1)) = some { launched with released := false } ∧ launched.rt ≤ r.tick ∧
    launched.record.cores.getLsbD 0 = true ∧ launched.record.cores.getLsbD 127 = false ∧
    (r.coreAt 0).mesh.written = [] := by decide +kernel

theorem wit_SecurityEventsAct :
    let o : State := { base with hsem := 2 }
    let b : State := { base with attest := { base.attest with busy := true } }
    let f : State := { base with fw := { base.fw with fuse := true } }
    let u : State := { base with fw := { base.fw with busy := true } }
    let c : State := { o with hsemAsk := true }
    base.hsem = 0 ∧ o.hsem ≠ 0 ∧ o.hsemAsk = false ∧ c.hsem ≠ 0 ∧ c.hsemAsk = true ∧ o.ownsHsem 1 = true ∧ o.ownsHsem 0 = false ∧ o.fw.busy = false ∧ o.hostOps = [] ∧ o.pageWait = [] ∧
    base.attest.busy = false ∧ b.attest.busy = true ∧ f.fw.fuse = true ∧ f.fw.runSlot = f.fw.nextSlot ∧ f.fw.recovery = false ∧
    u.fw.busy = true ∧ imageStatus u.fw.staged u.fw ≠ 1 ∧ base.launches = [] := by decide +kernel

/-- The fields of an image with one segment of 48 zero bytes for target 0, its digest right. -/
def imageFields : Memory :=
  let body := leBytes 4 0 ++ leBytes 4 0 ++ leBytes 4 48 ++ leBytes 4 0 ++ List.replicate 48 0
  Memory.store (Memory.store (Memory.put (Memory.put (Memory.put (Memory.put [] 0 4 0x4D344657) 4 4 1) 0x10 4 64) 0x14 4 1) 0x20 (sha256 body))
    0x100 body
/-- The secret of its signer, and the randomizer of its signature. -/
def signer : List (BitVec 8) := List.replicate 48 7
def randomizer : List (BitVec 8) := List.replicate 16 9
/-- The image with its key, and signed by it. -/
def unsignedImage : Memory := imageFields.store 0x40 (slhPublic signer)
def image : Memory := unsignedImage.store 0x140 (slhSign signer randomizer (unsignedImage.bytes 0 0x140))

theorem imageFields_wf : imageFields.wf = true := by decide +kernel
theorem unsignedImage_wf : unsignedImage.wf = true := Memory.store_wf _ _ imageFields_wf

/-- A field of the image outside its key and signature is as written. -/
theorem image_field {b n : Nat} (h : b + n ≤ 0x40 ∨ 0x60 ≤ b ∧ b + n ≤ 0x140) : image.bytes b n = imageFields.bytes b n := by
  rw [image, Memory.bytes_store_of_disjoint _ _ _ _ unsignedImage_wf (by omega), unsignedImage,
    Memory.bytes_store_of_disjoint _ _ _ _ imageFields_wf (by rw [length_slhPublic]; omega)]

theorem image_key : image.bytes 0x40 32 = slhPublic signer := by
  rw [image, Memory.bytes_store_of_disjoint _ _ _ _ unsignedImage_wf (by decide), unsignedImage,
    Memory.bytes_store _ _ _ imageFields_wf (length_slhPublic _)]

/-- The image's signature verifies. -/
theorem image_signed : slhVerify (image.bytes 0x40 32) (image.bytes 0 0x140) (image.bytes 0x140 7856) = true := by
  rw [image_key, image, Memory.bytes_store _ _ _ unsignedImage_wf (length_slhSign _ _ _),
    Memory.bytes_store_of_disjoint _ _ _ _ unsignedImage_wf (by decide)]
  exact slhVerify_slhSign _ _ _

/-- What it takes for an image to pass every check of R374, its fields being those of another. -/
theorem accepted_of {m e : Memory} {f : Firmware} {g : List Segment}
    (hf : ∀ b n, (b + n ≤ 0x40 ∨ 0x60 ≤ b ∧ b + n ≤ 0x140) → m.num b n = e.num b n)
    (hd : m.bytes 0x20 32 = e.bytes 0x20 32) (hy : m.bytes 0x100 64 = e.bytes 0x100 64) (hb : e.num 0x10 4 = 64)
    (he : (e.num 0 4 = 0x4D344657 ∧ e.num 4 4 = 1) ∧ (e.num 0x0C 4 = 0 ∧ e.num 0x18 8 = 0 ∧ e.num 0x60 160 = 0 ∧ e.num 8 4 ≤ 64) ∧
      e.num 0x14 4 = 1)
    (hk : digestOf (m.bytes 0x40 32) = f.keyDigest) (hc : f.fusedCount = 0) (hs : sha256 (e.bytes 0x100 64) = e.bytes 0x20 32)
    (hv : slhVerify (m.bytes 0x40 32) (m.bytes 0 0x140) (m.bytes 0x140 7856) = true) (hg : imageSegments m = some g) :
    imageStatus m f = 1 := by
  obtain ⟨⟨h1, h2⟩, ⟨h3, h4, h5, h6⟩, h7⟩ := he
  have h6 : ¬64 < e.num 8 4 := Nat.not_lt.mpr h6
  simp only [imageStatus, hf 0x10 4 (by decide), hf 0 4 (by decide), hf 4 4 (by decide), hf 0x0C 4 (by decide), hf 0x18 8 (by decide),
    hf 0x60 160 (by decide), hf 8 4 (by decide), hf 0x14 4 (by decide), hb, h1, h2, h3, h4, h5, h6, h7, hk, hc, hd, hy, hs, hv, hg]
  rw [if_neg (by decide), if_neg (by decide), if_neg (by decide), if_neg (by simp), if_neg (by omega), if_neg (by simp)]
  rfl

/-- Its one segment. -/
theorem segments_of {m e : Memory} (hf : ∀ b n, (b + n ≤ 0x40 ∨ 0x60 ≤ b ∧ b + n ≤ 0x140) → m.num b n = e.num b n)
    (hb : e.num 0x10 4 = 64)
    (he : e.num 0x14 4 = 1 ∧ e.num 0x100 4 = 0 ∧ e.num 0x104 4 = 0 ∧ e.num 0x108 4 = 48 ∧ e.num 0x10C 4 = 0) :
    imageSegments m = some [⟨0, 0, 48, 0x110⟩] := by
  obtain ⟨h1, h2, h3, h4, h5⟩ := he
  rw [imageSegments, hf 0x10 4 (by decide), hf 0x14 4 (by decide), hb, h1, segmentsFrom, hf 0x100 4 (by decide),
    hf 0x104 4 (by decide), hf 0x108 4 (by decide), hf 0x10C 4 (by decide), h2, h3, h4, h5, segmentsFrom]
  have : (m.all fun p => decide (p.1 < 0x100 + 16 + 48) || decide (0x100 + 64 ≤ p.1)) = true :=
    List.all_eq_true.mpr fun p _ => by rw [Bool.or_eq_true, decide_eq_true_eq, decide_eq_true_eq]; omega
  rw [if_neg (by decide), if_pos this]
  rfl

/-- The image passes every check of R374. -/
theorem image_accepted (f : Firmware) (hk : f.keyDigest = digestOf (image.bytes 0x40 32)) (hc : f.fusedCount = 0) :
    imageStatus image f = 1 := by
  have fields : ∀ b n, (b + n ≤ 0x40 ∨ 0x60 ≤ b ∧ b + n ≤ 0x140) → image.num b n = imageFields.num b n :=
    fun b n h => congrArg leNat (image_field h)
  have hb : imageFields.num 0x10 4 = 64 := by decide +kernel
  have hs := segments_of (m := image) fields hb (by decide +kernel)
  refine accepted_of (m := image) (e := imageFields) (fun b n h => fields b n h) (image_field (by decide)) (image_field (by decide))
    hb (by decide +kernel) hk.symm hc (by decide +kernel) image_signed hs

/-- `base` with that image in the slot that runs next, and staged for an update. -/
def updating : State :=
  { base with fw := { base.fw with slot0 := image, staged := image, busy := true, keyDigest := digestOf (image.bytes 0x40 32) } }

theorem wit_SecurityEventsAct_image :
    updating.launches = [] ∧ updating.feWrites = [] ∧ updating.log.length ≤ 4096 ∧ updating.fw.busy = true ∧
    imageStatus updating.fw.staged updating.fw = 1 ∧
    imageStatus (updating.fw.slot updating.fw.nextSlot) { updating.fw with staged := [], busy := false, status := 0, askFuse := false } = 1 := by
  have hk : updating.fw.keyDigest = digestOf (image.bytes 0x40 32) := by dsimp only [updating]
  refine ⟨rfl, rfl, by decide, rfl, ?_, ?_⟩
  · have := image_accepted updating.fw hk rfl
    dsimp only [updating] at this ⊢
    exact this
  · have := image_accepted { updating.fw with staged := [], busy := false, status := 0, askFuse := false } hk rfl
    have hn : updating.fw.nextSlot = false := by rfl
    have hs : updating.fw.slot updating.fw.nextSlot = image := by
      rw [hn]
      simp only [Firmware.slot, Bool.false_eq_true, if_false]
      dsimp only [updating]
    rw [hs]
    exact this

/-- `base` with the window of host port 0 open on the control registers. -/
def hostOpen : State := { base with hap := vset base.hap 0 (0x8000000000000000 ||| 0x3E0) }

theorem wit_HostAccessesAct :
    let la (s : State) (off : BitVec 36) := ((vget s.hap 0 0).extractLsb' 0 10).toNat * 2 ^ 36 + off.toNat
    let off : BitVec 36 := 0x200000
    let h : HostOp := ⟨none, 0, la hostOpen off, 8, some (leBytes 8 7)⟩
    let r : HostOp := { h with data := none }
    let g : HostOp := ⟨none, 0, 0x3E0010000010 + 0x1000 * 255, 4, none⟩
    let t := devWrite (.host 0) (la hostOpen off) (leBytes 8 7) { hostOpen with hostOps := [h] }
    let u := devRead (la hostOpen off) 8 { hostOpen with hostOps := [r] }
    let w := hostStep g { hostOpen with phys := [(255, { base.phy 255 with running := true })], hostOps := [g, h] }
    let q : State := { hostOpen with hostOps := [g] }
    (vget base.hap 0 0).getLsbD 63 = false ∧ rangeOf (0x080 * 2 ^ 36) = .unassigned ∧ (List.replicate 513 (0 : BitVec 8)).length = 513 ∧
    (vget hostOpen.hap 0 0).getLsbD 63 = true ∧ rangeOf (la hostOpen off) = .control ∧ hostOpen.hostOps = [] ∧
    (leBytes 8 7).length = 8 ∧ devSizeOk (la hostOpen off) 8 = true ∧ devSizeOk (la hostOpen off) 16 = false ∧
    devSizeOk (la hostOpen 0x200004) 8 = false ∧ t.hostOps = [h] ∧ u.1.isSome = true ∧ u.2.hostOps = [r] ∧
    g.fromPort 0 = true ∧ w.1 = false ∧ w.2.hostOps = [g, h] ∧
    (0x2FFFFF : BitVec 26).toNat + [(0 : BitVec 8)].length ≤ 0x300000 ∧
    hostOpen.hostOps.any (HostOp.fromPort 0) = false ∧ q.hostOps.any (HostOp.fromPort 0) = true ∧
    rangeOf (0x3E0000210000#46).toNat = .control ∧ (0x3E0000210000#46).toNat % 8 = 0 ∧ (0x3E0000210004#46).toNat % 8 ≠ 0 ∧
    base.fw.recovery = false := by decide +kernel

theorem wit_HostAccessesAct_ptest :
    let a : GAccess := ⟨0, .load, 0, 0x100, 4, 0, 0, 0, 0, 0, 0, .ready (0x3E0010000010 + 0x1000 * 255) 2, 0, 0, 0⟩
    let s : State := onBank fun k => { k with tracked := [⟨[⟨.x, 1⟩], .access a, 0, 0, 0, 0, .s⟩] }
    let r : State := { base with phys := [(255, { base.phy 255 with running := true })] }
    (r.phy 255).running = true ∧
    (s.phy 255).running = false ∧ s.fw.recovery = false ∧ (s.bank.accesses.find? fun a => a.readsPtest s.devId 255) = some a ∧
    s.bank.blocked a = false ∧ a.n = 4 := by decide +kernel

/-- A sticky entry with an opcode that no decoded word has: what no run reaches. -/
def unreachable : State := onBank fun b => { b with queues := vset b.queues 0 [entryOf (some (.s 0x7F (.rr ⟨always, 0, 0, 0⟩))) true] }

theorem wit_StepTakesEvent :
    let s (n : Nat) (i : Instr) : State := { base with agenda := [(n, i)] }
    ({ base with inputs := [.haltRequest 0] } : State).inputs = [.haltRequest 0] ∧ (s 135 .frameTick).inputs = [] ∧
    (s 135 .frameTick).agenda = [(135, .frameTick)] ∧
    (∃ t, exec .frameTick ({ s 135 .frameTick with agenda := [] }.focus 135) = .next t) ∧
    (∃ e, exec (.stickyReissue .s) ({ unreachable with agenda := [] }.focus 0) = .refused e) ∧
    (s 136 .frameTick).agenda = [(136, .frameTick)] ∧ 136 ≤ 136 :=
  ⟨rfl, rfl, rfl, ⟨_, rfl⟩, ⟨.noOperation, by rfl⟩, rfl, by decide⟩

/-- Dispatch is stopped; the S queue holds ADD x1, x2, x3 and the M queue an idle entry. -/
def issuing : State := onBank fun b => { b with
  hold := .stopped, seqNext := 1, ended := false,
  queues := vset (vset b.queues 0 [entryOf (some (Instr.add ⟨always, 1, 2, 3⟩).view) false]) 3 [entryOf none false] }

/-- The ADD of `issuing`, and the state in which it issues. -/
def theAdd : Entry := entryOf (some (Instr.add ⟨always, 1, 2, 3⟩).view) false
def seated : State := ((((askSlots (trapIllegal (dispatch (beginWork issuing)))).2.modCore fun c => { c with seen := some (c.chans, c.wins) }).modBank
  fun b => b.setQueue .s []).seat .s theAdd).modBank fun b => b.fixJoins theAdd (Instr.add ⟨always, 1, 2, 3⟩).view

theorem wit_StepRunsTheInstruction :
    let a := askSlots (trapIllegal (dispatch (beginWork issuing)))
    let d := a.2
    issuing.inputs = [] ∧ issuing.agenda = [] ∧ (beginWork issuing).core.run.issues = true ∧ issueSetBut d a.1 = [] ++ .s :: [.m] ∧ headOf d.bank .m = some (entryOf none false) ∧
    d.bank.queue .s = [theAdd] ∧ theAdd.op = some (Instr.add ⟨always, 1, 2, 3⟩).view ∧ (Instr.add ⟨always, 1, 2, 3⟩).WellFormed ∧
    (Instr.add ⟨always, 1, 2, 3⟩).view.homeSlot = some .s ∧ (Instr.add ⟨always, 1, 2, 3⟩).view.spadWrites = false ∧
    headOf (seated.landX 1 0 1).bank .m = some (entryOf none false) ∧ newTrap d (issueIdle (seated.landX 1 0 1) .m) = none := by
  decide +kernel

theorem wit_StepRunsTheInstruction_exec : exec (.add ⟨always, 1, 2, 3⟩) seated = .next (seated.landX 1 (seated.readX 2 + seated.readX 3) 1) ∧
    seated.readX 2 + seated.readX 3 = 0 := ⟨rfl, by decide +kernel⟩

/-- Dispatch is stopped; the V0 queue holds VSTI of v3 to address x2 and the M queue an idle entry; the VSTI, and its issue. -/
def stores : VOp := ⟨always, 0, 2, 3, 0, 0, 0, 0, false, 0⟩
def theStore : Entry := entryOf (some (Instr.vsti stores).view) false
def storing : State := onBank fun b => ({ b with hold := .stopped, seqNext := 1, ended := false }.setQueue .v0 [theStore]).setQueue .m
  [entryOf none false]
def storeSeat : State := ((((askSlots (trapIllegal (dispatch (beginWork storing)))).2.modCore fun c =>
  { c with seen := some (c.chans, c.wins), wrote := [] }).modBank fun b => b.setQueue .v0 []).seat .v0 theStore).modBank fun b =>
    b.fixJoins theStore (Instr.vsti stores).view
/-- What a joint issue makes of that store beside the idle entry: no new trap. -/
def storesJointly (t : State) : Bool :=
  let d := (askSlots (trapIllegal (dispatch (beginWork storing)))).2
  let r := [Slot.m].foldl issueIdle t
  ((headOf t.bank .m).all (·.op.isNone)) && (newTrap d (r.modCore fun c => { c with
    spad := writeMasked d.core.spad t.core.wrote, spadBad := stillBad d.core.spadBad t.core.wrote })).isNone && t.core.wrote.length == 512

theorem wit_StepRunsTheInstruction_joint :
    let a := askSlots (trapIllegal (dispatch (beginWork storing)))
    storing.inputs = [] ∧ storing.agenda = [] ∧ (beginWork storing).core.run.issues = true ∧ issueSetBut a.2 a.1 = [] ++ .v0 :: [.m] ∧
    theStore.op = some (Instr.vsti stores).view ∧ (Instr.vsti stores).WellFormed ∧ (Instr.vsti stores).view.homeSlot = some .v0 ∧
    (Instr.vsti stores).view.spadWrites = true ∧
    (match exec (.vsti stores) storeSeat with | .next t => storesJointly t | _ => false) = true := by
  decide +kernel

/-- `base` with a task running and a bundle of a header and an S payload at address 0. -/
def withBundle (header payload : Nat) : State :=
  onCore fun c => { c with imem := Memory.put [] 0 8 (header + payload * 2 ^ 32), bankA := { c.bankA with ended := false } }

theorem wit_DispatchQueuesTheBundle :
    let ok (s : State) : Bool := s.bank.gap == 0 && mayDispatch s && (illegalCause s.core s.bank).isNone && !bodyBroken s.core s.bank
    let hdr (s : State) : Header := s.core.header s.bank
    let jump := withBundle 0x8000000A 0x5E000001
    let wait := withBundle 0x8000000A 0x9E000000
    let inBody : State := { jump with core := { jump.core with bankA := { jump.core.bankA with
      loop := ⟨true, 0, 0, 8, false, 0, 0, jump.core.imem, []⟩ } } }
    (withHeader 0).bank.gap = 0 ∧ mayDispatch (withHeader 0) = true ∧
    (illegalCause (withHeader 0).core (withHeader 0).bank).isSome = true ∧
    ok (withHeader 0xA) = true ∧ (withHeader 0xA).bank.rep = (hdr (withHeader 0xA)).rpt.toNat ∧
    ok (withHeader 0x10A) = true ∧ (withHeader 0x10A).bank.rep ≠ (hdr (withHeader 0x10A)).rpt.toNat ∧
    ok jump = true ∧ (jump.core.sOp jump.bank).any View.isControl = true ∧ ok wait = true ∧
    (wait.core.sOp wait.bank).any (fun v => !v.isControl && v.isWait) = true ∧ mayDispatch inBody = true ∧
    mayDispatch (passEndIfDue inBody) = true ∧ illegalCause (passEndIfDue inBody).core (passEndIfDue inBody).bank = none ∧
    bodyBroken (passEndIfDue inBody).core (passEndIfDue inBody).bank = true := by decide +kernel

theorem wit_DispatchQueuesTheBundle_loop :
    passEndIfDue (withHeader 0) = withHeader 0 ∧ passEndIfDue (withBundle 0x8000000A 0x5E000001) = withBundle 0x8000000A 0x5E000001 :=
  ⟨rfl, rfl⟩

theorem wit_FalsePredicateDoesNothing :
    (Instr.add ⟨never, 1, 2, 3⟩).view.homeSlot.isSome = true ∧ base.holds (Instr.add ⟨never, 1, 2, 3⟩).view.guard = false ∧
    ((Instr.add ⟨never, 1, 2, 3⟩).view.isControl || (Instr.add ⟨never, 1, 2, 3⟩).view.isWait) = false ∧
    (Instr.br ⟨never, 1⟩).view.homeSlot.isSome = true ∧ base.holds (Instr.br ⟨never, 1⟩).view.guard = false ∧
    ((Instr.br ⟨never, 1⟩).view.isControl || (Instr.br ⟨never, 1⟩).view.isWait) = true ∧
    (∀ f, Instr.br ⟨never, 1⟩ ≠ .loop f) ∧ ∀ f, Instr.br ⟨never, 1⟩ ≠ .loopi f :=
  ⟨by decide, by decide, by decide, by decide, by decide, by decide, fun _ => nofun, fun _ => nofun⟩

theorem wit_TrapsAreTakenAndLeft :
    base.core.run = .running ∧ draining.core.run = .draining ∧ freezing.core.run = .freezing ∧ TrapKind.deferred ≠ .atIssue ∧
    freezing.core.trap = some ⟨0x10, .atIssue, 0, 0, 0, 0, 0, 0⟩ ∧ freezing.core.badEntry = none ∧
    freezing.core.freezeAt = freezing.cycle ∧ freezing.core.freezeAt ≠ ({ freezing with cycle := 1 } : State).cycle ∧
    (∀ i < 48, (vget freezing.core.psb i ⟨0, 0⟩).header.getLsbD 63 = false) ∧
    freezing.core.deferred = [] := by decide +kernel

theorem wit_ResultsLandInRegisters :
    (0 < 63 ∧ 63 < 64) ∧ (0 < 15 ∧ 15 < 16) ∧ (0 < 7 ∧ 7 < 8) ∧ (⟨⟨.m, 7⟩, 0, 0, 0, 0, 0, .s, none, false⟩ : InFlight).reg.file ≠ .sr := by
  decide

theorem wit_ResetState : (135 < 136 ∧ 271 < 272) ∧ (Core.reset true).bankB ∈ [(Core.reset true).bankA, (Core.reset true).bankB] :=
  ⟨by decide, by simp⟩

theorem wit_MemoryIsCanonical :
    Memory.wf [] = true ∧ Memory.wf [(0, 255), (0xFFFFFFFF, 1)] = true ∧ (∀ a, Memory.read [(3, 1)] a = Memory.read [(3, 1)] a) ∧
    4 < 5 ∧ 5 + [(1 : BitVec 8), 2].length ≤ 7 ∧ ∀ p ∈ [((5 : Nat), (1 : BitVec 8), (0xF0 : BitVec 8))], p.1 ≠ 4 :=
  ⟨rfl, by decide, fun _ => rfl, by decide, by decide, by decide⟩

/-- The machine at rest, five cycles after reset. -/
def resting : State := { State.reset with cycle := 5 }

theorem wit_QuietMachineStaysQuiet : Quiet resting where
  agenda := ⟨rfl, rfl⟩
  halted := rfl
  banks := ⟨⟨⟨rfl, rfl, rfl⟩, rfl, rfl, rfl, rfl⟩, ⟨rfl, rfl, rfl⟩, rfl, rfl, rfl, rfl⟩
  mesh := ⟨rfl, rfl⟩
  channels := by decide +kernel
  barriers := by decide +kernel
  task := ⟨rfl, rfl, rfl, rfl, rfl⟩
  others := by decide +kernel
  watchdogs := by decide +kernel
  front := ⟨rfl, rfl, rfl, rfl, rfl⟩
  paging := ⟨rfl, rfl, rfl⟩
  lines := ⟨rfl, rfl, rfl, rfl, rfl⟩
  reports := by decide +kernel
  tiers := ⟨rfl, by decide +kernel⟩
  repairs := by decide +kernel
  firmware := ⟨rfl, rfl, rfl⟩
  wires := by decide +kernel

/-! ## Worked examples of the spec -/

/-- The header of the worked encoding (chapter 3): PRES V0, IDLE S, M, C0 and C1, SYNC V0 and C0, RPT 7. -/
theorem test_header : readHeader 0x4274870A = ⟨0b010000, 0b100111, 0b010010, 0b000111, 0, 0b1010⟩ := by decide
/-- The VFNMA of chapter 11: PRED 9, D 21, A 33, B 4, C 71. -/
theorem test_decode_vfnma : decodeSlot .v0 0x0B2550848E000000 = .ok (Instr.vfnma ⟨⟨9, false⟩, 21, 33, 4, 71, 0, 0, 0, false, 0⟩).view := by
  decide
/-- The WAITV of chapter 18: D 21, A 8, B 4. -/
theorem test_decode_waitv : decodeSlot .s 0xA6054810 = .ok (Instr.waitv ⟨always, 21, 8, 4, false⟩).view := by decide
/-- The CRSM of chapter 18: PRED 1, CH 2, TID 3, NEW. -/
theorem test_decode_crsm : decodeSlot .c0 0x444800E000000000 = .ok (.c 0x11 (.kr ⟨⟨1, false⟩, 2, 3, true⟩)) := by decide
/-- The PS8 code 0x1E is 0.484375 = 31/64 (chapter 8), and 0x01 and 0x10 are both 1.5. -/
theorem test_ps8 : ps8Value 0x1E = 31 ∧ ps8Value 0x01 = 96 ∧ ps8Value 0x10 = 96 := by decide

/-! ## One step of some operations -/

/-- What an operation puts under way: register and value. -/
def result (o : Out) : Option (RegRef × BitVec 64) :=
  match o with
  | .next s => s.bank.inflight.head?.map fun f => (f.reg, f.value.setWidth 64)
  | _ => none
/-- `base` with x2 and x3. -/
def with2 (a b : BitVec 64) : State := onBank fun k => { k with x := vset (vset k.x 2 a) 3 b }

theorem test_add_wraps : result (exec (.add ⟨always, 1, 2, 3⟩) (with2 0xFFFFFFFFFFFFFFFF 2)) = some (⟨.x, 1⟩, 1) := by decide +kernel
theorem test_sub_borrows : result (exec (.sub ⟨always, 1, 2, 3⟩) (with2 0 1)) = some (⟨.x, 1⟩, 0xFFFFFFFFFFFFFFFF) := by decide +kernel
theorem test_sha_sign : result (exec (.sha ⟨always, 1, 2, 3⟩) (with2 0x8000000000000000 63)) = some (⟨.x, 1⟩, 0xFFFFFFFFFFFFFFFF) := by
  decide +kernel
/-- A rotating name under ROTB 0 is its own register (R63). -/
theorem test_add_source_is_destination : result (exec (.add ⟨always, 2, 2, 2⟩) (with2 21 0)) = some (⟨.x, 2⟩, 42) := by decide +kernel
theorem test_clz_zero : result (exec (.clz ⟨always, 1, 2, 0⟩) base) = some (⟨.x, 1⟩, 64) := by decide +kernel
theorem test_andi_extends : result (exec (.andi ⟨always, 1, 2, 0x80⟩) (with2 0xFFFFFFFFFFFFFFFF 0)) = some (⟨.x, 1⟩, 0xFFFFFFFFFFFFFF80) := by
  decide +kernel
theorem test_ori_zero_extends : result (exec (.ori ⟨always, 1, 2, 0x80⟩) (with2 0 0)) = some (⟨.x, 1⟩, 0x80) := by decide +kernel
theorem test_li_sign : result (exec (.li ⟨always, 1, 0x3FFF⟩) base) = some (⟨.x, 1⟩, 0xFFFFFFFFFFFFFFFF) := by decide +kernel
theorem test_lis_shifts : result (exec (.lis ⟨always, 2, 0x2345⟩) (with2 1 0)) = some (⟨.x, 2⟩, 0x6345) := by decide +kernel
theorem test_cmp_signed : result (exec (.cmpLts ⟨always, 5, 2, 3⟩) (with2 0xFFFFFFFFFFFFFFFF 0)) = some (⟨.p, 5⟩, 1) := by decide +kernel
theorem test_cmp_unsigned : result (exec (.cmpLtu ⟨always, 5, 2, 3⟩) (with2 0xFFFFFFFFFFFFFFFF 0)) = some (⟨.p, 5⟩, 0) := by
  decide +kernel
/-- A rotating register: with ROTB 1 the name x33 is the physical register 32 (R63). -/
theorem test_rotation : physReg 1 33 = 32 ∧ physReg 1 32 = 63 ∧ physReg 31 31 = 31 := by decide
theorem test_bext : bext 0b11010 0b10110 = 0b101 ∧ bdep 0b101 0b10110 = 0b10010 := by decide +kernel
/-- 1.0 + 2^-24 rounds to even, up under RUP (FP32). -/
theorem test_fp32_round : (fp32.round .rne false false (2 ^ 24 + 1) (-24) false).val = 0x3F800000 ∧
    (fp32.round .rup false false (2 ^ 24 + 1) (-24) false).val = 0x3F800001 := by decide +kernel
/-- The check value of CRC-32 over the digits 1 to 9 (IEEE 802.3). -/
theorem test_crc : frameCrc [0x31, 0x32, 0x33, 0x34, 0x35, 0x36, 0x37, 0x38, 0x39] = 0xCBF43926 := by decide +kernel
/-- The SHA-256 of "abc" (FIPS 180-4), its first four bytes. -/
theorem test_sha256 : (sha256 [0x61, 0x62, 0x63]).take 4 = [0xBA, 0x78, 0x16, 0xBF] := by decide +kernel
/-- TRAP freezes the core with cause 0x10 (R97). -/
theorem test_trap : (Out.stateD base (exec (.trap ⟨always, 7⟩) base)).core.run = .freezing ∧
    (Out.stateD base (exec (.trap ⟨always, 7⟩) base)).core.trap.map (·.cause) = some 0x10 := by decide +kernel
/-- `base` with v2 and v3, every lane alike, and m1 with lane 127 alone. -/
def vectors (a b : BitVec 32) : State :=
  onBank fun k => { k with
    m := vset k.m 1 (1 <<< 127), v := vset (vset k.v 2 (ofLanes (List.replicate 128 a))) 3 (ofLanes (List.replicate 128 b)) }
/-- FP32 1.0 plus 2.0 is 3.0 in lane 127 of the result, which is the one lane written (R135). -/
theorem test_vadd : ((Out.stateD base (exec (.vadd { regs with mask := 1 }) (vectors 0x3F800000 0x40000000))).bank.inflight.head?.map
    fun f => (f.reg, lane f.value 127, f.lanes)) = some ((⟨.v, 1⟩ : RegRef), (0x40400000 : BitVec 32), (1 : BitVec 128) <<< 127) := by decide +kernel
/-- A store of a byte is read back, and the memory stays canonical when it is written to 0. -/
theorem test_memory : Memory.write (Memory.write [] 7 5) 7 0 = [] ∧ Memory.read (Memory.write [] 7 5) 7 = 5 := by decide
end Sys2Proof.Tests
end

section
/-! SUPPORT. Memories in canonical form: little-endian numbers read back, masked bytes leave what they do not name, and a memory is
determined by what it reads as. -/
namespace Sys2Proof

/-- A number is stored in as many bytes as asked for. -/
@[simp] theorem length_leBytes (n v : Nat) : (leBytes n v).length = n := by
  induction n generalizing v with
  | zero => rfl
  | succ n ih => exact congrArg (· + 1) (ih (v / 256))

/-- The bytes of a number read back as the number, cut to their width (R2). -/
theorem leNat_leBytes (n v : Nat) : leNat (leBytes n v) = v % 2 ^ (8 * n) := by
  induction n generalizing v with
  | zero => exact (Nat.mod_one v).symm
  | succ n ih =>
    rw [leBytes, leNat, ih, BitVec.toNat_ofNat, show 8 * (n + 1) = 8 + 8 * n by ring, pow_add, Nat.mod_mul]
    rfl

namespace Machine

/-- The tail of a canonical memory reads as the memory does past its head, and as 0 up to it. -/
theorem Memory.read_tail {k : Nat} {b : BitVec 8} {m : Memory} (h : Memory.wf ((k, b) :: m) = true) (a : Nat) :
    m.read a = if a ≤ k then 0 else Memory.read ((k, b) :: m) a := by
  obtain ⟨-, hk, -⟩ := Memory.wf_cons.mp h
  split
  · exact Memory.read_below fun p hp => by have := hk p hp; omega
  · rw [Memory.read, if_neg (by omega), if_neg (by omega)]

/-- The head of a memory reads as its byte. -/
@[simp] theorem Memory.read_head (k : Nat) (b : BitVec 8) (m : Memory) : Memory.read ((k, b) :: m) k = b := if_pos rfl

/-- A memory that reads alike at the head of a canonical one lists an address at or below it. -/
theorem Memory.head_not_below {k : Nat} {b : BitVec 8} {m o : Memory} (h : Memory.wf ((k, b) :: m) = true)
    (hr : o.read k = Memory.read ((k, b) :: m) k) : ¬ ∀ p ∈ o, k < p.1 := by
  intro ho
  obtain ⟨hb, -, -⟩ := Memory.wf_cons.mp h
  rw [Memory.read_below ho, Memory.read_head] at hr
  exact hb hr.symm

/-- Of two canonical memories that read alike neither begins above the other. -/
theorem Memory.head_le {j k : Nat} {b c : BitVec 8} {m o : Memory} (hm : Memory.wf ((k, b) :: m) = true)
    (ho : Memory.wf ((j, c) :: o) = true) (hr : ∀ a, Memory.read ((j, c) :: o) a = Memory.read ((k, b) :: m) a) : j ≤ k := by
  obtain ⟨-, hj, -⟩ := Memory.wf_cons.mp ho
  by_contra hlt
  exact Memory.head_not_below hm (hr k) (List.forall_mem_cons.mpr ⟨by simpa using hlt, fun p hp => by have := hj p hp; omega⟩)

/-- Two canonical memories that read alike are equal. -/
theorem Memory.eq_of_read {m o : Memory} (hm : m.wf = true) (ho : o.wf = true) (h : ∀ a, m.read a = o.read a) : m = o := by
  induction m generalizing o with
  | nil =>
    cases o with
    | nil => rfl
    | cons q o => exact absurd (List.forall_mem_nil _) (Memory.head_not_below ho (h q.1))
  | cons p m ih =>
    cases o with
    | nil => exact absurd (List.forall_mem_nil _) (Memory.head_not_below hm (h p.1).symm)
    | cons q o =>
      obtain ⟨k, b⟩ := p
      obtain ⟨j, c⟩ := q
      obtain rfl : k = j := le_antisymm (Memory.head_le ho hm h) (Memory.head_le hm ho fun a => (h a).symm)
      have hbc : b = c := by simpa using h k
      have htail : m = o := ih (Memory.wf_cons.mp hm).2.2 (Memory.wf_cons.mp ho).2.2 fun a => by
        rw [Memory.read_tail hm, Memory.read_tail ho, h]
      rw [hbc, htail]

/-- A stored number reads back, cut to the bytes that it was stored in. -/
theorem Memory.num_put {m : Memory} (a n v : Nat) (h : m.wf = true) : (m.put a n v).num a n = v % 2 ^ (8 * n) := by
  rw [Memory.num, Memory.put, Memory.bytes_store a n _ h (length_leBytes n v), leNat_leBytes]

/-- Masked bytes written leave every address that they do not name. -/
theorem read_writeMasked_of_forall_ne {m : Memory} (l : List (Nat × BitVec 8 × BitVec 8)) {k : Nat} (h : m.wf = true)
    (hk : ∀ p ∈ l, p.1 ≠ k) : (writeMasked m l).read k = m.read k := by
  induction l generalizing m with
  | nil => rfl
  | cons p l ih =>
    obtain ⟨hp, hl⟩ := List.forall_mem_cons.mp hk
    exact (ih (Memory.write_wf _ _ h) hl).trans ((Memory.read_write _ _ _ h).trans (if_neg hp.symm))

end Machine
end Sys2Proof
end

section
/-! Proof of the obligation O59 (spec/00_scope.md R2, spec/04 R46). -/
namespace Sys2Proof.Machine

/-- Settles O59: the laws of memories in canonical form, and extensionality by the head of each memory in turn. -/
theorem memoryIsCanonical : Obligations.MemoryIsCanonical := by
  unfold Obligations.MemoryIsCanonical
  refine ⟨fun m a k b h => ⟨Memory.write_wf a b h, ?_, fun hk => ?_⟩,
    fun m a k l h => ⟨Memory.store_wf a l h, Memory.bytes_store a _ l h rfl, fun hk => ?_⟩,
    fun m a n v h => ⟨Memory.put_wf a n v h, Memory.num_put a n v h⟩, fun m o => Memory.eq_of_read,
    fun m l k h => ⟨writeMasked_wf l h, read_writeMasked_of_forall_ne l h⟩⟩
  · rw [Memory.read_write a a b h, if_pos rfl]
  · rw [Memory.read_write a k b h, if_neg hk]
  · rw [Memory.read_store a k l h, if_neg (by omega)]

end Sys2Proof.Machine
end

section
/-! SUPPORT. What a step does, by what stands first: an input, an event of the agenda, or a cycle of the core in focus. -/
namespace Sys2Proof.Machine

/-- The oldest input is taken first (log entry 91). -/
theorem step_of_input {s : State} {i : Input} {rest : List Input} (h : s.inputs = i :: rest) :
    step s = .next (takeInput i { s with inputs := rest }) := by
  rw [step, h]

/-- With no input, the oldest event of the agenda happens at the core it names (log entry 86). -/
theorem step_of_event {s : State} {n : Nat} {i : Instr} {rest : List (Nat × Instr)} (hi : s.inputs = [])
    (ha : s.agenda = (n, i) :: rest) : step s =
      if n < 136 then refocus s.coreNo (exec i ({ s with agenda := rest }.focus n)) else .fault .noSuchCore := by
  rw [step, hi, ha]

/-- With no input and no event, the core in focus runs a cycle. -/
theorem step_of_no_event {s : State} (hi : s.inputs = []) (ha : s.agenda = []) : step s = coreCycle s := by
  rw [step, hi, ha]

end Sys2Proof.Machine
end

section
/-! Proof of the obligation O52 (spec/00_scope.md R3, R7). -/
namespace Sys2Proof.Machine

/-- Settles O52: the equations of a step, with what the focus returning does to each answer of the event. -/
theorem stepTakesEvent : Obligations.StepTakesEvent := by
  unfold Obligations.StepTakesEvent
  refine ⟨fun s i rest => step_of_input, fun s n i rest hi ha => ⟨fun hn => ⟨fun t ht => ?_, fun r hr => ?_⟩, fun hn => ?_⟩⟩
  · rw [step_of_event hi ha, if_pos hn, ht]
    rfl
  · rw [step_of_event hi ha, if_pos hn, hr]
    rfl
  · rw [step_of_event hi ha, if_neg (Nat.not_lt.mpr hn)]

end Sys2Proof.Machine
end

section
/-! SUPPORT. The issue of a cycle in which one slot issues an operation and every other slot that issues holds an idle entry (spec/03
R23, R24; spec/04 R46). -/
namespace Sys2Proof.Machine

/-! ## Decoded payloads -/

/-- To run the payload of a well-formed operation with a slot is `exec` of it. -/
theorem runView_eq_exec {i : Instr} {slot : Slot} (s : State) (hw : i.WellFormed) (hs : i.view.homeSlot = some slot) :
    runView i.view s = exec i s := by
  cases i
  case semaAcquire f => exact runView_semaAcquire f hw
  case semaRelease f => exact runView_semaRelease f hw
  case semaQuery f => exact runView_semaQuery f hw
  -- An event has no slot.
  all_goals cases hs
  all_goals rfl

/-! ## The slots that issue are distinct -/

/-- The stream comparison only drops slots. -/
theorem streamFit_sublist (s : State) (z : Nat → Desc) (c : List Slot) : (streamFit s z c).Sublist c := by
  induction c generalizing z with
  | nil => exact List.Sublist.refl _
  | cons t ts ih =>
    rw [streamFit]
    split
    · exact (ih z).cons_cons t
    · split
      · exact (ih z).cons_cons t
      · split
        · exact (ih z).cons t
        · exact (ih _).cons_cons t

/-- Settling only drops slots. -/
theorem settleSlots_sublist (s : State) (k : Nat) (c : List Slot) : (settleSlots s k c).Sublist c := by
  induction k generalizing c with
  | zero => exact List.Sublist.refl _
  | succ k ih => exact (ih _).trans ((streamFit_sublist s s.zreg _).trans (List.filter_sublist.trans List.filter_sublist))

/-- The port comparison only drops slots (R36). -/
theorem portFit_sublist (b : Bank) (c : List Slot) (used : Nat × Nat) : (portFit b c used).Sublist c := by
  induction c generalizing used with
  | nil => exact List.Sublist.refl _
  | cons t ts ih =>
    rw [portFit]
    split_ifs
    · exact (ih used).cons t
    · exact (ih _).cons_cons t

/-- No slot issues twice in a cycle. -/
theorem issueSetBut_nodup (s : State) (held : List Slot) : (issueSetBut s held).Nodup := by
  have hsub : (issueSetBut s held).Sublist allSlots :=
    (settleSlots_sublist s 6 _).trans ((portFit_sublist _ _ _).trans
      ((settleSlots_sublist s 6 _).trans (List.filter_sublist.trans List.filter_sublist)))
  exact hsub.nodup (by decide)

/-! ## Idle entries -/

/-- A slot's queue that has been set reads back; the others are as before. -/
theorem Bank.queue_setQueue (b : Bank) (t p : Slot) (q : List Entry) :
    (b.setQueue t q).queue p = if p = t then q else b.queue p := by
  rw [Bank.queue, Bank.setQueue, vget_vset]
  exact if_congr (by cases p <;> cases t <;> decide) rfl rfl

@[simp] theorem State.bank_seat (s : State) (t : Slot) (e : Entry) : (s.seat t e).bank = s.bank := rfl

/-- An empty queue has no idle entry to issue. -/
theorem issueIdle_of_queue_nil {s : State} {t : Slot} (hq : s.bank.queue t = []) : issueIdle s t = s := by
  rw [issueIdle, hq]

/-- The entry at the head of a queue leaves it and takes the seat. -/
theorem issueIdle_of_queue_cons {s : State} {t : Slot} {e : Entry} {q : List Entry} (hq : s.bank.queue t = e :: q) :
    issueIdle s t = (s.modBank fun b => b.setQueue t q).seat t e := by
  rw [issueIdle, hq]

/-- An idle entry that issues leaves every other slot's queue as it was. -/
theorem issueIdle_queue_of_ne {t p : Slot} (s : State) (h : p ≠ t) : (issueIdle s t).bank.queue p = s.bank.queue p := by
  cases hq : s.bank.queue t with
  | nil => rw [issueIdle_of_queue_nil hq]
  | cons e q => rw [issueIdle_of_queue_cons hq, State.bank_seat, State.bank_modBank, Bank.queue_setQueue, if_neg h]

/-- Idle entries that issue leave the queue of a slot that is not among theirs as it was. -/
theorem foldl_issueIdle_queue {p : Slot} {l : List Slot} (s : State) (h : p ∉ l) :
    (l.foldl issueIdle s).bank.queue p = s.bank.queue p := by
  induction l generalizing s with
  | nil => rfl
  | cons t l ih =>
    obtain ⟨hpt, hpl⟩ := List.ne_and_not_mem_of_not_mem_cons h
    exact (ih _ hpl).trans (issueIdle_queue_of_ne s hpt)

/-- Whether the head is idle is a matter of the slot's queue alone. -/
theorem idleHead_congr {s t : State} {p : Slot} (h : IdleHead s p) (hq : t.bank.queue p = s.bank.queue p) : IdleHead t p := by
  rw [IdleHead, headOf, hq]
  exact h

/-- An idle head stays at its place while another slot's idle entry issues. -/
theorem idleHead_issueIdle {s : State} {p t : Slot} (h : IdleHead s p) (hne : p ≠ t) : IdleHead (issueIdle s t) p :=
  idleHead_congr h (issueIdle_queue_of_ne s hne)

/-- At an idle head the issue of the slot is that of the idle entry (R24). -/
theorem issueHead_of_idleHead {s : State} {t : Slot} (h : IdleHead s t) : issueHead t s = .next (issueIdle s t) := by
  cases hq : s.bank.queue t with
  | nil => simp only [issueHead, hq, issueIdle_of_queue_nil hq]
  | cons e q =>
    rw [IdleHead, headOf, hq] at h
    have he : e.op = none := Option.isNone_iff_eq_none.mp h
    simp only [issueHead, hq, he, issueIdle_of_queue_cons hq]

/-- An idle entry writes no scratchpad. -/
theorem slotWrites_of_idleHead {s : State} {t : Slot} (h : IdleHead s t) : slotWrites s.bank t = false := by
  rw [IdleHead] at h
  rw [slotWrites]
  cases hh : headOf s.bank t with
  | none => rfl
  | some e =>
    have he : e.op = none := by simpa [hh] using h
    simp [he]

/-- Idle entries issue ahead of others. -/
theorem issueEach_append_of_idle {pre : List Slot} (ts : List Slot) {s : State} (hn : pre.Nodup) (h : ∀ p ∈ pre, IdleHead s p) :
    issueEach (pre ++ ts) s = issueEach ts (pre.foldl issueIdle s) := by
  induction pre generalizing s with
  | nil => rfl
  | cons t pre ih =>
    obtain ⟨ht, hpre⟩ := List.forall_mem_cons.mp h
    obtain ⟨htn, hn⟩ := List.nodup_cons.mp hn
    rw [List.cons_append, issueEach, issueHead_of_idleHead ht]
    exact ih hn fun p hp => idleHead_issueIdle (hpre p hp) (ne_of_mem_of_not_mem hp htn)

/-! ## Issue on the scratchpad as it stood before the cycle -/

/-- The state with the scratchpad as it stood before the cycle, in which the next slot of a joint issue issues. -/
def State.onSpad (m : Memory) (bad : List Nat) (s : State) : State :=
  s.modCore fun c => { c with spad := m, spadBad := bad, wrote := [] }

/-- The scratchpad and the active bank are set independently. -/
theorem Core.onSpad_setBank (m : Memory) (bad : List Nat) (c : Core) (b : Bank) :
    ({ c with spad := m, spadBad := bad, wrote := [] } : Core).setBank b =
      { c.setBank b with spad := m, spadBad := bad, wrote := [] } := by
  unfold Core.setBank
  cases c.cur <;> rfl

/-- An idle entry issues alike on any scratchpad. -/
theorem issueIdle_onSpad (m : Memory) (bad : List Nat) (s : State) (t : Slot) :
    issueIdle (s.onSpad m bad) t = (issueIdle s t).onSpad m bad := by
  have hspad : (s.onSpad m bad).bank.queue t = s.bank.queue t := rfl
  cases hq : s.bank.queue t with
  | nil => rw [issueIdle_of_queue_nil hq, issueIdle_of_queue_nil (hspad.trans hq)]
  | cons e q =>
    rw [issueIdle_of_queue_cons hq, issueIdle_of_queue_cons (hspad.trans hq)]
    exact congrArg (fun c => ({ s with core := c } : State).seat t e) (Core.onSpad_setBank m bad s.core _)

/-- Idle entries issue alike on any scratchpad. -/
theorem foldl_issueIdle_onSpad (m : Memory) (bad : List Nat) (s : State) (l : List Slot) :
    l.foldl issueIdle (s.onSpad m bad) = (l.foldl issueIdle s).onSpad m bad := by
  induction l generalizing s with
  | nil => rfl
  | cons t l ih => rw [List.foldl_cons, List.foldl_cons, issueIdle_onSpad, ih]

/-- A slot of a joint issue finds the scratchpad as it stood before the cycle, whatever was written since (R46). -/
theorem issueIsolated_cons_onSpad (m : Memory) (bad : List Nat) (t : Slot) (ts : List Slot) (ls : List Writes) (s : State) :
    issueIsolated m bad (t :: ts) ls (s.onSpad m bad) = issueIsolated m bad (t :: ts) ls s := rfl

/-- An idle entry of a joint issue issues and writes nothing. -/
theorem issueIsolated_cons_of_idleHead {m : Memory} {bad : List Nat} {t : Slot} (ts : List Slot) (ls : List Writes) {s : State}
    (h : IdleHead s t) :
    issueIsolated m bad (t :: ts) ls s = issueIsolated m bad ts (ls ++ [[]]) ((issueIdle s t).onSpad m bad) := by
  have hhead : issueHead t (s.onSpad m bad) = .next ((issueIdle s t).onSpad m bad) := by
    rw [← issueIdle_onSpad]
    exact issueHead_of_idleHead (idleHead_congr h rfl)
  unfold State.onSpad at hhead
  rw [issueIsolated, hhead]
  rfl

/-- Idle entries ahead of another slot of a joint issue issue and write nothing. -/
theorem issueIsolated_append_of_idle {m : Memory} {bad : List Nat} {pre : List Slot} (t : Slot) (ts : List Slot) (ls : List Writes)
    {s : State} (hn : pre.Nodup) (h : ∀ p ∈ pre, IdleHead s p) :
    issueIsolated m bad (pre ++ t :: ts) ls s =
      issueIsolated m bad (t :: ts) (ls ++ List.replicate pre.length []) (pre.foldl issueIdle s) := by
  induction pre generalizing s ls with
  | nil => rw [List.length_nil, List.replicate_zero, List.append_nil, List.nil_append, List.foldl_nil]
  | cons p pre ih =>
    obtain ⟨hp, hpre⟩ := List.forall_mem_cons.mp h
    obtain ⟨hpn, hn⟩ := List.nodup_cons.mp hn
    have hrest : ∀ q ∈ pre, IdleHead ((issueIdle s p).onSpad m bad) q := fun q hq =>
      idleHead_congr (idleHead_issueIdle (hpre q hq) (ne_of_mem_of_not_mem hq hpn)) rfl
    rw [List.cons_append, issueIsolated_cons_of_idleHead _ _ hp, ih _ hn hrest, foldl_issueIdle_onSpad, issueIsolated_cons_onSpad,
      List.append_assoc, List.singleton_append, List.length_cons, List.replicate_succ, List.foldl_cons]

/-! ## The writes of one slot -/

/-- A slot that writes nothing shares no granule. -/
theorem sharedGranules_append_nil (ls : List Writes) : sharedGranules (ls ++ [[]]) = sharedGranules ls := by
  induction ls with
  | nil => rfl
  | cons l ls ih => simp [sharedGranules, ih]

/-- The writes of one slot share no granule with those of slots that write nothing. -/
theorem sharedGranules_replicate_nil_append (n : Nat) (l : Writes) : sharedGranules (List.replicate n [] ++ [l]) = [] := by
  induction n with
  | zero => simp [sharedGranules]
  | succ n ih => exact ih

/-- Writes that share no granule are done as they stand, without an open choice (log entry 109). -/
theorem joinWrites_of_unshared {ls : List Writes} (s : State) (h : sharedGranules ls = []) : joinWrites ls s = (ls.flatten, s) := by
  have hall : (ls.flatten.filter fun p => !([] : List Nat).contains (granule p)) = ls.flatten :=
    List.filter_eq_self.mpr fun _ _ => rfl
  rw [joinWrites, h]
  exact congrArg (·, s) hall

/-- A joint issue that has only idle entries left ends with the writes that have been collected. -/
theorem issueIsolated_of_idle {m : Memory} {bad : List Nat} {post : List Slot} {ls : List Writes} {s : State} (hn : post.Nodup)
    (h : ∀ p ∈ post, IdleHead s p) (hls : sharedGranules ls = []) :
    ∃ w, issueIsolated m bad post ls s = .next ((post.foldl issueIdle s).modCore fun c =>
      { c with spad := writeMasked m ls.flatten, spadBad := stillBad bad ls.flatten, wrote := w }) := by
  induction post generalizing s ls with
  | nil =>
    rw [issueIsolated, joinWrites_of_unshared s hls]
    exact ⟨s.core.wrote, rfl⟩
  | cons p post ih =>
    obtain ⟨hp, hpost⟩ := List.forall_mem_cons.mp h
    obtain ⟨hpn, hn⟩ := List.nodup_cons.mp hn
    have hrest : ∀ q ∈ post, IdleHead ((issueIdle s p).onSpad m bad) q := fun q hq =>
      idleHead_congr (idleHead_issueIdle (hpost q hq) (ne_of_mem_of_not_mem hq hpn)) rfl
    obtain ⟨w, hw⟩ := ih hn hrest ((sharedGranules_append_nil ls).trans hls)
    rw [foldl_issueIdle_onSpad, List.flatten_append, List.flatten_singleton, List.append_nil] at hw
    exact ⟨w, (issueIsolated_cons_of_idleHead post ls hp).trans hw⟩

/-! ## A cycle in which one operation issues -/

/-- The slots that issue in a state: `slot`, whose head entry `e` holds the operation `v` and is followed by `q` in its queue, among
slots with idle entries, `pre` before and `post` after it. -/
structure SoleIssue (s : State) (pre post : List Slot) (slot : Slot) (e : Entry) (q : List Entry) (v : View) : Prop where
  nodup : (pre ++ slot :: post).Nodup
  idle : ∀ p ∈ pre ++ post, IdleHead s p
  queue : s.bank.queue slot = e :: q
  op : e.op = some v

section
variable {s t : State} {pre post : List Slot} {slot : Slot} {e : Entry} {q : List Entry} {v : View}

/-- Among idle entries the operation alone decides whether the cycle's issue writes the scratchpad. -/
theorem SoleIssue.any_slotWrites (h : SoleIssue s pre post slot e q v) :
    (pre ++ slot :: post).any (slotWrites s.bank) = v.spadWrites := by
  have hslot : slotWrites s.bank slot = v.spadWrites := by simp [slotWrites, headOf, h.queue, h.op]
  have hidle : (pre ++ post).any (slotWrites s.bank) = false :=
    List.any_eq_false.mpr fun p hp => Bool.eq_false_iff.mp (slotWrites_of_idleHead (h.idle p hp))
  rw [List.any_append, Bool.or_eq_false_iff] at hidle
  obtain ⟨hpre, hpost⟩ := hidle
  rw [List.any_append, List.any_cons, hpre, hpost, hslot, Bool.false_or, Bool.or_false]

/-- The issue one after the other: the idle entries before, the operation, the idle entries after. -/
theorem SoleIssue.issueEach (h : SoleIssue s pre post slot e q v) (ht : issueHead slot (pre.foldl issueIdle s) = .next t)
    (hpost : ∀ p ∈ post, IdleHead t p) : issueEach (pre ++ slot :: post) s = .next (post.foldl issueIdle t) := by
  obtain ⟨hpre, hslot, -⟩ := List.nodup_append.mp h.nodup
  have hidle := fun p hp => h.idle p (List.mem_append_left post hp)
  have hrest := issueEach_append_of_idle [] (List.nodup_cons.mp hslot).2 hpost
  rw [issueEach_append_of_idle _ hpre hidle, Machine.issueEach, ht]
  rwa [List.append_nil] at hrest

/-- The joint issue: the operation's writes go to the scratchpad as it stood before the cycle (R46). -/
theorem SoleIssue.issueIsolated (h : SoleIssue s pre post slot e q v)
    (ht : issueHead slot ((pre.foldl issueIdle s).onSpad s.core.spad s.core.spadBad) = .next t)
    (hpost : ∀ p ∈ post, IdleHead t p) : ∃ w, issueIsolated s.core.spad s.core.spadBad (pre ++ slot :: post) [] s =
      .next ((post.foldl issueIdle t).modCore fun c =>
        { c with spad := writeMasked s.core.spad t.core.wrote, spadBad := stillBad s.core.spadBad t.core.wrote, wrote := w }) := by
  obtain ⟨hpre, hslot, -⟩ := List.nodup_append.mp h.nodup
  have hidle := fun p hp => h.idle p (List.mem_append_left post hp)
  obtain ⟨w, hw⟩ := issueIsolated_of_idle (m := s.core.spad) (bad := s.core.spadBad) (List.nodup_cons.mp hslot).2 hpost
    (sharedGranules_replicate_nil_append pre.length t.core.wrote)
  unfold State.onSpad at ht
  rw [issueIsolated_append_of_idle _ _ _ hpre hidle, Machine.issueIsolated, ht]
  exact ⟨w, by simpa using hw⟩

/-- The issue of the cycle, joint where the operation writes the scratchpad and other slots issue with it. -/
theorem SoleIssue.issueAll (h : SoleIssue s pre post slot e q v) {joint : Bool}
    (hj : joint = (v.spadWrites && !(pre ++ post).isEmpty))
    (ht : issueHead slot (pre.foldl issueIdle (s.modCore fun c => { c with wrote := if joint then [] else c.wrote })) = .next t)
    (hpost : ∀ p ∈ post, IdleHead t p) : ∃ w, issueAll (pre ++ slot :: post) s = .next
      ((if joint then (post.foldl issueIdle t).modCore fun c => { c with
          spad := writeMasked s.core.spad t.core.wrote, spadBad := stillBad s.core.spadBad t.core.wrote }
        else post.foldl issueIdle t).modCore fun c => { c with wrote := w }) := by
  have hlen : decide ((pre ++ slot :: post).length ≤ 1) = (pre ++ post).isEmpty := by
    cases pre <;> cases post <;> simp
  have hcond : (decide ((pre ++ slot :: post).length ≤ 1) || !(pre ++ slot :: post).any (slotWrites s.bank)) = !joint := by
    rw [h.any_slotWrites, hlen, hj, Bool.not_and, Bool.not_not, Bool.or_comm]
  rw [Machine.issueAll, hcond]
  cases joint with
  | false => exact ⟨(post.foldl issueIdle t).core.wrote, h.issueEach ht hpost⟩
  | true =>
    refine h.issueIsolated ?_ hpost
    rw [← foldl_issueIdle_onSpad]
    exact ht

end

/-- The issue of an operation: its entry takes the seat, join observations before it are fixed, and it runs. -/
theorem issueHead_of_op {s : State} {slot : Slot} {e : Entry} {q : List Entry} {v : View} (hq : s.bank.queue slot = e :: q)
    (hv : e.op = some v) :
    issueHead slot s = runView v (((s.modBank fun b => b.setQueue slot q).seat slot e).modBank fun b => b.fixJoins e v) := by
  simp only [issueHead, hq, hv]

/-- The note of what has been written raises no trap. -/
theorem newTrap_modCore_wrote (s t : State) (w : Writes) : newTrap s (t.modCore fun c => { c with wrote := w }) = newTrap s t := rfl

/-- A cycle whose issue raises no new trap commits (R97, R98). -/
theorem issueCycle_of_issueAll {s d t : State} {held : List Slot} {w : Writes} (ha : askSlots s = (held, d))
    (h : issueAll (issueSetBut d held) (d.modCore fun c => { c with seen := some (c.chans, c.wins) }) =
      .next (t.modCore fun c => { c with wrote := w }))
    (hn : newTrap d t = none) : issueCycle s = .next (t.modCore fun c => { c with wrote := [] }) := by
  have hslots : issueSlots (issueSetBut d held) d = .next (t.modCore fun c => { c with wrote := [] }) := by
    rw [issueSlots, h]
    rfl
  simp only [issueCycle, ha, hslots, newTrap_modCore_wrote, hn]

/-- A cycle in which slots issue goes on with the engines, the results that land and the next core. -/
theorem coreCycle_of_issueCycle {s t : State} (hr : (beginWork s).core.run.issues = true)
    (h : issueCycle (trapIllegal (dispatch (beginWork s))) = .next t) : coreCycle s = .next (nextCore (afterIssue t)) := by
  rw [coreCycle, issueWork, if_pos hr, h]

end Sys2Proof.Machine
end

section
/-! Proof of the obligation O53 (spec/03 R23, R24; spec/07 R97). -/
namespace Sys2Proof.Machine

/-- Settles O53: the slots that issue are distinct, so that each idle entry is still at its head when its turn comes; the issue of
the operation among them is `exec`, and without a new trap the cycle commits. -/
theorem stepRunsTheInstruction : Obligations.StepRunsTheInstruction := by
  unfold Obligations.StepRunsTheInstruction
  intro s i home slot pre post e q t hin hag hrun held d joint hts hidle u hq hop hwf hhome hexec hpost r joined htrap
  have hask : askSlots (trapIllegal (dispatch (beginWork s))) = (held, d) := Prod.mk.eta.symm
  clear_value held d
  have hnodup : (pre ++ slot :: post).Nodup := hts ▸ issueSetBut_nodup d held
  have hslot : slot ∉ pre := fun hp => (List.nodup_append.mp hnodup).2.2 slot hp slot List.mem_cons_self rfl
  have hsole : SoleIssue (d.modCore fun c => { c with seen := some (c.chans, c.wins) }) pre post slot e q i.view :=
    { nodup := hnodup
      idle := fun p hp => idleHead_congr (hidle p hp) rfl
      queue := (foldl_issueIdle_queue _ hslot : u.bank.queue slot = _).symm.trans hq
      op := hop }
  have hhead : issueHead slot u = .next t := by
    rw [issueHead_of_op hq hop, runView_eq_exec _ hwf hhome, hexec]
  obtain ⟨w, hw⟩ := hsole.issueAll (joint := joint) rfl hhead hpost
  rw [← hts] at hw
  rw [step_of_no_event hin hag]
  exact coreCycle_of_issueCycle hrun (issueCycle_of_issueAll hask hw htrap)

end Sys2Proof.Machine
end

section
/-! Refutation of the obligation O60 (spec/00_scope.md R3): a machine at rest whose core in focus still holds a view of its channels and
windows. -/
namespace Sys2Proof.Machine

/-- The machine after reset, but that its core in focus holds the view of channels and windows of an earlier cycle. -/
def restingWithView : State :=
  { State.reset with core := { Core.reset false with seen := some ((Core.reset false).chans, (Core.reset false).wins) } }

/-- That machine is at rest: `Quiet` says nothing of the view. -/
theorem quiet_restingWithView : Quiet restingWithView where
  agenda := ⟨rfl, rfl⟩
  halted := rfl
  banks := ⟨⟨⟨rfl, rfl, rfl⟩, rfl, rfl, rfl, rfl⟩, ⟨rfl, rfl, rfl⟩, rfl, rfl, rfl, rfl⟩
  mesh := ⟨rfl, rfl⟩
  channels := by decide +kernel
  task := ⟨rfl, rfl, rfl, rfl, rfl⟩
  others := by decide +kernel
  watchdogs := by decide +kernel
  front := ⟨rfl, rfl, rfl, rfl, rfl⟩
  paging := ⟨rfl, rfl, rfl⟩
  lines := ⟨rfl, rfl, rfl, rfl, rfl⟩
  reports := ⟨rfl, rfl, rfl, rfl⟩
  barriers := by decide +kernel
  tiers := ⟨rfl, by decide +kernel⟩
  repairs := by decide +kernel
  firmware := ⟨rfl, rfl, rfl⟩
  wires := by decide +kernel

/-- A step of that machine ends the view (`afterIssue`), and so changes its core. -/
theorem step_restingWithView_seen : (Out.stateD restingWithView (step restingWithView)).core.seen = none := by decide +kernel

/-- Refutes O60: a step of a machine at rest ends the view `seen` of the core in focus, which a state at rest may hold, so that its
core changes. -/
theorem not_quietMachineStaysQuiet : ¬ Obligations.QuietMachineStaysQuiet := by
  unfold Obligations.QuietMachineStaysQuiet
  intro h
  obtain ⟨t, ht, -, -, -, hcore, -⟩ := h restingWithView quiet_restingWithView
  have hseen := step_restingWithView_seen
  rw [ht, Out.stateD, hcore] at hseen
  exact nomatch hseen

end Sys2Proof.Machine
end

section
/-! SUPPORT. The loop engine (spec/05 R63, spec/06 R85, spec/07 R110): stage predicates under a shift, and the active bank after the
end of a pass, one equation for each way a pass can end. -/
namespace Sys2Proof.Machine

/-! ## Stage predicates -/

/-- p0 to p7 stay, p8 takes the new stage, and p9 to p15 take what stood one below (R63). -/
theorem getLsbD_shiftStages (p : BitVec 16) (b8 : Bool) {i : Nat} (hi : i < 16) :
    (shiftStages p b8).getLsbD i = if i < 8 then p.getLsbD i else if i = 8 then b8 else p.getLsbD (i - 1) := by
  have hbit : ∀ k, (bit b8).getLsbD k = (decide (k = 0) && b8) := fun k => by cases b8 <;> cases k <;> simp [bit]
  unfold shiftStages
  change BitVec.getLsbD (w := 7 + 1 + 8) _ i = _
  rw [BitVec.getLsbD_append, BitVec.getLsbD_append, hbit, BitVec.getLsbD_extractLsb', BitVec.getLsbD_extractLsb']
  rcases Nat.lt_trichotomy i 8 with h | rfl | h
  · simp [h]
  · simp
  · have he : 8 + (i - 8 - 1) = i - 1 := by omega
    have h7 : i - 8 - 1 < 7 := by omega
    simp [h.not_gt, h.ne', he, h7, show i - 8 ≠ 0 by omega]

/-- The start of the items put aside leaves p0 to p7, puts an item into p8 and none above it (R110). -/
theorem Bank.getLsbD_startPending_p (b : Bank) {i : Nat} (hi : i < 16) :
    b.startPending.p.getLsbD i = if i < 8 then b.p.getLsbD i else decide (i = 8) := by
  have hlow : (0x00FF : BitVec 16).getLsbD i = decide (i < 8) := by
    rw [show (0x00FF : BitVec 16) = BitVec.ofNat 16 (2 ^ 8 - 1) from rfl, BitVec.getLsbD_ofNat, Nat.testBit_two_pow_sub_one]
    simp [hi]
  have hone : (0x0100 : BitVec 16).getLsbD i = decide (i = 8) := by
    rw [show (0x0100 : BitVec 16) = BitVec.twoPow 16 8 from rfl, BitVec.getLsbD_twoPow]
    simp [eq_comm]
  rw [Bank.startPending, BitVec.getLsbD_or, BitVec.getLsbD_and, hlow, hone]
  rcases Nat.lt_or_ge i 8 with h | h
  · simp [h, h.ne]
  · simp [h.not_gt]

/-! ## The end of a pass -/

/-- A bank rotated and shifted at the end of a pass: the item counts and the items put aside set, the loop going on or ended (R63). -/
def Bank.passed (b : Bank) (b8 : Bool) (irc : BitVec 32) (drc : BitVec 6) (lpend : BitVec 32) (act : Bool) : Bank :=
  { b with
    rotb := b.rotb + 1, p := shiftStages b.p b8, irc := irc, drc := drc, loop := { b.loop with lpend := lpend, act := act },
    pc := if act then b.loop.start.toNat else b.loop.start.toNat + b.loop.bytes, rep := 0 }

/-- The stage predicates of a bank at the end of a pass (R63). -/
theorem Bank.stages_passed (b : Bank) (b8 : Bool) (irc : BitVec 32) (drc : BitVec 6) (lpend : BitVec 32) (act : Bool) :
    (∀ i, 9 ≤ i → i < 16 → (b.passed b8 irc drc lpend act).p.getLsbD i = b.p.getLsbD (i - 1)) ∧
    (b.passed b8 irc drc lpend act).p.getLsbD 8 = b8 ∧
    ∀ i, i < 8 → (b.passed b8 irc drc lpend act).p.getLsbD i = b.p.getLsbD i := by
  refine ⟨fun i h9 hi => ?_, ?_, fun i h8 => ?_⟩ <;> rw [Bank.passed, getLsbD_shiftStages _ _ (by omega)]
  · rw [if_neg (by omega), if_neg (by omega)]
  · rfl
  · rw [if_pos h8]

variable {s : State}

@[simp] theorem State.bank_modCore_point (s : State) (f : Core → Bool) : (s.modCore fun c => { c with point := f c }).bank = s.bank := rfl

/-- The drain begins in the bank. -/
@[simp] theorem State.bank_beginDrain (s : State) : s.beginDrain.bank = { s.bank with draining := true } := by
  rw [State.beginDrain, State.bank_modBank]
  rfl

/-- The drain begins at the core. -/
@[simp] theorem State.run_beginDrain (s : State) : s.beginDrain.core.run = .draining := by
  rw [State.beginDrain, State.modBank_core, Core.setBank_run]
  rfl

/-- After LBRK the loop ends, with no rotation (R85). -/
theorem bank_passEnd_of_brk (hb : s.bank.loop.brk = true) : ∃ d, (passEnd s).bank =
    { s.bank with
      loop := { s.bank.loop with act := false, brk := false, lpend := 0 }, pc := s.bank.loop.start.toNat + s.bank.loop.bytes, rep := 0,
      draining := d } := by
  simp only [passEnd, State.bank_modCore_point, hb, if_true]
  split
  · exact ⟨true, by rw [State.bank_beginDrain, State.bank_setBank]⟩
  · exact ⟨s.bank.draining, by rw [State.bank_setBank]⟩

section NoRequest
variable (hb : s.bank.loop.brk = false) (hq : s.core.preReq = none)
include hb hq

/-- With an item left the next item starts (R63). -/
theorem bank_passEnd_of_item (hi : s.bank.irc ≠ 0#32) :
    (passEnd s).bank = s.bank.passed true (s.bank.irc - 1) s.bank.drc s.bank.loop.lpend true := by
  simp [passEnd, Bank.passed, hb, hq, hi]

/-- With no item left and a drain pass left a drain pass starts (R63). -/
theorem bank_passEnd_of_drainPass (hi : s.bank.irc = 0#32) (hd : s.bank.drc ≠ 0#6) :
    (passEnd s).bank = s.bank.passed false 0 (s.bank.drc - 1) s.bank.loop.lpend true := by
  simp [passEnd, Bank.passed, hb, hq, hi, hd]

/-- With neither left, and no items put aside, the loop ends (R63). -/
theorem bank_passEnd_of_last (hi : s.bank.irc = 0#32) (hd : s.bank.drc = 0#6) (hl : s.bank.loop.lpend = 0#32) :
    (passEnd s).bank = s.bank.passed false 0 0 0 false := by
  simp [passEnd, Bank.passed, hb, hq, hi, hd, hl]

/-- With neither left, a bank that does not drain starts the items put aside (R110). -/
theorem bank_passEnd_of_pending (hi : s.bank.irc = 0#32) (hd : s.bank.drc = 0#6) (hl : s.bank.loop.lpend ≠ 0#32)
    (hn : s.bank.draining = false) :
    (passEnd s).bank = (s.bank.passed false 0 0 s.bank.loop.lpend false).startPending := by
  simp [passEnd, Bank.passed, hb, hq, hi, hd, hl, hn]

/-- With no items put aside p8 says whether an item starts (R63). -/
theorem exists_bank_passEnd_eq_passed (hl : s.bank.loop.lpend = 0#32) :
    ∃ irc drc lpend act, (passEnd s).bank = s.bank.passed (s.bank.irc != 0#32) irc drc lpend act := by
  by_cases hi : s.bank.irc = 0#32
  · rw [hi]
    by_cases hd : s.bank.drc = 0#6
    · exact ⟨_, _, _, _, bank_passEnd_of_last hb hq hi hd hl⟩
    · exact ⟨_, _, _, _, bank_passEnd_of_drainPass hb hq hi hd⟩
  · rw [bne_iff_ne.mpr hi]
    exact ⟨_, _, _, _, bank_passEnd_of_item hb hq hi⟩

end NoRequest

/-- With a request pending the items left are put aside, and the bank takes a drain pass, where one is left, in which it drains (R110). -/
theorem bank_passEnd_of_request (hb : s.bank.loop.brk = false) (hq : s.core.preReq.isSome = true) (hr : s.core.run = .running) :
    (passEnd s).bank =
    { s.bank.passed false 0 (if s.bank.drc = 0 then 0 else s.bank.drc - 1) s.bank.irc (s.bank.drc != 0) with draining := true } := by
  rcases eq_or_ne s.bank.drc 0#6 with hd | hd <;> simp [passEnd, Bank.passed, hb, hq, hr, hd]

/-- With a request pending the core drains (R110). -/
theorem run_passEnd_of_request (hq : s.core.preReq.isSome = true) (hr : s.core.run = .running) : (passEnd s).core.run = .draining := by
  simp [passEnd, hq, hr]

end Sys2Proof.Machine
end

section
/-! Proof of the obligation O10 (spec/05 R63, R65; spec/06 R85; spec/07 R110). -/
namespace Sys2Proof.Machine

/-- Settles O10: the equation of the active bank for each way a pass can end, read field by field. -/
theorem passEndRotates : Obligations.PassEndRotates := by
  unfold Obligations.PassEndRotates
  refine ⟨fun s hb hq hl => ?_, fun s hb => ?_, fun s hb hq hr => ?_, fun s hb hq hl hn hi hd => ?_⟩ <;> intro b t
  · obtain ⟨irc, drc, lpend, act, h⟩ := exists_bank_passEnd_eq_passed hb hq hl
    obtain ⟨hup, h8, hlow⟩ := b.stages_passed (b.irc != 0#32) irc drc lpend act
    rw [← h] at hup h8 hlow
    refine ⟨congrArg Bank.rotb h, hup, h8, hlow, fun hi => ?_, fun hi hd => ?_, fun hi hd => ?_,
      (congrArg Bank.x h :), (congrArg Bank.v h :), (congrArg Bank.m h :), (congrArg Bank.z h :)⟩
    · have ht : t = _ := bank_passEnd_of_item hb hq hi
      rw [ht]
      exact ⟨rfl, rfl, rfl, rfl⟩
    · have ht : t = _ := bank_passEnd_of_drainPass hb hq hi hd
      rw [ht]
      exact ⟨rfl, rfl, rfl, rfl⟩
    · have ht : t = _ := bank_passEnd_of_last hb hq hi hd hl
      rw [ht]
      exact ⟨rfl, rfl, rfl, rfl⟩
  · obtain ⟨d, h⟩ := bank_passEnd_of_brk hb
    have ht : t = _ := h
    rw [ht]
    exact ⟨rfl, rfl, rfl, rfl, rfl, rfl, rfl, rfl, rfl, rfl, rfl⟩
  · have ht : t = _ := bank_passEnd_of_request hb hq hr
    obtain ⟨hup, h8, hlow⟩ := b.stages_passed false 0 (if b.drc = 0 then 0 else b.drc - 1) b.irc (b.drc != 0)
    rw [ht]
    refine ⟨rfl, hup, h8, hlow, rfl, rfl, fun hd => ?_, fun hd => ?_, run_passEnd_of_request hq hr, rfl, rfl, rfl, rfl, rfl⟩
    · exact ⟨if_neg hd, bne_iff_ne.mpr hd, if_pos (bne_iff_ne.mpr hd)⟩
    · have hd' : (b.drc != 0) = false := by rw [hd]; rfl
      exact ⟨if_pos hd, hd', if_neg (by rw [hd']; decide)⟩
  · have ht : t = _ := bank_passEnd_of_pending hb hq hi hd hl hn
    obtain ⟨-, -, hlow⟩ := b.stages_passed false 0 0 b.loop.lpend false
    rw [ht]
    refine ⟨rfl, rfl, rfl, rfl, rfl, rfl, Bank.getLsbD_startPending_p _ (by omega), fun i h9 hi => ?_, fun i h8 => ?_,
      rfl, rfl, rfl, rfl⟩
    · rw [Bank.getLsbD_startPending_p _ hi, if_neg (by omega), decide_eq_false (by omega)]
    · rw [Bank.getLsbD_startPending_p _ (by omega), if_pos h8, hlow i h8]

end Sys2Proof.Machine
end

section
/-! SUPPORT. Barriers (spec/05 R67, spec/25 R357): what a counter does with an arrival, one equation for each case, and the trap that
the tasks of a core take when the root of a level does not answer. -/
namespace Sys2Proof.Machine

/-! ## Arrivals at a counter -/

/-- A phase's first arrival opens a counter, which two or more tasks fill (R67). -/
theorem counterReceive_of_first {a : Arrival} {s : State} (hw : a.withdrawn = false)
    (hc : (s.counters.find? fun c => c.counts a) = none) (hn : 2 ≤ a.count) :
    counterReceive a s = { s with counters := s.counters ++ [⟨a.level, a.domid, a.phase, a.count, [a]⟩] } := by
  have hmax : max 1 a.count = a.count := by omega
  have hone : a.count ≠ 1 := by omega
  simp [counterReceive, hw, hc, hmax, hone]

/-- A phase of one task completes with its arrival (R67). -/
theorem counterReceive_of_single {a : Arrival} {s : State} (hw : a.withdrawn = false)
    (hc : (s.counters.find? fun c => c.counts a) = none) (hn : a.count ≤ 1) :
    counterReceive a s = tellComplete a { s with counters := s.counters ++ [⟨a.level, a.domid, a.phase, 0, [a]⟩] } := by
  have hmax : max 1 a.count = 1 := by omega
  simp [counterReceive, hw, hc, hmax]

section Counted
variable {a : Arrival} {c : Counter} {s : State} (hw : a.withdrawn = false) (hc : (s.counters.find? fun c => c.counts a) = some c)
include hw hc

/-- A further arrival that does not fill the counter is added (R67). -/
theorem counterReceive_of_further (h0 : c.count ≠ 0) (hl : c.arrivals.length + 1 < c.count) :
    counterReceive a s =
      { s with counters := s.counters.map fun d => if d = c then { c with arrivals := c.arrivals ++ [a] } else d } := by
  have hfull : ¬ c.count ≤ (c.arrivals ++ [a]).length := by rw [List.length_append]; exact Nat.not_le.mpr hl
  simp only [counterReceive, hw, hc, if_neg h0, if_neg hfull, Bool.false_eq_true, if_false]

/-- The arrival that fills the counter completes the phase for every arrival (R67). -/
theorem counterReceive_of_filling (h0 : c.count ≠ 0) (hl : c.count ≤ c.arrivals.length + 1) :
    counterReceive a s = (c.arrivals ++ [a]).foldl (fun s a => tellComplete a s)
      { s with counters := s.counters.map fun d => if d = c then { c with arrivals := c.arrivals ++ [a], count := 0 } else d } := by
  have hfull : c.count ≤ (c.arrivals ++ [a]).length := by rw [List.length_append]; exact hl
  simp only [counterReceive, hw, hc, if_neg h0, if_pos hfull, Bool.false_eq_true, if_false]

/-- An arrival that comes after the phase has completed is excess (R67). -/
theorem counterReceive_of_excess (h0 : c.count = 0) :
    counterReceive a s = if a.dev = s.devId then arrivalTrap a 0xA3 s else s.send (.excess a.dev a) := by
  simp only [counterReceive, hw, hc, if_pos h0, Bool.false_eq_true, if_false]

end Counted

/-! ## Another core in focus -/

/-- The core in focus stays in focus. -/
@[simp] theorem State.focus_coreNo_self (s : State) : s.focus s.coreNo = s := if_pos rfl

/-- The focus goes to the core asked for. -/
@[simp] theorem State.coreNo_focus (s : State) (n : Nat) : (s.focus n).coreNo = n := by
  rw [State.focus]
  split
  · exact Eq.symm ‹n = s.coreNo›
  · rfl

/-- The core that comes into focus is the one of its number. -/
@[simp] theorem State.core_focus (s : State) (n : Nat) : (s.focus n).core = s.coreAt n := by
  rw [State.focus, State.coreAt]
  split <;> rfl

/-- The core that leaves the focus is kept under its number. -/
theorem State.others_focus_of_ne {s : State} {n : Nat} (h : n ≠ s.coreNo) :
    (s.focus n).others = Sparse.put (Sparse.drop s.others n) s.coreNo s.core := by
  rw [State.focus, if_neg h]

/-- What happens at the core in focus, and leaves it in focus, needs no change of focus. -/
theorem State.onCore_self {s : State} {f : State → State} (h : (f s).coreNo = s.coreNo) : s.onCore s.coreNo f = f s := by
  rw [State.onCore, State.focus_coreNo_self, ← h, State.focus_coreNo_self]

/-- What happens at another core, and changes it alone, leaves the core in focus as it is. -/
theorem State.onCore_of_ne {s : State} {n : Nat} {f : State → State} (hn : n ≠ s.coreNo) (hno : ∀ u, (f u).coreNo = u.coreNo)
    (hothers : ∀ u, (f u).others = u.others) : (s.onCore n f).coreNo = s.coreNo ∧ (s.onCore n f).core = s.core := by
  refine ⟨State.coreNo_focus _ _, ?_⟩
  have hback : s.coreNo ≠ (f (s.focus n)).coreNo := by rw [hno, State.coreNo_focus]; exact hn.symm
  rw [State.onCore, State.core_focus, State.coreAt, if_neg hback, hothers, State.others_focus_of_ne hn, Sparse.at_put, if_pos rfl]

/-! ## The trap of a root that does not answer -/

/-- A trap leaves the focus where it is. -/
@[simp] theorem State.coreNo_takeTrapIn (s : State) (isB : Bool) (t : Trap) : (s.takeTrapIn isB t).coreNo = s.coreNo := by
  rw [State.takeTrapIn]
  split <;> rfl

/-- A trap leaves the cores out of focus as they are. -/
@[simp] theorem State.others_takeTrapIn (s : State) (isB : Bool) (t : Trap) : (s.takeTrapIn isB t).others = s.others := by
  rw [State.takeTrapIn]
  split <;> rfl

/-- A running core freezes with the trap (R96). -/
theorem State.takeTrapIn_of_running {s : State} (h : s.core.run = .running) (isB : Bool) (t : Trap) :
    s.takeTrapIn isB t = s.modCore fun c =>
      { c with run := .freezing, trap := some t, trapBank := isB, freezeAt := s.cycle, mesh := { c.mesh with frz := true } } := by
  rw [State.takeTrapIn, h]

/-- A barrier trap at a bank of the core in focus is that of its arrival. -/
theorem barrierTrap_self {s : State} {isB : Bool} {level : BitVec 2} {o : Outstanding} (cause : BitVec 8)
    (h : vget (s.bankOf isB).out level.toNat none = some o) :
    barrierTrap s.coreNo isB level cause s = s.takeTrapIn isB (o.trap cause) := by
  rw [barrierTrap, State.onCore_self] <;> simp only [h, State.coreNo_takeTrapIn]

/-- A barrier trap at another core, if any, leaves the core in focus as it is. -/
theorem barrierTrap_of_ne {s : State} {n : Nat} (p isB : Bool) (level : BitVec 2) (cause : BitVec 8) (hn : n ≠ s.coreNo) :
    (if p then barrierTrap n isB level cause s else s).coreNo = s.coreNo ∧
    (if p then barrierTrap n isB level cause s else s).core = s.core := by
  cases p with
  | false => exact ⟨rfl, rfl⟩
  | true =>
    rw [if_pos rfl, barrierTrap]
    refine State.onCore_of_ne hn (fun u => ?_) fun u => ?_ <;> split
    · exact u.coreNo_takeTrapIn isB _
    · rfl
    · exact u.others_takeTrapIn isB _
    · rfl

/-- To change the arrivals outstanding leaves the focus where it is. -/
@[simp] theorem State.coreNo_modOut (level : BitVec 2) (f : Outstanding → Outstanding) (s : State) :
    (s.modOut level f).coreNo = s.coreNo := rfl

/-- The arrivals outstanding of the core in focus are changed in it. -/
@[simp] theorem State.core_modOut (level : BitVec 2) (f : Outstanding → Outstanding) (s : State) :
    (s.modOut level f).core = s.core.modOut level f := rfl

/-- A core runs on, whatever becomes of its arrivals. -/
theorem Core.run_modOut (level : BitVec 2) (f : Outstanding → Outstanding) (c : Core) : (c.modOut level f).run = c.run := rfl

/-- A core keeps its trap, whatever becomes of its arrivals. -/
theorem Core.trap_modOut (level : BitVec 2) (f : Outstanding → Outstanding) (c : Core) : (c.modOut level f).trap = c.trap := rfl

/-- Every saved context with an arrival outstanding at a level that meets a test holds 0xA6 for its return. -/
def State.holdRootTimeout (level : BitVec 2) (f : Outstanding → Bool) (s : State) : State :=
  { s with saved := s.saved.map fun p => (p.1, p.2.holdRootTimeout level f) }

/-- What the saved contexts hold leaves the focus where it is. -/
@[simp] theorem State.coreNo_holdRootTimeout (level : BitVec 2) (f : Outstanding → Bool) (s : State) :
    (s.holdRootTimeout level f).coreNo = s.coreNo := rfl

/-- The tasks of a core with an arrival outstanding at a level that meets a test take 0xA6 (R357). -/
def rootFailsAt (level : BitVec 2) (f : Outstanding → Bool) (s : State) (n : Nat) : State :=
  [false, true].foldl (fun s isB =>
    if ((s.coreAt n).bankOf isB).anyOut level f then barrierTrap n isB level 0xA6 s else s) s

/-- The root of a level fails at the saved contexts and at every core in turn, and every arrival that meets the test waits anew (R357). -/
theorem rootFails_eq (level : BitVec 2) (f : Outstanding → Bool) (lost : Bool) (s : State) :
    rootFails level f lost s =
      ((List.range 136).foldl (rootFailsAt level f) (s.holdRootTimeout level f)).modOut level fun o =>
        if f o then { o with due := some (s.tick + s.tmo), lost := lost } else o := rfl

/-- The traps at another core leave the core in focus as it is. -/
theorem rootFailsAt_of_ne {s : State} {n : Nat} (level : BitVec 2) (f : Outstanding → Bool) (hn : n ≠ s.coreNo) :
    (rootFailsAt level f s n).coreNo = s.coreNo ∧ (rootFailsAt level f s n).core = s.core := by
  obtain ⟨hA, hcoreA⟩ := barrierTrap_of_ne (((s.coreAt n).bankOf false).anyOut level f) false level 0xA6 hn
  obtain ⟨hB, hcoreB⟩ := barrierTrap_of_ne (Bank.anyOut level f _) true level 0xA6 (hA ▸ hn)
  exact ⟨hB.trans hA, hcoreB.trans hcoreA⟩

/-- The traps at other cores leave the core in focus as it is. -/
theorem foldl_rootFailsAt_of_not_mem {l : List Nat} {s : State} (level : BitVec 2) (f : Outstanding → Bool) (hl : s.coreNo ∉ l) :
    (l.foldl (rootFailsAt level f) s).coreNo = s.coreNo ∧ (l.foldl (rootFailsAt level f) s).core = s.core := by
  induction l generalizing s with
  | nil => exact ⟨rfl, rfl⟩
  | cons n l ih =>
    obtain ⟨hn, hl⟩ := List.ne_and_not_mem_of_not_mem_cons hl
    obtain ⟨hno, hcore⟩ := rootFailsAt_of_ne level f hn.symm
    obtain ⟨hno', hcore'⟩ := ih (s := rootFailsAt level f s n) (hno ▸ hl)
    exact ⟨hno'.trans hno, hcore'.trans hcore⟩

/-- The running core in focus, whose bank A alone meets the test, freezes with 0xA6 of that bank's arrival. -/
theorem rootFailsAt_self {s : State} {level : BitVec 2} {f : Outstanding → Bool} {o : Outstanding} (hr : s.core.run = .running)
    (ho : vget s.core.bankA.out level.toNat none = some o) (hf : f o = true) (hB : s.core.bankB.anyOut level f = false) :
    (rootFailsAt level f s s.coreNo).coreNo = s.coreNo ∧ (rootFailsAt level f s s.coreNo).core.run = .freezing ∧
    (rootFailsAt level f s s.coreNo).core.trap = some (o.trap 0xA6) := by
  have hA : ((s.coreAt s.coreNo).bankOf false).anyOut level f = true := by
    rw [State.coreAt, if_pos rfl]
    simp [Core.bankOf, Bank.anyOut, ho, hf]
  have htrap : barrierTrap s.coreNo false level 0xA6 s = s.takeTrapIn false (o.trap 0xA6) := barrierTrap_self 0xA6 ho
  have hB' : (((s.takeTrapIn false (o.trap 0xA6)).coreAt s.coreNo).bankOf true).anyOut level f = false := by
    rw [State.takeTrapIn_of_running hr, State.coreAt, State.modCore_coreNo, if_pos rfl]
    exact hB
  have heq : rootFailsAt level f s s.coreNo = s.takeTrapIn false (o.trap 0xA6) := by
    simp only [rootFailsAt, List.foldl_cons, List.foldl_nil, if_pos hA, htrap, hB', Bool.false_eq_true, if_false]
  rw [heq, State.takeTrapIn_of_running hr]
  exact ⟨rfl, rfl, rfl⟩

section Failing
variable {s : State} {level : BitVec 2} {f : Outstanding → Bool} {o : Outstanding} (hn : s.coreNo < 136) (hr : s.core.run = .running)
  (ho : vget s.core.bankA.out level.toNat none = some o) (hf : f o = true) (hB : s.core.bankB.anyOut level f = false)
include hn hr ho hf hB

/-- Of the cores in turn the one in focus alone changes the core in focus, which freezes with 0xA6 of its bank A's arrival. -/
theorem foldl_rootFailsAt_freezes :
    ((List.range 136).foldl (rootFailsAt level f) s).coreNo = s.coreNo ∧
    ((List.range 136).foldl (rootFailsAt level f) s).core.run = .freezing ∧
    ((List.range 136).foldl (rootFailsAt level f) s).core.trap = some (o.trap 0xA6) := by
  obtain ⟨pre, post, hrange⟩ := List.mem_iff_append.mp (List.mem_range.mpr hn)
  have hnd : (s.coreNo :: (pre ++ post)).Nodup := List.nodup_middle.mp (hrange ▸ List.nodup_range)
  obtain ⟨hpre, hpost⟩ := not_or.mp (List.mem_append.not.mp (List.nodup_cons.mp hnd).1)
  rw [hrange, List.foldl_append, List.foldl_cons]
  obtain ⟨hno₁, hcore₁⟩ := foldl_rootFailsAt_of_not_mem level f hpre
  obtain ⟨hno₂, hrun, htrap⟩ := rootFailsAt_self (s := pre.foldl (rootFailsAt level f) s) (f := f) (hcore₁ ▸ hr)
    (hcore₁ ▸ ho) hf (hcore₁ ▸ hB)
  rw [hno₁] at hno₂ hrun htrap
  obtain ⟨hno₃, hcore₃⟩ := foldl_rootFailsAt_of_not_mem (l := post) level f (hno₂ ▸ hpost)
  exact ⟨hno₃.trans hno₂, (congrArg Core.run hcore₃).trans hrun, (congrArg Core.trap hcore₃).trans htrap⟩

/-- Where the root of a level fails, the running core in focus freezes with 0xA6 of its bank A's arrival (R357). -/
theorem rootFails_freezes (lost : Bool) :
    ((rootFails level f lost s).coreAt s.coreNo).run = .freezing ∧
    ((rootFails level f lost s).coreAt s.coreNo).trap = some (o.trap 0xA6) := by
  obtain ⟨hno, hrun, htrap⟩ := foldl_rootFailsAt_freezes
    (s := s.holdRootTimeout level f) hn hr ho hf hB
  rw [State.coreNo_holdRootTimeout] at hno
  rw [rootFails_eq, State.coreAt, State.coreNo_modOut, if_pos hno.symm, State.core_modOut]
  exact ⟨(Core.run_modOut ..).trans hrun, (Core.trap_modOut ..).trans htrap⟩

end Failing

/-- The root that has not answered an overdue arrival fails (R357). -/
theorem exec_barrierRootTimeout_of_overdue {s : State} {level : BitVec 2} (hroot : s.barrierRoot level ≠ s.devId)
    (h : s.anyOut level (Outstanding.overdue s.tick) = true) :
    exec (.barrierRootTimeout level) s = .next (rootFails level Outstanding.waits false s) := by
  rw [exec_barrierRootTimeout, execBarrierRootTimeout, if_pos ⟨hroot, h⟩]

end Sys2Proof.Machine
end

section
/-! Proof of the obligation O41 (spec/05 R67, spec/25 R357). -/
namespace Sys2Proof.Machine

/-- Settles O41: the equation of the counter for each arrival, and the fold of a failing root over the cores, of which the core in
focus alone changes the core in focus. -/
theorem barrierEventsAct : Obligations.BarrierEventsAct := by
  unfold Obligations.BarrierEventsAct
  refine ⟨fun s a h => ?_, fun s a hdev hadm => ?_, fun s level domid phase => ?_, fun s level h => ?_,
    fun s level o d hroot hn hr ho hw hdue hd hB => ?_⟩
  · rw [exec_barrierArrival, execBarrierArrival, if_pos (by simpa using h)]
    refine ⟨fun hw => ?_, fun hw hc hn => ?_, fun hw hc hn => ?_, fun c hw hc => ⟨fun h0 hl => ?_, fun h0 hl => ?_, fun h0 hdev => ?_,
      fun h0 hdev => ?_⟩⟩
    · rw [counterReceive, if_pos hw]
    · rw [counterReceive_of_single hw hc hn]
    · rw [counterReceive_of_first hw hc hn]
    · rw [counterReceive_of_further hw hc h0 hl]
    · rw [counterReceive_of_filling hw hc h0 hl]
    · rw [counterReceive_of_excess hw hc h0, if_neg hdev]
    · rw [counterReceive_of_excess hw hc h0, if_pos hdev]
  · rw [exec_barrierArrival, execBarrierArrival, hadm, Bool.or_false, decide_eq_false hdev]
    rfl
  · refine ⟨_, exec_phaseCompletion .., rfl, rfl, rfl, fun o ho hp hdom => ?_⟩
    change s.core.bankA.completePhase level domid phase = _
    simp only [Bank.completePhase, ho, hp, hdom, and_self, if_true]
  · rw [exec_barrierRootTimeout, execBarrierRootTimeout, if_neg]
    rintro ⟨hroot, hlate⟩
    rcases h with h | h
    · exact hroot h
    · rw [h] at hlate
      cases hlate
  · have hwaits : o.waits = true := by rw [Outstanding.waits, hw]; rfl
    have hlate : o.overdue s.tick = true := by simp [Outstanding.overdue, hwaits, hdue, hd]
    have hany : s.anyOut level (Outstanding.overdue s.tick) = true := by
      simp [State.anyOut, Core.anyOut, Bank.anyOut, ho, hlate]
    obtain ⟨hrun, htrap⟩ := rootFails_freezes hn hr ho hwaits hB false
    exact ⟨_, exec_barrierRootTimeout_of_overdue hroot hany, hrun, _, htrap, rfl, rfl, rfl⟩

end Sys2Proof.Machine
end

section
/-! SUPPORT. The special registers (spec/05 R59 to R61, spec/06 R89, R95): what GETS, TIME, SETS and SETSI answer in each case. -/
namespace Sys2Proof.Machine

/-! ## The nanoseconds latch (R60) -/

/-- Every core has PTPS, the seconds. -/
theorem State.special_ptps (s : State) : s.special 0x0C9 = some ((ptpSplit s.ptpNs).1.setWidth 64) := by
  simp [State.special, specialOf, collieSpecial]

/-- Every core has PTPN, the nanoseconds. -/
theorem State.special_ptpn (s : State) : s.special 0x0CA = some ((ptpSplit s.ptpNs).2.setWidth 64) := by
  simp [State.special, specialOf, collieSpecial]

/-- A GETS of PTPN, armed, reads the latch and disarms it. -/
theorem getsLatch_of_armed {s : State} (v : BitVec 64) (h : s.bank.nsArmed = true) :
    getsLatch s 0x0CA v = (s.bank.nsLatch.setWidth 64, s.modBank fun b => { b with nsArmed := false }) := by
  simp [getsLatch, h]

/-- No other GETS has to do with the latch. -/
theorem getsLatch_of_other {s : State} {n : Nat} (v : BitVec 64) (hs : n ≠ 0x0C9) (hn : ¬ (n = 0x0CA ∧ s.bank.nsArmed = true)) :
    getsLatch s n v = (v, s) := by
  rw [getsLatch, if_neg hs, if_neg hn]

/-- TIME leaves the entry that issues in its seat. -/
theorem ctx_timeValue (sel : Nat) (s : State) : (timeValue sel s).2.ctx = s.ctx := by
  match sel with
  | 0 | 1 | 2 | _ + 3 => rfl

/-! ## GETS -/

/-- A GETS of a register that Table 5.2 has puts its value under way. -/
theorem exec_gets_of_special {f : FmtSG} {s : State} {w : BitVec 64} (hg : s.holds f.g = true) (hw : s.special f.num.toNat = some w) :
    exec (.gets f) s = .next ((getsLatch s f.num.toNat w).2.landFrom
      (if engineRegister f.num.toNat then some f.num.toNat else none) ⟨.x, physReg s.ctx.entry.rotb f.d⟩
      ((getsLatch s f.num.toNat w).1.setWidth 4096) 0 2) := by
  rw [exec_gets, execGets, guarded_true _ hg]
  simp only [hw]

/-- A GETS of a register that no other engine changes: the value that it reads, at the latch or at the register, lands. -/
theorem exec_gets_landsX {f : FmtSG} {s t : State} {w v : BitVec 64} (hg : s.holds f.g = true) (hw : s.special f.num.toNat = some w)
    (he : engineRegister f.num.toNat = false) (hl : getsLatch s f.num.toNat w = (v, t)) (hc : t.ctx = s.ctx) :
    Answers (exec (.gets f) s) (LandsX t f.d v 2) := by
  refine ⟨t.landX f.d v 2, ?_, t.landX_lands f.d v 2 (by omega)⟩
  rw [exec_gets_of_special hg hw, hl, he, State.landX, hc]
  rfl

/-! ## SETS and SETSI -/

section Write
variable {s : State} {n : Nat} (v : BitVec 64)

/-- A number that Table 5.2 does not have traps 0x11 (R59). -/
theorem writeSpecial_of_none (h : s.special n = none) : writeSpecial n v s = s.trapPlain 0x11 := by
  rw [writeSpecial, h]
  rfl

variable (h : s.special n ≠ none)
include h

/-- A read-only register traps 0x12 (R59). -/
theorem writeSpecial_of_readOnly (hw : specialWritable n = false) : writeSpecial n v s = s.trapPlain 0x12 := by
  rw [writeSpecial, if_neg (by simpa using h), hw]
  rfl

/-- A loop register traps 0x14 while a loop runs (R61). -/
theorem writeSpecial_of_loop (hn : n = 0x020 ∨ n = 0x021 ∨ n = 0x022) (ha : s.bank.loop.act = true) :
    writeSpecial n v s = s.trapPlain 0x14 := by
  have hw : specialWritable n = true := by rcases hn with rfl | rfl | rfl <;> rfl
  rw [writeSpecial, if_neg (by simpa using h), hw, if_neg (by simp), if_pos ⟨hn, ha⟩]

/-- DMk traps 0xA2 while an arrival at its level is outstanding (R67). -/
theorem writeSpecial_of_outstanding (hl : 0x0C0 ≤ n) (hu : n ≤ 0x0C3) (ho : (vget s.bank.out (n - 0x0C0) none).isSome = true) :
    writeSpecial n v s = s.trapPlain 0xA2 := by
  have hw : specialWritable n = true := by simp [specialWritable, hl, hu]
  have hn : ¬ (n = 0x020 ∨ n = 0x021 ∨ n = 0x022) := by omega
  rw [writeSpecial, if_neg (by simpa using h), hw, if_neg (by simp), if_neg fun ha => hn ha.1, if_pos ⟨hl, hu, ho⟩]

/-- Any other writable register takes the value within 2 cycles (R89). -/
theorem writeSpecial_of_writable (hw : specialWritable n = true)
    (hl : ¬ ((n = 0x020 ∨ n = 0x021 ∨ n = 0x022) ∧ s.bank.loop.act = true))
    (ho : ¬ (0x0C0 ≤ n ∧ n ≤ 0x0C3 ∧ (vget s.bank.out (n - 0x0C0) none).isSome = true)) :
    writeSpecial n v s = s.land ⟨.sr, n⟩ (v.setWidth 4096) 0 2 := by
  rw [writeSpecial, if_neg (by simpa using h), hw, if_neg (by simp), if_neg hl, if_neg ho]

end Write
end Sys2Proof.Machine
end

section
/-! Proofs of the obligations O12 and O13 (spec/05 R59 to R61, R67; spec/06 R89, R95). -/
namespace Sys2Proof.Machine

/-- Settles O12: the latch answers a GETS of PTPS and an armed one of PTPN, the register itself any other. -/
theorem specialRegisterReads : Obligations.SpecialRegisterReads := by
  unfold Obligations.SpecialRegisterReads
  refine ⟨fun f s hg => ⟨fun hn => ?_, fun w hw hs hp he => ?_, fun w hw he => ?_, fun hn ha => ?_, fun hn => ?_⟩, fun f s hg => ?_⟩
  · rw [exec_gets, execGets, guarded_true _ hg]
    simp only [hn]
  · exact exec_gets_landsX hg hw he (getsLatch_of_other w hs hp) rfl
  · have hs : f.num.toNat ≠ 0x0C9 := fun hs => by rw [hs] at he; cases he
    have hp : f.num.toNat ≠ 0x0CA := fun hp => by rw [hp] at he; cases he
    rw [exec_gets_of_special hg hw, getsLatch_of_other w hs fun h => hp h.1, if_pos he]
  · exact exec_gets_landsX hg (hn ▸ s.special_ptpn) (hn ▸ rfl) (hn ▸ getsLatch_of_armed _ ha) rfl
  · exact exec_gets_landsX hg (hn ▸ s.special_ptps) (hn ▸ rfl) (hn ▸ rfl) rfl
  · rw [exec_time, execTime, ctx_timeValue]
    refine guarded_answers hg ?_
    rw [State.xRef]
    exact State.track_tracks _ _ _ _ (by omega)

/-- Settles O13: a write of a special register by number and state, for the value of SETS and that of SETSI alike. -/
theorem specialRegisterWrites : Obligations.SpecialRegisterWrites := by
  unfold Obligations.SpecialRegisterWrites
  intro f s hg n outcome
  have hout : ∀ v, outcome v (.next (writeSpecial n v s)) := fun v =>
    ⟨fun h => by rw [writeSpecial_of_none v h], fun h hw => by rw [writeSpecial_of_readOnly v h hw],
      fun h hn ha => by rw [writeSpecial_of_loop v h hn ha], fun h hl hu ho => by rw [writeSpecial_of_outstanding v h hl hu ho],
      fun h hw hl ho => ⟨_, congrArg _ (writeSpecial_of_writable v h hw hl ho), s.land_lands _ _ _ _ (by omega)⟩⟩
  rw [exec_sets, execSets, guarded_true _ hg, exec_setsi, execSetsi, guarded_true _ hg]
  exact ⟨hout _, hout _⟩

end Sys2Proof.Machine
end

section
/-! SUPPORT. SYNC and ARRV (spec/06 R90, R91): what each answers in each case, and what holds an ARRV at the head of its queue. -/
namespace Sys2Proof.Machine

section Arrive
variable {f : FmtK} {s : State} (hg : s.holds f.g = true)
include hg

/-- ARRV without a valid DMk traps 0xA0 (R91). -/
theorem exec_arrv_of_invalid (hv : s.bank.dmValid f.k.toNat = false) : exec (.arrv f) s = .next (s.trapPlain 0xA0) := by
  rw [exec_arrv, execArrv, guarded_true _ hg]
  simp only [hv, Bool.not_false, if_true]

/-- SYNC without a valid DMk traps 0xA0 (R90). -/
theorem exec_sync_of_invalid (hw : s.bank.syncWait = none) (hv : s.bank.dmValid f.k.toNat = false) :
    exec (.sync f) s = .next (s.trapPlain 0xA0) := by
  rw [exec_sync, execSync, controlFlow_true _ hg]
  simp only [hw, hv, Bool.not_false, if_true]

/-- SYNC whose phase has completed leaves the queue, and dispatch goes on (R90). -/
theorem exec_sync_of_completed {w : SyncWait} {o : Outstanding} (hw : s.bank.syncWait = some w) (ha : w.arrived = true)
    (ho : vget s.bank.out f.k.toNat none = some o) (hc : o.completed = true) :
    exec (.sync f) s = .next ((s.modBank fun b => { b with out := vset b.out f.k.toNat none, syncWait := none }).fallThrough) := by
  rw [exec_sync, execSync, controlFlow_true _ hg]
  simp only [hw, ho, ha, hc, Bool.and_self, if_true]

variable (hv : s.bank.dmValid f.k.toNat = true)
include hv

/-- ARRV of more than 8,192 tasks traps 0xA7 (R91). -/
theorem exec_arrv_of_tooMany (hc : 8192 < s.bank.dmCount f.k.toNat) : exec (.arrv f) s = .next (s.trapPlain 0xA7) := by
  rw [exec_arrv, execArrv, guarded_true _ hg]
  simp only [hv, if_pos hc, Bool.not_true, Bool.false_eq_true, if_false]

/-- SYNC of more than 8,192 tasks traps 0xA7 (R90). -/
theorem exec_sync_of_tooMany (hw : s.bank.syncWait = none) (hc : 8192 < s.bank.dmCount f.k.toNat) :
    exec (.sync f) s = .next (s.trapPlain 0xA7) := by
  rw [exec_sync, execSync, controlFlow_true _ hg]
  simp only [hw, hv, if_pos hc, Bool.not_true, Bool.false_eq_true, if_false]

variable (hc : s.bank.dmCount f.k.toNat ≤ 8192)
include hc

/-- ARRV with an arrival outstanding traps 0xA1 (R91). -/
theorem exec_arrv_of_outstanding (ho : vget s.bank.out f.k.toNat none ≠ none) : exec (.arrv f) s = .next (s.trapPlain 0xA1) := by
  rw [exec_arrv, execArrv, guarded_true _ hg]
  simp only [hv, if_neg hc.not_gt, Option.isSome_iff_ne_none.mpr ho, Bool.not_true, Bool.false_eq_true, if_false, if_true]

variable (ho : vget s.bank.out f.k.toNat none = none)
include ho

/-- ARRV with no arrival outstanding arrives (R91). -/
theorem exec_arrv_arrives : exec (.arrv f) s = .next (arriveAt f.k.toNat s.ctx.entry.pc s.ctx.entry.rep s) := by
  rw [exec_arrv, execArrv, guarded_true _ hg]
  simp only [hv, if_neg hc.not_gt, ho, Option.isSome_none, Bool.not_true, Bool.false_eq_true, if_false]

/-- SYNC whose joins hold begins its wait at the head of its queue (R90). -/
theorem exec_sync_waits (hw : s.bank.syncWait = none) (hi : s.bank.issuedUpTo s.ctx.entry.seq = true) (hr : s.bank.resultsLanded = true)
    (hs : s.bank.storesDone = true) (hm : s.core.mesh.done = true) (hk : s.core.copiesDone = true) (ht : takeSchedCause s = none)
    (hf : s.core.frozenChan = none) :
    exec (.sync f) s = .next ((s.modBank fun b => { b with syncWait := some ⟨BitVec.ofNat 2 f.k.toNat, false⟩ }).putBack) := by
  rw [exec_sync, execSync, controlFlow_true _ hg]
  simp only [hw, hv, ho, hi, hr, hs, hm, hk, ht, hf, if_neg hc.not_gt, Bool.not_true, Bool.and_self, Bool.false_eq_true, if_false]

end Arrive

/-- A SYNC that waits arrives for the entry at the head of the S queue (R90). -/
theorem exec_syncArrival_of_waiting {s : State} {k : BitVec 2} {e : Entry} {q : List Entry} (hw : s.bank.syncWait = some ⟨k, false⟩)
    (hq : s.bank.queues[0]? = some (e :: q)) :
    exec .syncArrival s = .next (arriveAt k.toNat e.pc e.rep (s.modBank fun b => { b with syncWait := some ⟨k, true⟩ })) := by
  rw [exec_syncArrival, execSyncArrival, hw, hq]

/-- An ARRV that traps nothing is held while an access before it is not done (R91, Table 4.5). -/
theorem arrivalHeld_of_not_accessesDone {f : FmtK} {b : Bank} {e : Entry} (hv : b.dmValid f.k.toNat = true)
    (hc : b.dmCount f.k.toNat ≤ 8192) (ho : vget b.out f.k.toNat none = none) (ha : b.accessesDone e.seq = false) :
    arrivalHeld b e (Instr.arrv f).view = true := by
  change (!b.arrivalTraps f.k.toNat && !b.accessesDone e.seq) = true
  rw [Bank.arrivalTraps, hv, ho, ha, decide_eq_false hc.not_gt]
  rfl

/-- An arrival that is held holds its entry. -/
theorem entryHeld_of_arrivalHeld {s : State} {slot : Slot} {e : Entry} {v : View} (hv : e.op = some v) (hg : s.holds v.guard = true)
    (ha : arrivalHeld s.bank e v = true) : entryHeld s slot e = true := by
  simp only [entryHeld, hv, hg, ha, Bool.or_true, Bool.true_or, Bool.and_self]

/-- A slot whose head is held is not ready to issue. -/
theorem slotReady_of_entryHeld {s : State} {slot : Slot} {e : Entry} {q : List Entry} (hq : s.bank.queue slot = e :: q)
    (h : entryHeld (s.seat slot e) slot e = true) : slotReady s slot = false := by
  simp only [slotReady, hq, h, Bool.not_true, Bool.and_false]

end Sys2Proof.Machine
end

section
/-! Proof of the obligation O18 (spec/05 R67; spec/06 R90, R91). -/
namespace Sys2Proof.Machine

/-- Settles O18: SYNC and ARRV case by case, and the hold of an ARRV behind the accesses before it. -/
theorem barriersArrive : Obligations.BarriersArrive := by
  unfold Obligations.BarriersArrive
  refine ⟨fun f s hg => ⟨exec_arrv_arrives hg, exec_arrv_of_invalid hg, exec_arrv_of_tooMany hg, exec_arrv_of_outstanding hg,
    fun hw hv hc ho => exec_sync_waits hg hv hc ho hw, fun w o hw ha ho hc => exec_sync_of_completed hg hw ha ho hc,
    exec_sync_of_invalid hg, fun hw hv hc => exec_sync_of_tooMany hg hv hw hc⟩,
    fun s k e q => exec_syncArrival_of_waiting, fun f s e q hq hop hg hv hc ho ha => ?_⟩
  exact slotReady_of_entryHeld hq (entryHeld_of_arrivalHeld hop hg (arrivalHeld_of_not_accessesDone hv hc ho ha))

end Sys2Proof.Machine
end

section
/-! SUPPORT. MON, MWAIT and WAITV (spec/05 R68; spec/06 R92, R93; spec/22 R332): what each answers in each case. -/
namespace Sys2Proof.Machine

/-! ## The monitor -/

/-- A change of the active bank that keeps its x registers leaves what the operation reads. -/
theorem State.readX_modBank {s : State} {g : Bank → Bank} (h : (g s.bank).x = s.bank.x) (n : BitVec 6) :
    (s.modBank g).readX n = s.readX n := by
  rw [State.readX, State.bank_modBank, h, State.modBank_ctx, State.readX]

/-- A bank whose monitor is armed at an address, its watch not started (R68). -/
def Bank.armedAt (va : BitVec 64) (b : Bank) : Bank :=
  { b with monaddr := va ||| 1, monLine := none, monSeen := [], posted := b.posted.filter fun a => a.kind != .monitor }

/-- MON of a line address arms the monitor and starts its watch (R332). -/
theorem exec_mon_of_line {f : FmtGM} {s : State} (hg : s.holds f.g = true)
    (hh : (s.readX f.a + 128 * f.off.signExtend 64).extractLsb' 54 10 = 0)
    (hl : (s.readX f.a + 128 * f.off.signExtend 64).toNat % 128 = 0) :
    exec (.mon f) s = .next ((s.modBank (Bank.armedAt (s.readX f.a + 128 * f.off.signExtend 64))).issueAccess 0x51 (.gm f)
      (s.readX f.a + 128 * f.off.signExtend 64) 128 [s.readX f.a] 0) := by
  have hva : gmAddr 0x51 f.off (s.readX f.a) = s.readX f.a + 128 * f.off.signExtend 64 := rfl
  rw [exec_mon, execMon, guarded_true _ hg, hva, if_neg (not_not.mpr hh), if_neg (not_not.mpr hl)]
  exact congrArg Host.Outcome.next (congrArg (State.issueAccess _ _ _ _ _ [·] _) (State.readX_modBank rfl _))

section Mwait
variable {f : FmtGF} {s : State} (hg : s.holds f.g = true)
include hg

/-- MWAIT returns at once when the monitor is not armed (log entry 96). -/
theorem exec_mwait_of_unarmed (ha : s.bank.monaddr.getLsbD 0 = false) : exec (.mwait f) s = .next s.fallThrough := by
  rw [exec_mwait, execMwait, controlFlow_true _ hg, ha]
  rfl

variable (ha : s.bank.monaddr.getLsbD 0 = true)
include ha

/-- MWAIT returns at once when the monitor has triggered, and clears it (R68). -/
theorem exec_mwait_of_triggered (ht : s.bank.monaddr.getLsbD 1 = true) :
    exec (.mwait f) s = .next ((s.fallThrough.modBank Bank.disarm).returnPoint s.core.cur) := by
  rw [exec_mwait, execMwait, controlFlow_true _ hg, ha, ht]
  rfl

variable (ht : s.bank.monaddr.getLsbD 1 = false)
include ht

/-- MWAIT sleeps at the head of its queue (R68). -/
theorem exec_mwait_sleeps (hp : s.core.preReq = none) :
    exec (.mwait f) s = .next ((s.modBank fun b => { b with mwait := true }).putBack) := by
  rw [exec_mwait, execMwait, controlFlow_true _ hg, ha, ht, hp]
  rfl

/-- MWAIT returns at once with a pre-emption request pending (R68). -/
theorem exec_mwait_of_request (hp : s.core.preReq.isSome = true) :
    exec (.mwait f) s = .next (s.fallThrough.returnPoint s.core.cur) := by
  rw [exec_mwait, execMwait, controlFlow_true _ hg, ha, ht, hp]
  rfl

end Mwait

/-- A sleeping MWAIT wakes on the trigger, and clears the monitor (R68). -/
theorem exec_mwaitReturn_of_triggered {s : State} (hw : s.bank.mwait = true) (ht : s.bank.monaddr.getLsbD 1 = true) :
    exec .mwaitReturn s = .next ((s.mwaitLeave.modBank Bank.disarm).returnPoint s.core.cur) := by
  rw [exec_mwaitReturn, execMwaitReturn, hw, ht]
  rfl

/-- A sleeping MWAIT wakes on a pre-emption request (R68). -/
theorem exec_mwaitReturn_of_request {s : State} (hw : s.bank.mwait = true) (ht : s.bank.monaddr.getLsbD 1 = false)
    (hp : s.core.preReq.isSome = true) : exec .mwaitReturn s = .next (s.mwaitLeave.returnPoint s.core.cur) := by
  rw [exec_mwaitReturn, execMwaitReturn, hw, ht, hp]
  rfl

/-! ## WAITV -/

/-- The active bank is the bank of BANK.CUR. -/
theorem State.bankOf_cur (s : State) : s.bankOf s.core.cur = s.bank := rfl

/-- Of conditions that are all legal none has a cause. -/
theorem lowestCause_of_legal {l : List WaitCond} (h : ∀ c ∈ l, c.cause = none) : lowestCause (l.filterMap WaitCond.cause) = none := by
  rw [List.filterMap_eq_nil_iff.mpr h]
  rfl

/-- On a core that issues, the one WAITV that meets a test is evaluated. -/
theorem evaluateAll_of_places {s : State} {j : Nat} {f : Tracked → Bool} (hr : s.core.run.issues = true) (hj : s.bank.places f = [j]) :
    evaluateAll s.core.cur f s = waitvEvaluate s.core.cur j s := by
  rw [evaluateAll, State.bankOf_cur, hj, List.foldl_cons, List.foldl_nil, if_pos hr]

end Sys2Proof.Machine
end

section
/-! Proof of the obligation O19 (spec/05 R68; spec/06 R92, R93; spec/22 R332). -/
namespace Sys2Proof.Machine

/-- Settles O19: MON, MWAIT and its return case by case, and the one evaluation of a WAITV at its issue and at each of its events. -/
theorem waitsAndMonitor : Obligations.WaitsAndMonitor := by
  unfold Obligations.WaitsAndMonitor
  refine ⟨fun f s hg hh hl => exec_mon_of_line hg hh hl,
    fun f s hg => ⟨exec_mwait_of_unarmed hg, exec_mwait_of_triggered hg, exec_mwait_sleeps hg, exec_mwait_of_request hg⟩,
    fun s hw => ⟨exec_mwaitReturn_of_triggered hw, exec_mwaitReturn_of_request hw⟩,
    fun f s hg hlegal => ?_, fun s j hr => ⟨fun hj => ?_, fun hj => ?_⟩⟩
  · rw [exec_waitv, execWaitv, guarded_true _ hg]
    simp only [lowestCause_of_legal hlegal]
  · rw [exec_waitvReevaluation, execWaitvReevaluation, evaluateAll_of_places hr hj]
  · rw [exec_waitvTimeout, execWaitvTimeout, evaluateAll_of_places hr hj]

end Sys2Proof.Machine
end

section
/-! SUPPORT. Scalar arithmetic, compares and predicate logic (spec/06 R76 to R82): the result that each shape of operation puts under
way, and the values in the terms of the rules. -/
namespace Sys2Proof.Machine

/-! ## Shapes -/

section Shapes
variable {s : State}

/-- An operation that lands a value of the state puts it under way. -/
theorem guarded_landsX {g : Guard} (d : BitVec 6) (v : State → BitVec 64) {n : Nat} (hg : s.holds g = true) (hn : 1 ≤ n) :
    Answers (guarded g s fun s => s.landX d (v s) n) (LandsX s d (v s) n) :=
  guarded_answers hg (s.landX_lands d (v s) n hn)

/-- An RR operation puts its value of two registers under way (R76 to R78). -/
theorem aluRR_landsX {f : FmtRR} {n : Nat} (v : BitVec 64 → BitVec 64 → BitVec 64) (hg : s.holds f.g = true) (hn : 1 ≤ n) :
    Answers (aluRR n v f s) (LandsX s f.d (v (s.readX f.a) (s.readX f.b)) n) :=
  guarded_landsX f.d (fun s => v (s.readX f.a) (s.readX f.b)) hg hn

/-- An RI operation puts its value of a register and the extended immediate under way (R79). -/
theorem aluRI_landsX {f : FmtRI} (imm : BitVec 64) (v : BitVec 64 → BitVec 64 → BitVec 64) (hg : s.holds f.g = true) :
    Answers (aluRI imm v f s) (LandsX s f.d (v (s.readX f.a) imm) 1) :=
  guarded_landsX f.d (fun s => v (s.readX f.a) imm) hg le_rfl

/-- A compare puts its predicate under way (R81). -/
theorem compare_landsP {g : Guard} (d : BitVec 6) (r : BitVec 64 → BitVec 64 → Bool) (a : BitVec 6) (b : State → BitVec 64)
    (hg : s.holds g = true) : Answers (compare g d r a b s) (LandsP s d.toNat (r (s.readX a) (b s)) 1) :=
  guarded_answers hg (s.landP_lands _ _ _ le_rfl)

/-- A predicate operation puts its predicate of the sources, each inverted or not, under way (R82). -/
theorem predLogic_landsP {f : FmtPL} (v : Bool → Bool → Bool) (hg : s.holds f.g = true) :
    Answers (predLogic v f s) (LandsP s f.d.toNat (v (s.readP f.a.toNat ^^ f.na) (s.readP f.b.toNat ^^ f.nb)) 1) :=
  guarded_answers hg (s.landP_lands _ _ _ le_rfl)

end Shapes

/-! ## Division (R77) -/

/-- The unsigned quotient is the quotient of words. -/
theorem divu_eq_udiv (a b : BitVec 64) : divu a b = if b = 0 then BitVec.allOnes 64 else a / b := by
  rw [divu, ← BitVec.toNat_udiv, BitVec.ofNat_toNat, BitVec.setWidth_eq]

/-- The unsigned remainder is the remainder of words. -/
theorem remu_eq_umod (a b : BitVec 64) : remu a b = if b = 0 then a else a % b := by
  rw [remu, ← BitVec.toNat_umod, BitVec.ofNat_toNat, BitVec.setWidth_eq]

/-- The one signed quotient that 64 bits do not hold is the dividend again. -/
theorem divs_eq_tdiv (a b : BitVec 64) : divs a b =
    if b = 0 then BitVec.allOnes 64
    else if a = BitVec.intMin 64 ∧ b = BitVec.allOnes 64 then BitVec.intMin 64
    else BitVec.ofInt 64 (a.toInt.tdiv b.toInt) := by
  rw [divs]
  by_cases h : a = BitVec.intMin 64 ∧ b = BitVec.allOnes 64
  · obtain ⟨rfl, rfl⟩ := h
    rfl
  · rw [if_neg h]

/-- The signed remainder is what the truncated quotient leaves of the dividend. -/
theorem rems_eq_sub_tdiv (a b : BitVec 64) : rems a b =
    if b = 0 then a
    else if a = BitVec.intMin 64 ∧ b = BitVec.allOnes 64 then 0
    else BitVec.ofInt 64 (a.toInt - b.toInt * a.toInt.tdiv b.toInt) := by
  rw [rems, Int.tmod_def]
  by_cases h : a = BitVec.intMin 64 ∧ b = BitVec.allOnes 64
  · obtain ⟨rfl, rfl⟩ := h
    rfl
  · rw [if_neg h]

/-! ## Counts of bits (R78) -/

/-- From bit `n` downwards a number below 2 ^ `n` has as many zeros before its first one as its size falls short of `n`. -/
theorem length_takeWhile_not_testBit {n x : Nat} (hx : x < 2 ^ n) :
    ((List.range n).reverse.takeWhile fun i => !x.testBit i).length = n - x.size := by
  induction n with
  | zero => simp
  | succ n ih =>
    rw [List.range_succ, List.reverse_concat, List.takeWhile_cons]
    by_cases hn : 2 ^ n ≤ x
    · have hs : n < x.size := Nat.lt_size.mpr hn
      rw [Nat.testBit_of_two_pow_le_and_two_pow_add_one_gt hn hx]
      simp only [Bool.not_true, Bool.false_eq_true, if_false, List.length_nil]
      omega
    · have hs : x.size ≤ n := Nat.size_le.mpr (by omega)
      rw [Nat.testBit_lt_two_pow (by omega)]
      simp only [Bool.not_false, if_true, List.length_cons, ih (by omega)]
      omega

/-- CLZ counts the zeros above the highest one. -/
theorem clz_eq_size (a : BitVec 64) : clz a = BitVec.ofNat 64 (64 - a.toNat.size) :=
  congrArg (BitVec.ofNat 64) (length_takeWhile_not_testBit a.isLt)

/-- POPC counts the ones. -/
theorem popc_eq_countP (a : BitVec 64) : popc a = BitVec.ofNat 64 ((List.range 64).countP fun i => a.getLsbD i) := by
  rw [popc, ← List.countP_eq_length_filter]

/-! ## BEXT and BDEP (R78) -/

/-- The ones of a mask below a bit: the place that BEXT moves the bit to, and BDEP takes it from. -/
def maskRank (b : BitVec 64) (i : Nat) : Nat := (List.range i).countP fun j => b.getLsbD j

/-- A one of the mask raises the rank above it. -/
theorem maskRank_succ_of_set {b : BitVec 64} {i : Nat} (h : b.getLsbD i = true) : maskRank b (i + 1) = maskRank b i + 1 := by
  simp [maskRank, List.range_succ, List.countP_append, h]

/-- A zero of the mask leaves the rank. -/
theorem maskRank_succ_of_clear {b : BitVec 64} {i : Nat} (h : b.getLsbD i = false) : maskRank b (i + 1) = maskRank b i := by
  simp [maskRank, List.range_succ, List.countP_append, h]

/-- No rank is above its bit. -/
theorem maskRank_le (b : BitVec 64) (i : Nat) : maskRank b i ≤ i :=
  List.countP_le_length.trans_eq List.length_range

/-- The rank never falls. -/
theorem maskRank_mono (b : BitVec 64) : Monotone (maskRank b) :=
  fun _ _ h => (List.range_sublist.mpr h).countP_le

/-- A one of the mask has a rank below that of every later bit. -/
theorem maskRank_lt {b : BitVec 64} {i n : Nat} (hi : i < n) (h : b.getLsbD i = true) : maskRank b i < maskRank b n :=
  (Nat.lt_succ_self _).trans_le ((maskRank_succ_of_set h).symm.trans_le (maskRank_mono b hi))

/-- A bit put into a word under a condition changes that bit alone. -/
theorem getLsbD_ite_or_one_shiftLeft (c : Bool) (x : BitVec 64) {k : Nat} (hk : k < 64) (j : Nat) :
    (if c then x ||| 1#64 <<< k else x).getLsbD j = (x.getLsbD j || (c && decide (j = k))) := by
  cases c
  · simp
  · rw [if_pos rfl, BitVec.getLsbD_or, ← BitVec.twoPow_eq, BitVec.getLsbD_twoPow]
    simp [hk, eq_comm]

/-- BEXT on one bit of the mask: the ones met so far, and the bits packed so far. -/
def bextStep (a b : BitVec 64) (acc : Nat × BitVec 64) (i : Nat) : Nat × BitVec 64 :=
  if b.getLsbD i then (acc.1 + 1, if a.getLsbD i then acc.2 ||| (1#64 <<< acc.1) else acc.2) else acc

/-- BDEP on one bit of the mask: the ones met so far, and the bits placed so far. -/
def bdepStep (a b : BitVec 64) (acc : Nat × BitVec 64) (i : Nat) : Nat × BitVec 64 :=
  if b.getLsbD i then (acc.1 + 1, if a.getLsbD acc.1 then acc.2 ||| (1#64 <<< i) else acc.2) else acc

/-- BEXT takes the bits of the mask in turn. -/
theorem bext_eq_foldl (a b : BitVec 64) : bext a b = ((List.range 64).foldl (bextStep a b) (0, 0)).2 := rfl

/-- BDEP takes the bits of the mask in turn. -/
theorem bdep_eq_foldl (a b : BitVec 64) : bdep a b = ((List.range 64).foldl (bdepStep a b) (0, 0)).2 := rfl

/-- After `n` bits of the mask BEXT has counted their ones, packed their bits by rank, and set no bit above. -/
theorem foldl_bextStep (a b : BitVec 64) {n : Nat} (hn : n ≤ 64) :
    ((List.range n).foldl (bextStep a b) (0, 0)).1 = maskRank b n ∧
    (∀ i < n, b.getLsbD i = true → ((List.range n).foldl (bextStep a b) (0, 0)).2.getLsbD (maskRank b i) = a.getLsbD i) ∧
    ∀ j, maskRank b n ≤ j → ((List.range n).foldl (bextStep a b) (0, 0)).2.getLsbD j = false := by
  induction n with
  | zero => exact ⟨rfl, fun i hi => absurd hi (Nat.not_lt_zero i), fun j _ => BitVec.getLsbD_zero⟩
  | succ n ih =>
    rw [List.range_succ, List.foldl_concat]
    obtain ⟨hcount, hpacked, habove⟩ := ih (by omega)
    generalize (List.range n).foldl (bextStep a b) (0, 0) = acc at hcount hpacked habove
    obtain ⟨k, x⟩ := acc
    obtain rfl : k = maskRank b n := hcount
    cases hb : b.getLsbD n with
    | false =>
      rw [maskRank_succ_of_clear hb, bextStep, hb]
      refine ⟨rfl, fun i hi hbi => hpacked i ?_ hbi, habove⟩
      exact lt_of_le_of_ne (Nat.lt_succ_iff.mp hi) fun h => by rw [h, hb] at hbi; cases hbi
    | true =>
      have hk : maskRank b n < 64 := (maskRank_le b n).trans_lt hn
      rw [maskRank_succ_of_set hb, bextStep, hb]
      refine ⟨rfl, fun i hi hbi => ?_, fun j hj => ?_⟩ <;> refine (getLsbD_ite_or_one_shiftLeft _ _ hk _).trans ?_
      · rcases Nat.lt_succ_iff_lt_or_eq.mp hi with hlt | rfl
        · rw [hpacked i hlt hbi, decide_eq_false (maskRank_lt hlt hbi).ne, Bool.and_false, Bool.or_false]
        · rw [habove _ le_rfl, decide_eq_true rfl, Bool.and_true, Bool.false_or]
      · rw [habove j (by omega), decide_eq_false (by omega), Bool.and_false, Bool.or_false]

/-- After `n` bits of the mask BDEP has counted their ones, and placed at each of them the bit of its rank. -/
theorem foldl_bdepStep (a b : BitVec 64) {n : Nat} (hn : n ≤ 64) :
    ((List.range n).foldl (bdepStep a b) (0, 0)).1 = maskRank b n ∧
    ∀ i, ((List.range n).foldl (bdepStep a b) (0, 0)).2.getLsbD i =
      (decide (i < n) && (b.getLsbD i && a.getLsbD (maskRank b i))) := by
  induction n with
  | zero => exact ⟨rfl, fun i => BitVec.getLsbD_zero⟩
  | succ n ih =>
    rw [List.range_succ, List.foldl_concat]
    obtain ⟨hcount, hplaced⟩ := ih (by omega)
    generalize (List.range n).foldl (bdepStep a b) (0, 0) = acc at hcount hplaced
    obtain ⟨k, x⟩ := acc
    obtain rfl : k = maskRank b n := hcount
    cases hb : b.getLsbD n with
    | false =>
      rw [maskRank_succ_of_clear hb, bdepStep, hb]
      refine ⟨rfl, fun i => (hplaced i).trans ?_⟩
      rcases eq_or_ne i n with rfl | hne
      · rw [hb, Bool.false_and, Bool.and_false, Bool.and_false]
      · rw [decide_eq_decide.mpr (show i < n ↔ i < n + 1 by omega)]
    | true =>
      rw [maskRank_succ_of_set hb, bdepStep, hb]
      refine ⟨rfl, fun i => (getLsbD_ite_or_one_shiftLeft _ _ (by omega) _).trans ?_⟩
      rw [hplaced]
      rcases eq_or_ne i n with rfl | hne
      · simp [hb]
      · rw [decide_eq_decide.mpr (show i < n ↔ i < n + 1 by omega), decide_eq_false hne, Bool.and_false, Bool.or_false]

end Sys2Proof.Machine
end

section
/-! Proofs of the obligations O4 to O7 (spec/06 R76 to R82). -/
namespace Sys2Proof.Machine

/-- Settles O5: the shape of an RR operation with each value, and the loops of BEXT and BDEP after all 64 bits of the mask. -/
theorem bitOperationResults : Obligations.BitOperationResults := by
  unfold Obligations.BitOperationResults
  refine ⟨fun f s hg => ⟨?_, ?_, aluRR_landsX bext hg (by omega), aluRR_landsX bdep hg (by omega), ?_⟩, fun a b => ?_⟩
  · rw [← clz_eq_size]
    exact aluRR_landsX (fun a _ => clz a) hg le_rfl
  · rw [← popc_eq_countP]
    exact aluRR_landsX (fun a _ => popc a) hg le_rfl
  · exact guarded_landsX f.d (fun s => (s.readX f.a &&& s.readX f.d) ||| (s.readX f.b &&& ~~~s.readX f.d)) hg le_rfl
  · obtain ⟨-, hpacked, habove⟩ := foldl_bextStep a b le_rfl
    obtain ⟨-, hplaced⟩ := foldl_bdepStep a b le_rfl
    intro rank
    rw [bext_eq_foldl, bdep_eq_foldl]
    refine ⟨hpacked, fun j _ => habove j, fun i hi => ?_⟩
    rw [hplaced, decide_eq_true hi, Bool.true_and]
    rfl

/-- Settles O4: the shape of an RR operation with each value. -/
theorem aluResults : Obligations.AluResults := by
  unfold Obligations.AluResults
  intro f s hg a b sh
  have hlands {n : Nat} (v : BitVec 64 → BitVec 64 → BitVec 64) (hn : 1 ≤ n) : Answers (aluRR n v f s) (LandsX s f.d (v a b) n) :=
    aluRR_landsX v hg hn
  rw [← divu_eq_udiv, ← remu_eq_umod, ← divs_eq_tdiv, ← rems_eq_sub_tdiv]
  exact ⟨hlands (· + ·) le_rfl, hlands (· - ·) le_rfl, hlands (· &&& ·) le_rfl, hlands (· ||| ·) le_rfl, hlands (· ^^^ ·) le_rfl,
    hlands (fun a b => a <<< shamt b) le_rfl, hlands (fun a b => a >>> shamt b) le_rfl,
    hlands (fun a b => a.sshiftRight (shamt b)) le_rfl, hlands (· * ·) (by omega), hlands mulhs (by omega), hlands mulhu (by omega),
    hlands divu (by omega), hlands remu (by omega), hlands divs (by omega), hlands rems (by omega),
    hlands (fun a b => if a.toInt ≤ b.toInt then a else b) le_rfl, hlands (fun a b => if a.toInt ≤ b.toInt then b else a) le_rfl,
    hlands (fun a b => if a.toNat ≤ b.toNat then a else b) le_rfl, hlands (fun a b => if a.toNat ≤ b.toNat then b else a) le_rfl⟩

/-- Settles O6: the shape of an RI operation with each immediate; a shift amount is the immediate's low six bits, extended or not. -/
theorem immediateResults : Obligations.ImmediateResults := by
  unfold Obligations.ImmediateResults
  refine ⟨fun f s hg => ?_, fun f s hg => ⟨guarded_landsX f.d (fun _ => f.imm.signExtend 64) hg le_rfl,
    guarded_landsX f.d (fun s => (s.readX f.d <<< 14) ||| f.imm.setWidth 64) hg le_rfl⟩⟩
  have hshamt : shamt (f.imm.setWidth 64) = f.imm.toNat % 64 := by
    rw [shamt, BitVec.toNat_setWidth_of_le (by omega)]
  rw [← hshamt]
  exact ⟨aluRI_landsX _ (· + ·) hg, aluRI_landsX _ (· &&& ·) hg, aluRI_landsX _ (· ||| ·) hg, aluRI_landsX _ (· ^^^ ·) hg,
    aluRI_landsX _ (fun a b => a <<< shamt b) hg, aluRI_landsX _ (fun a b => a >>> shamt b) hg,
    aluRI_landsX _ (fun a b => a.sshiftRight (shamt b)) hg⟩

/-- Settles O7: the shapes of a compare and of a predicate operation with each relation. -/
theorem compareAndPredicateResults : Obligations.CompareAndPredicateResults := by
  unfold Obligations.CompareAndPredicateResults
  refine ⟨fun f s hg => ?_, fun f s hg => ?_, fun f s hg => ?_⟩ <;> intro a
  · intro b
    have hlands (r : BitVec 64 → BitVec 64 → Bool) :
        Answers (compare f.g f.d r f.a (fun s => s.readX f.b) s) (LandsP s f.d.toNat (r a b) 1) := compare_landsP _ _ _ _ hg
    exact ⟨hlands (· == ·), hlands (· != ·), hlands BitVec.slt, hlands BitVec.sle, hlands BitVec.ult, hlands BitVec.ule⟩
  · have hlands (r : BitVec 64 → BitVec 64 → Bool) (imm : BitVec 64) :
        Answers (compare f.g f.d r f.a (fun _ => imm) s) (LandsP s f.d.toNat (r a imm) 1) := compare_landsP _ _ _ _ hg
    exact ⟨hlands (· == ·) _, hlands (· != ·) _, hlands BitVec.slt _, hlands BitVec.ult _⟩
  · exact ⟨predLogic_landsP (· && ·) hg, predLogic_landsP (· || ·) hg, predLogic_landsP (· ^^ ·) hg,
      predLogic_landsP (fun a _ => !a) hg⟩

end Sys2Proof.Machine
end

section
/-! SUPPORT. Control flow (spec/06 R83 to R88): what a transfer, a loop, a pre-emption point and the end of a task answer in each case. -/
namespace Sys2Proof.Machine

variable {s : State}

/-! ## Transfers (R83) -/

/-- A target is good when it is inside IMEM and aligned. -/
theorem targetOk_iff (c : Core) (t : Int) : targetOk c t = true ↔ 0 ≤ t ∧ t < c.imemSize ∧ t % 4 = 0 := by
  simp only [targetOk, Bool.and_eq_true, decide_eq_true_eq, beq_iff_eq, and_assoc]

/-- A transfer under a true guard jumps to a good target. -/
theorem controlFlow_transfer_of_ok {g : Guard} {t : State → Int} (f : State → State) (hg : s.holds g = true)
    (ht : targetOk s.core (t s) = true) : controlFlow g s (fun s => s.transfer (t s) f) = .next (f (s.jump (t s).toNat)) := by
  rw [controlFlow_true _ hg, State.transfer, if_pos ht]

/-- A transfer under a true guard to a bad target traps 0x15, and goes nowhere. -/
theorem controlFlow_transfer_of_bad {g : Guard} {t : State → Int} (f : State → State → State) (hg : s.holds g = true)
    (ht : targetOk s.core (t s) = false) : controlFlow g s (fun s => s.transfer (t s) (f s)) = .next (s.trapPlain 0x15) := by
  rw [controlFlow_true _ hg, State.transfer, ht]
  rfl

/-! ## LOOP, LOOPI and LBRK (R84, R85) -/

/-- Where the body of a loop that the issuing bundle starts begins: after that bundle. -/
def State.bodyStart (s : State) : Nat := s.ctx.entry.pc + s.ctx.entry.len

/-- The bytes of that body. -/
def State.bodyBytes (s : State) (f : FmtLP) : Nat := s.core.bodyBytes s.bodyStart (f.len.toNat + 1)

/-- The active bank with the loop begun: `n` + 1 items, the body taken into the loop buffer, p8 true and p9 to p15 false. -/
def State.loopBegun (s : State) (f : FmtLP) (n : BitVec 32) (b : Bank) : Bank :=
  { b with
    irc := n, drc := f.drc, p := (b.p &&& 0x00FF) ||| 0x0100,
    loop := ⟨true, f.len, BitVec.ofNat 18 s.bodyStart, s.bodyBytes f, false, f.drc, 0, s.core.imem.part s.bodyStart (s.bodyBytes f),
      s.core.imemBad.filter fun a => s.bodyStart ≤ a && a < s.bodyStart + s.bodyBytes f⟩ }

section Loop
variable {f : FmtLP} {count : State → BitVec 64}

/-- A loop with a false guard is passed over (R73). -/
theorem startLoop_of_false (hg : s.holds f.g = false) : startLoop f count s = .next (s.jump (s.bodyStart + s.bodyBytes f)) := by
  rw [startLoop, hg]
  rfl

/-- A count of 2 ^ 32 or more traps 0x19. -/
theorem startLoop_of_tooMany (hg : s.holds f.g = true) (hc : 2 ^ 32 ≤ (count s).toNat) :
    startLoop f count s = .next (s.trapPlain 0x19) := by
  rw [startLoop, hg, if_pos hc]
  rfl

/-- A body that ends beyond IMEM traps 0x13. -/
theorem startLoop_of_beyond (hg : s.holds f.g = true) (hc : (count s).toNat < 2 ^ 32) (hb : 0x40000 < s.bodyStart + s.bodyBytes f) :
    startLoop f count s = .next (s.trapPlain 0x13) := by
  rw [startLoop, hg, if_neg hc.not_ge]
  exact if_pos hb

/-- Any other loop begins, and its first bundle is the next. -/
theorem startLoop_begins (hg : s.holds f.g = true) (hc : (count s).toNat < 2 ^ 32) (hb : s.bodyStart + s.bodyBytes f ≤ 0x40000) :
    startLoop f count s = .next (s.modBank (s.loopBegun f ((count s).setWidth 32))).fallThrough := by
  rw [startLoop, hg, if_neg hc.not_ge]
  exact if_neg hb.not_gt

end Loop

/-- LBRK marks a loop that runs. -/
theorem exec_lbrk_of_loop {f : FmtK} (hg : s.holds f.g = true) (ha : s.bank.loop.act = true) :
    exec (.lbrk f) s = .next (s.modBank fun b => { b with loop := { b.loop with brk := true } }).fallThrough := by
  rw [exec_lbrk, execLbrk, controlFlow_true _ hg, State.modBank, if_pos ha, State.modBank]

/-- LBRK outside a loop has no effect. -/
theorem exec_lbrk_of_no_loop {f : FmtK} (hg : s.holds f.g = true) (ha : s.bank.loop.act = false) :
    exec (.lbrk f) s = .next s.fallThrough := by
  rw [exec_lbrk, execLbrk, controlFlow_true _ hg, State.modBank, ha, if_neg (by decide), State.setBank_bank]

/-! ## PPT (R86) -/

/-- The point of bank B is noted (R86). -/
def State.notePoint (s : State) : State := s.modCore fun c => { c with point := c.point || c.cur }

/-- PPT drains at once where a request is pending on a running core with no loop, and only notes the point elsewhere. -/
theorem exec_ppt_eq {f : FmtK} (hg : s.holds f.g = true) : exec (.ppt f) s =
    .next (if s.core.preReq.isSome && s.core.run == .running && !s.bank.loop.act then s.notePoint.startDrain else s.notePoint) := by
  rw [exec_ppt, execPpt, guarded_true _ hg]
  rfl

/-- A drain that starts stops dispatch in the active bank. -/
@[simp] theorem State.bank_startDrain (s : State) : s.startDrain.bank = { s.bank with draining := true, hold := .stopped } := by
  rw [State.startDrain, State.bank_modBank, State.bank_beginDrain]

/-- A drain that starts drains the core. -/
@[simp] theorem State.run_startDrain (s : State) : s.startDrain.core.run = .draining := by
  rw [State.startDrain, State.modBank_core, Core.setBank_run, State.run_beginDrain]

/-- With a request pending the bank drains from the end of a pass, a loop broken off or not. -/
theorem draining_passEnd_of_request (hq : s.core.preReq.isSome = true) (hr : s.core.run = .running) :
    (passEnd s).bank.draining = true := by
  simp [passEnd, hq, hr]

/-! ## HALT, TRAP and BRK (R87, R88) -/

/-- The waits of HALT are over: no earlier entry, result, store, push or copy of the task is left (log entry 122). -/
def State.haltRests (s : State) : Bool :=
  s.bank.issuedUpTo s.ctx.entry.seq && s.bank.resultsLanded && s.bank.storesTranslated && s.core.mesh.done && s.core.copiesRest

section Halt
variable {f : FmtK} (hg : s.holds f.g = true)
include hg

/-- HALT that waits stays at the head of its queue. -/
theorem exec_halt_waits (hr : s.haltRests = false) : exec (.halt f) s = .next s.putBack := by
  rw [exec_halt, execHalt, controlFlow_true _ hg]
  simp only [State.haltRests] at hr
  simp only [hr, Bool.not_false, if_true]

variable (hr : s.haltRests = true) (ht : takeSchedCause s = none)
include hr ht

/-- HALT whose waits are over traps 0x50 for a frozen copy, and else ends the task. -/
theorem exec_halt_of_rests : exec (.halt f) s =
    .next (s.core.frozenChan.elim (s.modBank fun b => { b with hold := .stopped, ending := true }) (trapFrozen s)) := by
  rw [exec_halt, execHalt, controlFlow_true _ hg]
  simp only [State.haltRests] at hr
  simp only [hr, ht, Bool.not_true, Bool.false_eq_true, if_false]
  cases s.core.frozenChan <;> rfl

end Halt

/-- TRAP and BRK, every other entry of the bundle issued, let dispatch go on and take their trap (R88, R97). -/
theorem softTrap_of_issued {f : FmtTC} (cause : BitVec 8) (hg : s.holds f.g = true) (hi : s.bank.issuedUpTo s.ctx.entry.seq = true) :
    softTrap cause f s = .next (s.fallThrough.takeTrap
      ⟨cause, .atIssue, slotMask .s, s.ctx.entry.pc, s.ctx.entry.rep, f.code.setWidth 64, f.code.setWidth 64, 0⟩) := by
  rw [softTrap, controlFlow_true _ hg, hi]
  rfl

end Sys2Proof.Machine
end

section
/-! Proofs of the obligations O8, O9, O11 and O20 (spec/06 R83 to R88). -/
namespace Sys2Proof.Machine

/-- Settles O8: each transfer with its target, good or bad; the link of CALL lands in the state that has jumped. -/
theorem branchesTransfer : Obligations.BranchesTransfer := by
  unfold Obligations.BranchesTransfer
  refine ⟨fun f s hg => ?_, fun f s hg => ?_, targetOk_iff⟩ <;> intro t
  · rw [exec_br, execBr, exec_call, execCall]
    exact ⟨fun ht => ⟨controlFlow_transfer_of_ok id hg ht, _, controlFlow_transfer_of_ok _ hg ht, State.landX_lands _ _ _ _ le_rfl⟩,
      fun ht => ⟨controlFlow_transfer_of_bad _ hg ht, controlFlow_transfer_of_bad _ hg ht⟩⟩
  · rw [exec_jmp, execJmp, exec_ret, execRet]
    exact ⟨fun ht => ⟨controlFlow_transfer_of_ok id hg ht, controlFlow_transfer_of_ok id hg ht⟩,
      fun ht => ⟨controlFlow_transfer_of_bad _ hg ht, controlFlow_transfer_of_bad _ hg ht⟩⟩

/-- Settles O9: a loop's start case by case, for the count of LOOP and that of LOOPI, which is always below 2 ^ 32; LBRK in and outside
a loop. -/
theorem loopsStartAndBreak : Obligations.LoopsStartAndBreak := by
  unfold Obligations.LoopsStartAndBreak
  refine ⟨fun f s => ?_, fun f s hg => ⟨exec_lbrk_of_loop hg, exec_lbrk_of_no_loop hg⟩⟩
  intro start bytes started x
  have hlt : (f.cnt.setWidth 64).toNat < 2 ^ 32 := by
    rw [BitVec.toNat_setWidth_of_le (by omega)]
    omega
  have hcnt : f.cnt.setWidth 32 = (f.cnt.setWidth 64).setWidth 32 := (BitVec.setWidth_setWidth_of_le _ (by omega)).symm
  rw [exec_loop, execLoop, exec_loopi, execLoopi, hcnt]
  exact ⟨fun hg hb => ⟨startLoop_begins hg hlt hb, fun hx => startLoop_begins hg hx hb⟩, fun hg hx => startLoop_of_tooMany hg hx,
    fun hg hb => ⟨startLoop_of_beyond hg hlt hb, fun hx => startLoop_of_beyond hg hx hb⟩,
    fun hg => ⟨startLoop_of_false hg, startLoop_of_false hg⟩⟩

/-- Settles O11: PPT by request, loop and run state, and the end of a pass with a request. -/
theorem preemptionPointActs : Obligations.PreemptionPointActs := by
  unfold Obligations.PreemptionPointActs
  intro f s hg noted
  rw [exec_ppt_eq hg]
  refine ⟨fun hq => ?_, fun hq ha => ?_, fun hr => ?_, fun hq ha hr => ?_,
    fun hq hr => ⟨run_passEnd_of_request hq hr, draining_passEnd_of_request hq hr⟩⟩
  · rw [hq]
    rfl
  · rw [ha, Bool.not_true, Bool.and_false]
    rfl
  · rw [beq_eq_false_iff_ne.mpr hr, Bool.and_false]
    rfl
  · rw [hq, ha, hr]
    exact ⟨noted.startDrain, rfl, rfl, State.run_startDrain _, by rw [State.bank_startDrain], by rw [State.bank_startDrain]; rfl⟩

/-- Settles O20: HALT by what it still waits for and by a frozen copy; TRAP and BRK are one trap with two causes. -/
theorem tasksHaltAndTrap : Obligations.TasksHaltAndTrap := by
  unfold Obligations.TasksHaltAndTrap
  refine ⟨fun f s hg => ⟨fun hr ht hf => ?_, fun hr ht n hf => ?_, exec_halt_waits hg⟩, fun f s hg hi => ?_⟩
  · rw [exec_halt_of_rests hg hr ht, hf]
    rfl
  · rw [exec_halt_of_rests hg hr ht, hf]
    rfl
  · rw [exec_trap, execTrap, exec_brk, execBrk]
    exact ⟨softTrap_of_issued 0x10 hg hi, softTrap_of_issued 0x16 hg hi⟩

end Sys2Proof.Machine
end

section
/-! SUPPORT. A freeze that completes, by what it waits for and by the policy of its cause (spec/07 R99, R103; spec/24 R344). -/
namespace Sys2Proof.Machine

/-! ## The trap policy (R344) -/

/-- The policy that the front end has for a cause: the low two bits of its entry. -/
abbrev State.policyCode (s : State) (cause : BitVec 8) : Nat := ((s.policyOf cause).extractLsb' 0 2).toNat

section Policy
variable {s : State} {t : Trap} (ht : s.core.trap = some t)
include ht

/-- Policy 0 resumes the core. -/
theorem applyPolicy_of_resume (hp : s.policyCode t.cause = 0) : applyPolicy s = s.resume := by
  simp only [applyPolicy, ht, hp]

/-- Policy 1 records the trap. -/
theorem applyPolicy_of_record (hp : s.policyCode t.cause = 1) : applyPolicy s = recordTrap s := by
  simp only [applyPolicy, ht, hp]

/-- Policy 2 records a trap that is no translation fault. -/
theorem applyPolicy_of_noFault (hp : s.policyCode t.cause = 2) (hc : t.cause.extractLsb' 4 4 ≠ 7) :
    applyPolicy s = recordTrap s := by
  simp only [applyPolicy, ht, hp, if_neg hc]

/-- Policy 2 asks for the page of a translation fault while the core is held. -/
theorem applyPolicy_of_fault (hp : s.policyCode t.cause = 2) (hc : t.cause.extractLsb' 4 4 = 7) :
    applyPolicy s = (s.modCore fun c => { c with hold := true, polAt := s.tick }).pageAnew (.trap s.coreNo)
      (s.bankOf s.core.trapBank).asid t.addr.toNat (accessNeed s.core t.addr).1 (accessNeed s.core t.addr).2 := by
  simp only [applyPolicy, ht, hp, if_pos hc]
  rfl

/-- Policy 3 ends the core's launch with STATUS 1. -/
theorem applyPolicy_of_end {l : Launch} (hp : s.policyCode t.cause = 3) (hl : s.launchOf s.core.launch = some l) :
    applyPolicy s = endLaunch l 1 t.cause s := by
  simp only [applyPolicy, ht, hp, hl]

/-- Policy 3 frees a core whose launch is gone. -/
theorem applyPolicy_of_end_unlaunched (hp : s.policyCode t.cause = 3) (hl : s.launchOf s.core.launch = none) :
    applyPolicy s = s.modCore Core.freed := by
  simp only [applyPolicy, ht, hp, hl]

end Policy

/-! ## The freeze (R99, R348) -/

/-- The frozen state of a core whose freeze may complete: its results in the snapshot buffer, its trap recorded. -/
def State.frozenRecorded (s : State) : State := ((takeSnapshot s).modCore fun c => { c with run := .frozen }).writeRecord

section Freeze
variable {s : State} (hr : s.core.run = .freezing)
include hr

/-- A freeze that may not complete yet ends its waits alone. -/
theorem exec_freezeComplete_of_notReady (h : (freezeWaits s).core.freezeReady = false) :
    exec .freezeComplete s = .next (freezeWaits s) := by
  rw [exec_freezeComplete, execFreezeComplete, if_neg (not_not.mpr hr)]
  simp only [h, Bool.not_false, if_true]

/-- A Collie core stops at its freeze. -/
theorem exec_freezeComplete_of_collie (h : (freezeWaits s).core.freezeReady = true) (hc : (freezeWaits s).core.collie = true) :
    exec .freezeComplete s = .next (freezeWaits s).collieStop := by
  rw [exec_freezeComplete, execFreezeComplete, if_neg (not_not.mpr hr)]
  simp only [h, hc, Bool.not_true, Bool.false_eq_true, if_false, if_true]

/-- On a compute core the policy acts on the frozen state. -/
theorem exec_freezeComplete_of_ready (h : (freezeWaits s).core.freezeReady = true) (hc : (freezeWaits s).core.collie = false) :
    exec .freezeComplete s = .next (applyPolicy (freezeWaits s).frozenRecorded) := by
  rw [exec_freezeComplete, execFreezeComplete, if_neg (not_not.mpr hr)]
  simp only [h, hc, Bool.not_true, Bool.false_eq_true, if_false, State.frozenRecorded]

end Freeze

/-- CCTL resumes a frozen compute core, which waits for no page any more (R396). -/
theorem exec_cctlResume_of_frozen {s : State} {n : Nat} (hn : n < 128) (hr : (s.focus n).core.run = .frozen) :
    exec (.cctlResume n) s = .next ((((s.focus n).dropWaiter (.trap n)).resume).focus s.coreNo) := by
  rw [exec_cctlResume, execCctlResume, if_pos hn, State.onCore, if_pos hr]

/-- The host ends a launch that it names with STATUS 3 (R396). -/
theorem exec_launchEnd_of_launch {s : State} {q : Nat} {k : BitVec 32} {l : Launch} (hl : s.launchOf (some (q, k)) = some l) :
    exec (.launchEnd q k) s = .next (endLaunch l 3 0 s) := by
  rw [exec_launchEnd, execLaunchEnd, hl]

end Sys2Proof.Machine
end

section
/-! SUPPORT. Drains, imposed causes and saved contexts (spec/07 R110 to R114; spec/24 R340). -/
namespace Sys2Proof.Machine

/-! ## Drains (R111) -/

/-- A drained core whose copies rest is parked. -/
theorem exec_taskParked_of_drained {s : State} (hd : s.core.drained = true) (hc : s.core.copiesParked = true) :
    exec .taskParked s = .next (s.modCore fun c => { c with run := .parked }) := by
  rw [exec_taskParked, execTaskParked, hd, hc]
  rfl

/-- At the drain bound of a drained core the copies that are left are aborted. -/
theorem exec_drainBoundExpiry_of_due {s : State} {t : Nat} (hd : s.core.drained = true) (ht : s.core.drainAt = some t)
    (hb : s.core.drainB ≠ 0) (hdue : t + s.core.drainB.toNat ≤ s.tick) :
    exec .drainBoundExpiry s = .next (s.modCore fun c => { c with chans := c.chans.map Channel.abortAtDrain }) := by
  simp only [exec_drainBoundExpiry, execDrainBoundExpiry, ht, hd, bne_iff_ne.mpr hb, hdue, decide_true, Bool.and_self, if_true]

/-! ## Imposed causes (R114, R340) -/

/-- A late task takes 0xB0 with the ticks since the request (R114). -/
theorem exec_preemptionEscalation_of_late {s : State} {t : Nat} (ht : s.core.preReq = some t) (hb : s.core.preB ≠ 0)
    (hdue : t + s.core.preB.toNat ≤ s.tick) : exec .preemptionEscalation s =
      .next (impose (s.imposed 0xB0 (BitVec.ofNat 64 (s.tick - t)) (bit s.bank.inSync ++ (0 : BitVec 63))) s) := by
  simp only [exec_preemptionEscalation, execPreemptionEscalation, ht, bne_iff_ne.mpr hb, hdue, decide_true, Bool.and_self, if_true]

/-- A core that issues freezes with the trap (R96). -/
theorem State.takeTrapIn_of_issues {s : State} (h : s.core.run = .running ∨ s.core.run = .draining) (isB : Bool) (t : Trap) :
    s.takeTrapIn isB t = s.modCore fun c =>
      { c with run := .freezing, trap := some t, trapBank := isB, freezeAt := s.cycle, mesh := { c.mesh with frz := true } } := by
  rcases h with h | h
  · exact State.takeTrapIn_of_running h isB t
  · rw [State.takeTrapIn, h]

section Imposed
variable {s : State} (h : s.core.run = .running ∨ s.core.run = .draining)
include h

/-- A core that issues takes an imposed cause as a trap of its active bank. -/
theorem impose_of_issues (t : Trap) : impose t s = s.takeTrapIn s.core.cur t := by
  rcases h with h | h <;> rw [impose, h] <;> rfl

/-- A core that issues freezes with an imposed cause. -/
theorem impose_freezes (t : Trap) : (impose t s).core.run = .freezing ∧ (impose t s).core.trap = some t := by
  rw [impose_of_issues h, State.takeTrapIn_of_issues h]
  exact ⟨rfl, rfl⟩

/-- A task past its watchdog takes 0xB1, once (R340). -/
theorem exec_watchdogExpiry_of_late (hw : s.core.wdogB ≠ 0) (hl : s.core.launch.isSome = true)
    (hdue : s.core.released + s.core.wdogB.toNat ≤ s.tick) : exec .watchdogExpiry s =
      .next ((impose (s.imposed 0xB1 (Config.unstated 0xB1 1) (Config.unstated 0xB1 2)) s).modCore fun c =>
        { c with wdogB := 0 }) := by
  have hhalt : s.core.run ≠ .halted := by rcases h with h | h <;> rw [h] <;> decide
  have hpark : s.core.run ≠ .parked := by rcases h with h | h <;> rw [h] <;> decide
  have hnone : ¬ s.core.launch.isNone = true := by rw [Option.isNone_eq_false_iff.mpr hl]; decide
  rw [exec_watchdogExpiry, execWatchdogExpiry]
  exact if_neg (not_or.mpr ⟨hw, not_or.mpr ⟨hnone, not_or.mpr ⟨hhalt, not_or.mpr ⟨hpark, hdue.not_gt⟩⟩⟩⟩)

end Imposed

/-! ## Saved contexts (R113) -/

/-- The context `c` that returns to a core, `old` as it stands: it keeps what the core has counted, the stores it still performs and its
credit, and is released at `tick`. -/
def Core.returned (c old : Core) (tick : Nat) : Core :=
  { c with
    bankA := { c.bankA.resumeMonitor with posted := old.bankA.posted ++ c.bankA.posted },
    bankB := { c.bankB.resumeMonitor with posted := old.bankB.posted ++ c.bankB.posted },
    chans := (c.chans.map (resumeCopy c.discards)).zipWith Channel.joinCredits old.chans,
    run := .parked, releaseAt := some tick, trapSeq := old.trapSeq, records := old.records, nextId := old.nextId }

/-- A saved context returns to its core, which is free, at least two ticks before its release (R113). -/
theorem exec_contextResume_of_saved {s : State} {n : Nat} {c : Core} (hl : s.core.launch = none) (hr : s.core.run = .halted)
    (hc : (s.saved.find? fun p => p.1 == s.coreNo) = some (n, c)) : ∃ k d, exec .contextResume s =
      .next { s with
        choices := d, saved := s.saved.eraseP fun p => p.1 == s.coreNo, core := c.returned s.core (s.tick + 2 + k) } := by
  obtain ⟨d, hd⟩ := State.choose_state s (2 ^ 32)
  refine ⟨(s.choose (2 ^ 32)).1, d, ?_⟩
  rw [exec_contextResume, execContextResume, hl, hr, hc]
  simp only [hd]
  rfl

end Sys2Proof.Machine
end

section
/-! SUPPORT. The end of a task, by what becomes of the core (spec/06 R87, spec/24 R342). -/
namespace Sys2Proof.Machine

/-- A new active bank leaves the other bank as it is. -/
theorem Core.bankOf_other_setBank (c : Core) (b : Bank) : (c.setBank b).bankOf (!c.cur) = c.bankOf (!c.cur) := by
  cases hc : c.cur <;> simp [Core.setBank, Core.bankOf, hc]

/-- What the end of the active bank's task releases: bank B its arming, bank A its windows, gather queue and schedule. -/
abbrev State.endReleased (s : State) : State :=
  if s.core.cur then s.modCore fun c => { c with arm := false }
  else s.modCore fun c => { c with wins := c.wins.map Window.released, gq := [], sched := [] }

/-- The active bank with its task ended and its monitor disarmed. -/
abbrev State.bankEnded (s : State) : State :=
  s.endReleased.modBank fun b =>
    { b with ending := false, ended := true, monaddr := b.monaddr &&& ~~~1, monLine := none, monSeen := [] }

/-- The active bank's task ended, and counted in its launch no more. -/
def State.taskEnded (s : State) : State :=
  s.bankEnded.modLaunch s.core.launch fun l => { l with tasks := l.tasks.filter (· != (s.coreNo, s.core.cur)) }

/-- The core halted after the last of its tasks. -/
def State.coreEnded (s : State) : State :=
  s.taskEnded.modCore fun c => { c.dropCredits with run := .halted, launch := none, preReq := none, drainAt := none }

/-- The release leaves which bank is active, the core's launch and the other bank. -/
theorem State.endReleased_frame (s : State) : s.endReleased.core.cur = s.core.cur ∧ s.endReleased.core.launch = s.core.launch ∧
    s.endReleased.coreNo = s.coreNo ∧ s.endReleased.core.bankOf (!s.core.cur) = s.core.bankOf (!s.core.cur) := by
  rw [State.endReleased]
  split <;> exact ⟨rfl, rfl, rfl, rfl⟩

/-- The end of the active bank's task leaves the core's launch, its number and its other bank. -/
theorem State.bankEnded_frame (s : State) : s.bankEnded.core.launch = s.core.launch ∧ s.bankEnded.coreNo = s.coreNo ∧
    s.bankEnded.core.bankOf (!s.core.cur) = s.core.bankOf (!s.core.cur) := by
  obtain ⟨hcur, hlaunch, hno, hother⟩ := s.endReleased_frame
  rw [← hcur] at hother ⊢
  exact ⟨(Core.setBank_launch _ _).trans hlaunch, hno, (Core.bankOf_other_setBank _ _).trans hother⟩

/-- The task of bank A does not end while a window of it waits for rows (R87, R242). -/
theorem exec_taskEnd_of_waiting {s : State} (hc : s.core.cur = false) (hw : s.core.wins.toList.any Window.holdsEnd = true) :
    exec .taskEnd s = .next s := by
  rw [exec_taskEnd, execTaskEnd, hc, hw, if_pos (by simp)]

section Ends
variable {s : State} (he : s.bank.ending = true) (hw : s.core.cur = true ∨ s.core.wins.toList.any Window.holdsEnd = false)
include he hw

/-- The end of a task that no window holds: the other bank goes on, or the core halts. -/
theorem exec_taskEnd_eq : exec .taskEnd s =
    if !(s.core.bankOf !s.core.cur).ended then
      .next (if (s.core.bankOf !s.core.cur).xfault then s.taskEnded else s.taskEnded.toOtherBank)
    else match s.coreEnded.launchOf s.core.launch with
      | some l => .next (if l.tasks.isEmpty then completeLaunch l 0 0 s.coreEnded else s.coreEnded)
      | none => .next s.coreEnded := by
  obtain ⟨hlaunch, hno, hother⟩ := s.bankEnded_frame
  have hends : ¬ (!s.bank.ending || (!s.core.cur && s.core.wins.toList.any Window.holdsEnd)) = true := by
    rw [he]
    rcases hw with h | h <;> simp [h]
  have hother' : s.taskEnded.core.bankOf (!s.core.cur) = s.core.bankOf (!s.core.cur) := hother
  rw [exec_taskEnd, execTaskEnd, if_neg hends, ← hother']
  simp only [hlaunch, hno]
  rfl

/-- The other bank's task goes on. -/
theorem exec_taskEnd_of_other (ho : (s.core.bankOf !s.core.cur).ended = false) (hx : (s.core.bankOf !s.core.cur).xfault = false) :
    exec .taskEnd s = .next s.taskEnded.toOtherBank := by
  rw [exec_taskEnd_eq he hw, ho, hx]
  rfl

/-- The other bank's task goes on once its translation fault is served. -/
theorem exec_taskEnd_of_other_waits (ho : (s.core.bankOf !s.core.cur).ended = false)
    (hx : (s.core.bankOf !s.core.cur).xfault = true) : exec .taskEnd s = .next s.taskEnded := by
  rw [exec_taskEnd_eq he hw, ho, hx]
  rfl

/-- After its last task a core whose launch is gone halts. -/
theorem exec_taskEnd_of_unlaunched (ho : (s.core.bankOf !s.core.cur).ended = true)
    (hl : s.coreEnded.launchOf s.core.launch = none) : exec .taskEnd s = .next s.coreEnded := by
  rw [exec_taskEnd_eq he hw, ho, hl]
  rfl

/-- After its last task a core halts, and with the last task of the launch the launch completes (R342). -/
theorem exec_taskEnd_of_launch {l : Launch} (ho : (s.core.bankOf !s.core.cur).ended = true)
    (hl : s.coreEnded.launchOf s.core.launch = some l) :
    exec .taskEnd s = .next (if l.tasks = [] then completeLaunch l 0 0 s.coreEnded else s.coreEnded) := by
  rw [exec_taskEnd_eq he hw, ho, hl, ← if_congr List.isEmpty_iff rfl rfl]
  rfl

end Ends

end Sys2Proof.Machine
end

section
/-! Proof of the obligation O39 (spec/07 R99 to R114; spec/24 R340 to R344, R396). -/
namespace Sys2Proof.Machine

/-- Settles O39: each event by its own equation; a completed freeze acts as the policy of its cause says, an imposed cause freezes a
core that issues, and the end of a task leaves the other bank, by whose task the core goes on or halts. -/
theorem freezeAndTaskEventsAct : Obligations.FreezeAndTaskEventsAct := by
  unfold Obligations.FreezeAndTaskEventsAct
  refine ⟨fun s hr h hc => ?_, fun s hr => ⟨exec_freezeComplete_of_collie hr, exec_freezeComplete_of_notReady hr⟩,
    fun s n => exec_cctlResume_of_frozen, fun s q k l => exec_launchEnd_of_launch,
    fun s hd => ⟨exec_taskParked_of_drained hd, fun t => exec_drainBoundExpiry_of_due hd⟩, fun s h => ⟨fun t ht hb hdue => ?_,
    fun hw hl hdue => ?_⟩, fun s n c hl hr hc => ?_, fun s h => ?_, fun s he hw => ?_, fun s => exec_taskEnd_of_waiting⟩
  · intro z t ht pol
    have hact {u : State} (hu : applyPolicy z = u) : exec .freezeComplete s = .next u :=
      hu ▸ exec_freezeComplete_of_ready hr h hc
    exact ⟨fun hp => hact (applyPolicy_of_resume ht hp), fun hp => hact (applyPolicy_of_record ht hp),
      fun hp hf => hact (applyPolicy_of_noFault ht hp hf), fun hp hf => hact (applyPolicy_of_fault ht hp hf),
      fun hp => ⟨fun l hl => hact (applyPolicy_of_end ht hp hl), fun hl => hact (applyPolicy_of_end_unlaunched ht hp hl)⟩⟩
  · obtain ⟨hrun, htrap⟩ := impose_freezes h (s.imposed 0xB0 (BitVec.ofNat 64 (s.tick - t)) (bit s.bank.inSync ++ (0 : BitVec 63)))
    exact ⟨_, exec_preemptionEscalation_of_late ht hb hdue, hrun, _, htrap⟩
  · obtain ⟨hrun, htrap⟩ := impose_freezes h (s.imposed 0xB1 (Config.unstated 0xB1 1) (Config.unstated 0xB1 2))
    exact ⟨_, exec_watchdogExpiry_of_late h hw hl hdue, hrun, rfl, _, _, _, htrap⟩
  · obtain ⟨k, d, hk⟩ := exec_contextResume_of_saved hl hr hc
    exact ⟨_, hk, rfl, ⟨_, Nat.le_add_right _ k, rfl⟩, rfl, rfl, rfl, rfl, rfl, rfl⟩
  · rw [exec_bankSwitchBack, execBankSwitchBack, if_pos h]
  · intro isB r u v other
    exact ⟨exec_taskEnd_of_other he hw, exec_taskEnd_of_other_waits he hw, fun ho => ⟨exec_taskEnd_of_unlaunched he hw ho,
      fun l hl => ⟨fun ht => (exec_taskEnd_of_launch he hw ho hl).trans (by rw [if_pos ht]; rfl),
        fun ht => (exec_taskEnd_of_launch he hw ho hl).trans (by rw [if_neg ht]; rfl)⟩⟩⟩

end Sys2Proof.Machine
end

section
/-! SUPPORT. The shape that every V instruction shares (spec/10 R148 to R150): what its issue does when the operation is ready and none of
its flags traps. -/
namespace Sys2Proof.Machine

/-- Flags of which none is enabled for a trap are raised for the end of the cycle, and the operation goes on (R129). -/
theorem State.withFlags_of_noFlagTrap {fl : List Flags} {s : State} (go : State → State) (h : NoFlagTrap fl s) :
    s.withFlags fl go = go (s.modBank fun b => { b with vflagsNow := b.vflagsNow ||| joinFlags fl }) := if_pos h

section Ready
variable {f : VOp} {srcs : List (BitVec 7)} {whole full : Bool} {direct : State → VDirect} {us : List Use} {s : State}

/-- An operation that is ready passes the checks of R150 one after the other, and has read its sources when its flags are raised. -/
theorem vIssueW_of_ready (k : VIn → List Use → VEffect) (h : VReady f srcs whole full (direct s) us s)
    (hfl : NoFlagTrap (k (vRead f srcs whole us s) us).fl (vAfterRead f srcs whole us s)) :
    vIssueW full f srcs whole direct k s =
      (k (vRead f srcs whole us s) us).go (vBase f srcs whole us (k (vRead f srcs whole us s) us).fl s) := by
  obtain ⟨-, hplan, haddrs, hpassed, hcorrect⟩ := h
  rw [vAfterRead] at hcorrect
  simp only [vIssueW, hplan, haddrs, hpassed, hcorrect]
  exact State.withFlags_of_noFlagTrap _ hfl

/-- A guarded operation that issues in the shared shape acts by its effect. -/
theorem guarded_acts {go : State → State} {k : VIn → List Use → VEffect} (h : go s = vIssueW full f srcs whole direct k s) :
    VActs f srcs whole full (direct s) k s (guarded f.g s go) := fun us hready hfl => by
  rw [guarded_true _ hready.guard, h, vIssueW_of_ready k hready hfl]

end Ready
end Sys2Proof.Machine
end

section
/-! Proof of the obligation O28 (spec/10 R132, R133, R164, R165). -/
namespace Sys2Proof.Machine

/-- Settles O28: each reduction is a guarded operation of the shared shape, and its effect is the combination of its nodes that the
statement writes out. VRDOT's nodes are pairs of leaves, on which statement and model agree before their trees are compared. -/
theorem vectorReductionResults : Obligations.VectorReductionResults := by
  unfold Obligations.VectorReductionResults
  intro f s reduced
  have hreduce (fcomb : VIn → Nat → Nat → Flagged Nat) (icomb : Int → Int → Int) (fleaf : Nat → Nat) (ileaf : Int → Int) :
      VActs f [f.a] false false .none (reduced fcomb icomb fleaf ileaf) s (vReduce f fcomb icomb fleaf ileaf s) := by
    rw [vReduce]
    exact guarded_acts (direct := fun _ => .none) (by rw [vIssue])
  clear_value reduced
  refine ⟨hreduce _ _ _ _, hreduce _ _ _ _, hreduce _ _ _ _, hreduce _ _ _ _, ?_, ?_⟩
  · rw [exec_vrdot, execVrdot]
    refine guarded_acts (direct := fun _ => .none) (congrArg (vIssueW false f [f.a, f.b] false _ · s) (funext₂ fun v _ => ?_))
    extract_lets l w l'
    have hpairs : l = l' := rfl
    clear_value l l'
    rw [hpairs]
  · rw [exec_vpsum, execVpsum]
    exact guarded_acts (direct := fun _ => .none) rfl

end Sys2Proof.Machine
end

section
/-! SUPPORT. Stream control (spec/10 R172, R173): what ZSET, ZRST and ZSTEP do by the check that fails first. -/
namespace Sys2Proof.Machine

/-! ## ZSET and ZRST (R172) -/

section Load
variable {f : VOp} {g : Desc → Desc} {s : State}

/-- A descriptor at an address that is not a multiple of 64 traps 0x37. -/
theorem loadDesc_of_misaligned (h : descAddr f s % 64 ≠ 0) :
    loadDesc f g s = s.trapAddr 0x37 (BitVec.ofNat 64 (descAddr f s)) := if_pos h

/-- An aligned descriptor that is not all inside the scratchpad traps 0x30. -/
theorem loadDesc_of_outside (h : descAddr f s % 64 = 0) (ho : s.core.spadSize < descAddr f s + 64) :
    loadDesc f g s = s.trapAddr 0x30 (BitVec.ofNat 64 (descAddr f s)) :=
  (if_neg (not_not_intro h)).trans (if_pos ho)

/-- A descriptor that can be read, and that passes its checks as `g` leaves it, is tracked. -/
theorem loadDesc_of_good (h : descAddr f s % 64 = 0) (hi : descAddr f s + 64 ≤ s.core.spadSize)
    (hfree : s.core.frozenAccess [spanBytes [(descAddr f s, 64)]] = none ∧ s.badByte [(descAddr f s, 64)] = none)
    (hd : Desc.cause (g (BitVec.ofNat 512 (s.core.spad.num (descAddr f s) 64))) = none) :
    loadDesc f g s =
      s.track [⟨.z, f.d.toNat⟩] (g (BitVec.ofNat 512 (s.core.spad.num (descAddr f s) 64))) streamBound := by
  obtain ⟨hpassed, hcorrect⟩ := hfree
  simp only [loadDesc, if_neg (not_not_intro h), if_neg (Nat.not_lt.mpr hi), hpassed, hcorrect, hd]

end Load

/-! ## ZSTEP (R173) -/

section Step
variable {f : VOp} {s : State} (hg : s.holds f.g = true) (hz : (s.zreg f.d.toNat).cause = none)
include hg hz

/-- A step past the uses that a stream has left traps 0x33. -/
theorem execZstep_of_exhausted (h : Desc.left (s.zreg f.d.toNat) < f.imm.toNat) : execZstep f s = .next (s.trapPlain 0x33) := by
  rw [execZstep, guarded_true _ hg]
  simp only [hz, if_pos h]

/-- A step within the uses that a stream has left is tracked. -/
theorem execZstep_of_left (h : f.imm.toNat ≤ Desc.left (s.zreg f.d.toNat)) :
    execZstep f s = .next (s.trackKind [⟨.z, f.d.toNat⟩] (.zstep f.imm.toNat) streamBound) := by
  rw [execZstep, guarded_true _ hg]
  simp only [hz, if_neg (Nat.not_lt.mpr h)]

end Step
end Sys2Proof.Machine
end

section
/-! Proof of the obligation O31 (spec/10 R172 to R175; R119). -/
namespace Sys2Proof.Machine

/-- Settles O31: the case of each operation that its checks leave, and the laws of a tracked operation and of a result under way. -/
theorem streamControlResults : Obligations.StreamControlResults := by
  unfold Obligations.StreamControlResults
  intro f s hg n a d z free
  have htracks {g : Desc → Desc} (hal : n % 64 = 0) (hin : n + 64 ≤ s.core.spadSize) (hfree : free) (hd : Desc.cause (g d) = none) :
      Answers (guarded f.g s (loadDesc f g)) (Tracks s [⟨.z, f.d.toNat⟩] (g d) streamBound) :=
    guarded_answers hg (loadDesc_of_good hal hin hfree hd ▸ s.track_tracks _ _ _ (by decide))
  have hloads {g : Desc → Desc} {t : State} (h : loadDesc f g s = t) : guarded f.g s (loadDesc f g) = .next t :=
    h ▸ guarded_true _ hg
  refine ⟨htracks (g := id), htracks (g := Desc.rewound), fun hal hout => ?_, fun hal => ?_, fun hz hleft => ?_, execZstep_of_exhausted hg, ?_, ?_, ?_⟩
  · exact ⟨hloads (loadDesc_of_outside hal hout), hloads (loadDesc_of_outside hal hout)⟩
  · exact ⟨hloads (loadDesc_of_misaligned hal), hloads (loadDesc_of_misaligned hal)⟩
  · exact ⟨_, execZstep_of_left hg hz hleft, s.trackKind_tracks _ _ _ (by decide)⟩
  · rw [exec_zget, execZget]
    exact guarded_answers hg (s.land_lands _ _ _ 3 (by decide))
  · rw [exec_zchk, execZchk]
    exact guarded_answers hg (s.landX_lands _ _ 3 (by decide))
  · rw [exec_sfmt, execSfmt]
    exact guarded_answers hg (State.land_lands _ _ _ _ 2 (by decide))

end Sys2Proof.Machine
end

section
/-! SUPPORT. A V instruction computed lane by lane (spec/10 R148 to R150). -/
namespace Sys2Proof.Machine

/-- An operation of the lane by lane shape writes its destination lane by lane. -/
theorem vLanes_writes (f : VOp) (srcs : List (BitVec 7)) (bound : Nat) (g : VIn → Nat → Flagged (BitVec 32)) (s : State) :
    VWrites f srcs bound g s (vLanes f srcs false bound g s) :=
  guarded_acts (direct := fun _ => .none) rfl

end Sys2Proof.Machine
end

section
/-! Proof of the obligation O25 (spec/10 R135, R155, R156). -/
namespace Sys2Proof.Machine

/-- Settles O25: each compare is a guarded operation of the shared shape whose effect is the mask that the statement writes out.
A floating relation is quiet (INV for a signalling NaN alone) or ordered (INV for any NaN), an integer one raises nothing, and VSEL
writes lane by lane. -/
theorem vectorCompareResults : Obligations.VectorCompareResults := by
  unfold Obligations.VectorCompareResults
  intro f s compared
  have hcompare (rel : VIn → BitVec 32 → BitVec 32 → Flagged Bool) :
      VActs f [f.a, f.b] false false .none (compared rel) s (vCmp f rel s) :=
    guarded_acts (direct := fun _ => .none) rfl
  clear_value compared
  have hquiet (rel : FVal → FVal → Bool) :
      VActs f [f.a, f.b] false false .none
        (compared fun v a b => ⟨rel (v.num fp32 a.toNat) (v.num fp32 b.toNat),
          flagIf ((v.num fp32 a.toNat).isSig || (v.num fp32 b.toNat).isSig) fINV⟩)
        s (vCmpF f rel (fun x y => x.isSig || y.isSig) s) := hcompare _
  have hordered (rel : FVal → FVal → Bool) :
      VActs f [f.a, f.b] false false .none
        (compared fun v a b => ⟨rel (v.num fp32 a.toNat) (v.num fp32 b.toNat),
          flagIf ((v.num fp32 a.toNat).isNan || (v.num fp32 b.toNat).isNan) fINV⟩)
        s (vCmpF f rel (fun x y => x.isNan || y.isNan) s) := hcompare _
  have hint (rel : BitVec 32 → BitVec 32 → Bool) :
      VActs f [f.a, f.b] false false .none (compared fun _ a b => ⟨rel a b, 0⟩) s (vCmpI f rel s) := hcompare _
  exact ⟨hquiet fEq, hquiet fun x y => !fEq x y, hordered fLt, hordered fun x y => fLt x y || fEq x y,
    hquiet fun x y => x.isNan || y.isNan, hquiet fun x y => !(x.isNan || y.isNan),
    hint (· == ·), hint BitVec.slt, hint BitVec.ult, vLanes_writes f [f.a, f.b] 2 _ s⟩

end Sys2Proof.Machine
end

section
/-! SUPPORT. The shapes that V instructions are made of, as writes of their lanes: element by element, a shift, one value of each lane,
a movement of whole lanes (spec/10 R148, R157, R158, R166). -/
namespace Sys2Proof.Machine

section Shapes
variable (f : VOp) (s : State)

/-- An operation of the lane by lane shape acts by the write of its lanes, also where it reads its sources whole. -/
theorem vLanes_acts (srcs : List (BitVec 7)) (whole : Bool) (bound : Nat) (g : VIn → Nat → Flagged (BitVec 32)) :
    VActs f srcs whole false .none
      (fun v us => vWrite f v us bound ((List.range 128).map fun i => if v.on i then g v i else ⟨0, 0⟩) s.core.spad) s
      (vLanes f srcs whole bound g s) :=
  guarded_acts (direct := fun _ => .none) rfl

/-- An operation on the elements of one source writes its destination element by element. -/
theorem vEl1_writes (bound : Nat) (g : VIn → Nat → Flagged Nat) : VWrites f [f.a] bound (each1 f g) s (vEl1 f bound g s) :=
  vLanes_writes f [f.a] bound (each1 f g) s

/-- An operation on the elements of two sources writes its destination element by element. -/
theorem vEl2_writes (bound : Nat) (g : VIn → Nat → Nat → Flagged Nat) :
    VWrites f [f.a, f.b] bound (each2 f g) s (vEl2 f bound g s) :=
  vLanes_writes f [f.a, f.b] bound (each2 f g) s

/-- An operation on the elements of three sources writes its destination element by element. -/
theorem vEl3_writes (bound : Nat) (g : VIn → Nat → Nat → Nat → Flagged Nat) :
    VWrites f [f.a, f.b, f.c] bound (each3 f g) s (vEl3 f bound g s) :=
  vLanes_writes f [f.a, f.b, f.c] bound (each3 f g) s

/-- An operation on one value of each lane writes its destination lane by lane. -/
theorem vLow_writes (bound : Nat) (g : VIn → BitVec 32 → Flagged (BitVec 32)) :
    VWrites f [f.a] bound (fun v i => g v (v.a.lane i)) s (vLow f bound g s) :=
  vLanes_writes f [f.a] bound _ s

variable {f}

/-- With IMM[15] set a shift takes its amount from IMM and reads one source (R157). -/
theorem vShift_writes_of_imm (g : Nat → Nat → Nat → Nat) (h : f.imm.getLsbD 15 = true) :
    VWrites f [f.a] 2 (each1 f fun _ a => ⟨g (tyWidth f.ty) a (f.imm.toNat % 32), 0⟩) s (vShift f g s) := by
  rw [vShift, if_pos h]
  exact vEl1_writes f s 2 _

/-- With IMM[15] clear a shift takes its amounts from the elements of b (R157). -/
theorem vShift_writes_of_reg (g : Nat → Nat → Nat → Nat) (h : f.imm.getLsbD 15 = false) :
    VWrites f [f.a, f.b] 2 (each2 f fun _ a b => ⟨g (tyWidth f.ty) a b, 0⟩) s (vShift f g s) := by
  rw [vShift, if_neg (Bool.not_eq_true _ ▸ h)]
  exact vEl2_writes f s 2 _

end Shapes
end Sys2Proof.Machine
end

section
/-! Proof of the obligation O23 (spec/10 R148, R151 to R154). -/
namespace Sys2Proof.Machine

/-- Settles O23: each operation works element by element on one, two or three sources, and its element function is the one that the
statement writes out. -/
theorem vectorFloatResults : Obligations.VectorFloatResults := by
  unfold Obligations.VectorFloatResults
  intro f s t num
  refine ⟨?vadd, ?vsub, ?vmul, ?vfma, ?vfms, ?vfnma, ?vmin, ?vmax, ?vabs, ?vneg, ?vcpys, ?vdiv, ?vsqrt, ?vrcp, ?vrsq, ?vexp2, ?vlog2,
    ?vexp, ?vln, ?vtanh, ?verf, ?vsin, ?vcos, ?vatn2, ?vhyp, ?vrint, ?vclass, ?vrelu, ?vclamp, ?vlerp⟩
  case vabs | vneg | vsqrt | vrcp | vrsq | vexp2 | vlog2 | vexp | vln | vtanh | verf | vsin | vcos | vrint | vclass | vrelu =>
    exact vEl1_writes f s _ _
  case vadd | vsub | vmul | vmin | vmax | vcpys | vdiv | vatn2 | vhyp => exact vEl2_writes f s _ _
  case vfma | vfms | vfnma | vclamp | vlerp => exact vEl3_writes f s _ _

end Sys2Proof.Machine
end

section
/-! Proof of the obligation O24 (spec/10 R148, R157). -/
namespace Sys2Proof.Machine

/-- Settles O24: each operation works element by element on two sources, VNOT on one; a shift reads b or not as IMM[15] says. -/
theorem vectorIntegerResults : Obligations.VectorIntegerResults := by
  unfold Obligations.VectorIntegerResults
  intro f s w
  refine ⟨?viadd, ?visub, ?vimul, ?vimulh, ?vand, ?vor, ?vxor, ?vnot, ?shlImm, ?shlReg, ?shrImm, ?shrReg, ?shaImm, ?shaReg,
    ?vimin, ?vimax, ?viminu, ?vimaxu⟩
  case vnot => exact vEl1_writes f s 2 _
  case shlImm | shrImm | shaImm => exact vShift_writes_of_imm s _
  case shlReg | shrReg | shaReg => exact vShift_writes_of_reg s _
  case viadd | visub | vimul | vimulh | vand | vor | vxor | vimin | vimax | viminu | vimaxu =>
    exact vEl2_writes f s _ _

end Sys2Proof.Machine
end

section
/-! Proof of the obligation O26 (spec/10 R158 to R163, R176, R177). -/
namespace Sys2Proof.Machine

/-- Settles O26: each operation makes a value of the lane of one source (VPACK, VQNT and VDQT of two), but VBSC, whose lanes share the
scale of their block and which issues in the shared shape with the effect that the statement writes out. -/
theorem vectorConversionResults : Obligations.VectorConversionResults := by
  unfold Obligations.VectorConversionResults
  intro f s conv
  refine ⟨?vcvtf, ?vcvti, ?vcvtif, ?vpack, ?vunpkLo, ?vunpkHi, ?vqnt, ?vdqt, ?vbsc, ?vpsd, ?vturn, ?vtcs⟩
  case vcvtf | vcvti | vcvtif =>
    exact vLow_writes f s 4 fun v => convLow v.fmt v.rm v.ftz (f.imm.toNat % 16) (f.imm.toNat / 16 % 16)
  case vunpkLo | vunpkHi => exact vLow_writes f s 3 fun _ x => ⟨unpack _ f.imm x, 0⟩
  case vpack | vqnt | vdqt => exact vLanes_writes f [f.a, f.b] _ _ s
  case vbsc =>
    rw [exec_vbsc, execVbsc]
    exact guarded_acts (direct := fun _ => .none) rfl
  case vpsd | vturn | vtcs => exact vLanes_writes f [f.a] _ _ s

end Sys2Proof.Machine
end

section
/-! Proof of the obligation O27 (spec/10 R166, R167). -/
namespace Sys2Proof.Machine

/-- Settles O27: each movement issues in the shared shape with its sources read whole, and gives lane `i` the source lane that the
statement names; VCOMP's effect writes every lane. -/
theorem vectorMovementResults : Obligations.VectorMovementResults := by
  unfold Obligations.VectorMovementResults
  intro f s moved
  have hmove (srcs : List (BitVec 7)) (g : VIn → Nat → BitVec 32) :
      VActs f srcs true false .none (moved g) s (vMove f srcs g s) :=
    vLanes_acts f s srcs true 3 _
  clear_value moved
  refine ⟨?vshuf, ?vbcst, ?vlrot, ?vslide, ?vzip, ?vuzp, ?vrev, ?vcomp⟩
  case vbcst | vlrot | vrev => exact hmove [f.a] _
  case vshuf | vslide | vzip | vuzp => exact hmove [f.a, f.b] _
  case vcomp =>
    rw [exec_vcomp, execVcomp]
    exact guarded_acts (direct := fun _ => .none) rfl

end Sys2Proof.Machine
end

section
/-! SUPPORT. Mask registers: the count of their ones, and the operations on them (spec/10 R168). -/
namespace Sys2Proof.Machine

/-- The number of one bits of a mask counts its lanes. -/
theorem maskCount_eq_countP (m : BitVec 128) : maskCount m = (List.range 128).countP fun i => m.getLsbD i := by
  rw [maskCount, ← List.countP_eq_length_filter]

/-- A mask operation puts its value of two mask registers under way. -/
theorem maskOp_lands {f : VOp} {s : State} (g : BitVec 128 → BitVec 128 → BitVec 128) (hg : s.holds f.g = true) :
    Answers (maskOp g f s)
      (Lands s ⟨.m, f.d.toNat % 8⟩ ((g (s.readM (f.a.toNat % 8)) (s.readM (f.b.toNat % 8))).setWidth 4096) 0 1) :=
  guarded_answers hg (s.land_lands _ _ _ 1 le_rfl)

end Sys2Proof.Machine
end

section
/-! Proof of the obligation O29 (spec/10 R168). -/
namespace Sys2Proof.Machine

/-- Settles O29: a move of x, p and m registers puts its value under way at once; VMVX writes lane by lane, and VEXT's effect is the
landing of the lane it reads. -/
theorem scalarAndMaskMoves : Obligations.ScalarAndMaskMoves := by
  unfold Obligations.ScalarAndMaskMoves
  intro f s
  refine ⟨fun hg => ?moves, ?vmvx, ?vext⟩
  case moves =>
    intro k m n
    refine ⟨?vins, ?vmvp, ?mand, ?mor, ?mxor, ?mnot, ?mpopc⟩
    case vins =>
      rw [exec_vins, execVins]
      exact guarded_answers hg (s.land_lands _ _ _ 3 (by decide))
    case vmvp =>
      rw [exec_vmvp, execVmvp]
      exact guarded_answers hg (s.landP_lands _ _ 3 (by decide))
    case mand => exact maskOp_lands (· &&& ·) hg
    case mor => exact maskOp_lands (· ||| ·) hg
    case mxor => exact maskOp_lands (· ^^^ ·) hg
    case mnot => exact maskOp_lands (fun a _ => ~~~a) hg
    case mpopc =>
      rw [exec_mpopc, execMpopc, ← maskCount_eq_countP]
      exact guarded_landsX f.d (fun s => BitVec.ofNat 64 (maskCount (s.readM (f.a.toNat % 8)))) hg (by decide)
  case vmvx => exact vLanes_writes f [] 3 _ s
  case vext =>
    rw [exec_vext, execVext, vScalar]
    exact guarded_acts (direct := fun _ => .none) rfl

end Sys2Proof.Machine
end

section
/-! SUPPORT. VGTH and VSCT: what their issue does once the index lanes have passed their checks (spec/10 R150, R171). -/
namespace Sys2Proof.Machine

/-- VGTH and VSCT whose index lanes can be read and are all below the limit, at an aligned x[a] where a lane is enabled, issue with the
addresses of their enabled lanes (R171). -/
theorem indexed_of_good {f : VOp} {s : State} {b : VSrc} {srcs : List (BitVec 7)} (wr : Bool)
    (k : VIn → List Use → VEffect) (hb : indexLanes f srcs s = some b)
    (halign : onLanes (s.readM f.mask.toNat) = [] ∨ (s.readX (f.a.setWidth 6)).toNat % 4 = 0)
    (hlimit : ∀ i ∈ onLanes (s.readM f.mask.toNat), (b.lane i).toNat < indexLimit f) :
    indexed f srcs wr k s = vIssue f srcs false
      (fun t => ⟨(onLanes (s.readM f.mask.toNat)).map fun i => ((indexAddr f t b i : Nat) : Int), !wr, wr, true⟩) k s := by
  have hnone : ¬ (onLanes (s.readM f.mask.toNat)).any (fun i => indexLimit f ≤ (b.lane i).toNat) = true := by
    simpa using hlimit
  have hgood : ¬ ((!(onLanes (s.readM f.mask.toNat)).isEmpty) = true ∧ (s.readX (f.a.setWidth 6)).toNat % 4 ≠ 0) := by
    simpa [or_iff_not_imp_left] using halign
  simp only [indexed, hb, if_neg hnone, if_neg hgood]

end Sys2Proof.Machine
end

section
/-! Proof of the obligation O30 (spec/10 R169 to R171). -/
namespace Sys2Proof.Machine

/-- Settles O30: VLD and VST write lane by lane; each other operation issues in the shared shape, its addresses the ones that the
statement computes, VGTH and VSCT once their index lanes have passed their checks. -/
theorem scratchpadAccessResults : Obligations.ScratchpadAccessResults := by
  unfold Obligations.ScratchpadAccessResults
  intro f s base mask lanes stored
  refine ⟨vLanes_writes f [f.a] 6 _ s, vLanes_writes f [f.a] 1 _ s, ?vldi, ?vldb, ?vsti, ?vstc, fun b halign hlimit => ?indexed⟩
  case vldi =>
    rw [exec_vldi, execVldi]
    exact guarded_acts (direct := fun t => ⟨laneAddrs f t, true, false, false⟩) rfl
  case vldb =>
    rw [exec_vldb, execVldb]
    exact guarded_acts (direct := fun t =>
      ⟨if t.readM f.mask.toNat = 0 then [] else [((immAddr f t : Nat) : Int)], true, false, false⟩) rfl
  case vsti =>
    rw [exec_vsti, execVsti]
    exact guarded_acts (direct := fun t => ⟨laneAddrs f t, false, true, false⟩) rfl
  case vstc =>
    rw [exec_vstc, execVstc]
    exact guarded_acts (direct := fun t => ⟨packedAddrs f t, false, true, false⟩) rfl
  case indexed =>
    intro direct
    refine ⟨fun hb => ?vgth, fun hb => ?vsct⟩
    case vgth =>
      rw [exec_vgth, execVgth]
      exact guarded_acts (indexed_of_good false _ hb halign hlimit)
    case vsct =>
      rw [exec_vsct, execVsct]
      exact guarded_acts (indexed_of_good true _ hb halign hlimit)

end Sys2Proof.Machine
end

section
/-! SUPPORT. MDRN and MDRN_COMPLETE by whether the mesh is done (spec/13 R220). -/
namespace Sys2Proof.Machine

/-- An MDRN that issues leaves its queue where the mesh is done, and else stays. -/
theorem exec_mdrn_of_holds {f : FmtMP} {s : State} (hg : s.holds f.g = true) :
    exec (.mdrn f) s = .next (if s.core.mesh.done then s else s.putBack) := by
  rw [exec_mdrn, execMdrn, guarded_true _ hg]

/-- MDRN_COMPLETE takes an MDRN at the head of the M queue out of it, once the mesh is done and not frozen. -/
theorem exec_mdrnComplete_of_done {s : State} {e : Entry} {q : List Entry} {b : MBody} (hq : s.bank.queues[3]? = some (e :: q))
    (he : e.op = some (.m 0x16 b)) (hd : s.core.mesh.done = true) (hf : s.core.mesh.frz = false) :
    exec .mdrnComplete s = .next (s.modBank fun b => { b with queues := vset b.queues 3 q }) := by
  simp only [exec_mdrnComplete, execMdrnComplete, hq, he, hd, hf, Bool.not_false, Bool.and_self, if_true]

/-- MDRN_COMPLETE does nothing while the mesh has work left or is frozen, whatever stands in the M queue. -/
theorem exec_mdrnComplete_of_busy {s : State} (h : s.core.mesh.done = false ∨ s.core.mesh.frz = true) :
    exec .mdrnComplete s = .next s := by
  have hbusy : ¬ (s.core.mesh.done && !s.core.mesh.frz) = true := by
    rcases h with h | h <;> simp [h]
  rw [exec_mdrnComplete, execMdrnComplete]
  split
  case h_1 =>
    split
    · rw [if_neg hbusy]
    · rfl
  case h_2 => rfl

end Sys2Proof.Machine
end

section
/-! SUPPORT. MPUSH_LAND: what the landing of a push writes, by its output (spec/13 R187, R206, R224). -/
namespace Sys2Proof.Machine

@[simp] theorem State.modMesh_frozenAccess (s : State) (f : Mesh → Mesh) (l : List (List Nat)) :
    (s.modMesh f).core.frozenAccess l = s.core.frozenAccess l := rfl

@[simp] theorem State.modMesh_frozenRecord (s : State) (f : Mesh → Mesh) (n : Nat) :
    (s.modMesh f).core.frozenRecord n = s.core.frozenRecord n := rfl

/-- The oldest push lands where it may, out of the pipeline. -/
theorem exec_mpushLand_of_ready {s : State} {p : Push} {ps : List Push} (hp : s.core.mesh.pipe = p :: ps)
    (hr : landReady s = true) :
    exec .mpushLand s = .next (landOut p p.out p.lanes (s.modMesh fun m => { m with pipe := ps })) := by
  rw [exec_mpushLand, execMpushLand, landPush, hp]
  exact congrArg _ (if_pos hr)

/-- Nothing lands where the oldest push may not. -/
theorem exec_mpushLand_of_not_ready {s : State} (hr : landReady s = false) : exec .mpushLand s = .next s := by
  rw [exec_mpushLand, execMpushLand, landPush]
  split
  · rw [hr]; rfl
  · rfl

section Out
variable (p : Push) (lanes : BitVec 4096) (s : State)

/-- The lanes that a push lands: a NaN in each where it is bad. -/
def Push.landedLanes : BitVec 4096 :=
  if p.bad then ofLanes (List.replicate 128 (BitVec.ofNat 32 s.core.mesh.fmt.nan)) else lanes

/-- The elements that a push lands in a stream: its lanes converted under the block scales that it has read. -/
def Push.landedElems (d : BitVec 512) : List (Flagged Nat) :=
  (lanesOf (p.landedLanes lanes s)).zipIdx.map fun q =>
    if (streamFmt (outUse d).efmt p.fmt).isNone then ⟨s.core.mesh.image q.1.toNat, 0⟩
    else (outUse d).convScaled (p.scales[q.2]?.map (scaleVal (outUse d).sfp false)) p.fmt (.float s.core.mesh.fmt) .rne q.1.toNat

/-- An output that is not kept writes nothing. -/
theorem landOut_none : landOut p .none lanes s = s := rfl

/-- A v register of the push's bank takes the FP32 images of the lanes. -/
theorem landOut_reg (n : Nat) :
    landOut p (.reg n) lanes s = s.modBankOf p.bankB fun b =>
      b.writeReg ⟨.v, n⟩
        (ofLanes ((lanesOf (p.landedLanes lanes s)).map fun l => BitVec.ofNat 32 (s.core.mesh.image l.toNat)))
        (BitVec.allOnes 128) := rfl

/-- A stream whose bytes no frozen watermark holds takes the converted elements, and OVF sticks where one overflows. -/
theorem landOut_stream_of_free {d : BitVec 512} (h : s.core.frozenAccess [(PushOut.stream d).bytes] = none) :
    landOut p (.stream d) lanes s =
      (s.modCore fun c =>
        { c with spad := writeMasked c.spad ((outUse d).stores (fun _ => true) ((p.landedElems lanes s d).map (·.val))) }).modMesh
        fun m => m.stick (if joinFlags ((p.landedElems lanes s d).map (·.fl)) &&& fOVF != 0 then 8 else 0) := by
  simp only [landOut, h]
  rfl

/-- A frozen watermark on an output byte is a deferred 0x50 of the push's bank, and nothing lands. -/
theorem landOut_stream_of_frozen {d : BitVec 512} {a n : Nat}
    (h : s.core.frozenAccess [(PushOut.stream d).bytes] = some (a, n)) :
    landOut p (.stream d) lanes s =
      pushTrap p 0x50 (BitVec.ofNat 64 a) (s.core.frozenRecord n).1 (s.core.frozenRecord n).2 s := by
  simp only [landOut, h]

end Out

end Sys2Proof.Machine
end

section
/-! SUPPORT. PLANE_UNIT_OPERATION: the pieces of the unit's oldest operation run (spec/13 R208, R225). -/
namespace Sys2Proof.Machine

/-- The unit's oldest operation acts where it may. -/
theorem exec_planeUnitOperation_of_ready {s : State} (hr : unitReady s = true) :
    exec .planeUnitOperation s = .next (runUnit s) := congrArg _ (if_pos hr)

/-- An operation that may not act changes nothing. -/
theorem exec_planeUnitOperation_of_not_ready {s : State} (hr : unitReady s = false) : exec .planeUnitOperation s = .next s :=
  congrArg _ (if_neg (Bool.eq_false_iff.mp hr))

/-- The state once pieces of the unit's oldest operation `o` have run: `o` has left the unit, or stays with its count of pieces where
a watermark holds it. -/
def afterItems (o : PlaneOp) (os : List PlaneOp) (r : Option Nat × State) : State :=
  r.2.modMesh fun m => { m with unit := match r.1 with | none => os | some k => { o with done := k } :: os }

/-- The unit runs the pieces of its oldest operation that are left. -/
theorem runUnit_of_cons {s : State} {o : PlaneOp} {os : List PlaneOp} (hu : s.core.mesh.unit = o :: os) :
    runUnit s = afterItems o os (runItems o o.done ((unitItems o s.core.mesh).drop o.done) s) := by
  rw [runUnit, hu]
  rfl

/-- A piece without scratchpad bytes meets no watermark and no bad byte, and ends its operation. -/
theorem runItems_meshItem (o : PlaneOp) (k : Nat) (f : Mesh → Mesh) (s : State) :
    runItems o k (meshItem f) s = (none, s.modMesh f) := by
  have hpass : unitPass s.core (byteRange 0 0) = .passes := rfl
  simp only [meshItem, runItems, hpass, ite_self, Bool.false_eq_true, if_false]

/-- An operation on the mesh alone changes it in one step and leaves the unit. -/
theorem exec_planeUnitOperation_of_meshItem {s : State} {o : PlaneOp} {os : List PlaneOp} {f : Mesh → Mesh}
    (hu : s.core.mesh.unit = o :: os) (hr : unitReady s = true) (hd : o.done = 0) (hi : unitItems o s.core.mesh = meshItem f) :
    exec .planeUnitOperation s = .next (s.modMesh fun m => { f m with unit := os }) := by
  rw [exec_planeUnitOperation_of_ready hr, runUnit_of_cons hu, hi, hd, List.drop_zero, runItems_meshItem]
  rfl

end Sys2Proof.Machine
end

section
/-! Proof of the obligation O34 (spec/13 R178, R187, R188, R206, R208, R218, R220, R224, R225). -/
namespace Sys2Proof.Machine

/-- Settles O34: each event in the cases of whether it may act; a landing by its output, and the unit's operation by its pieces. -/
theorem meshStatusAndDrain : Obligations.MeshStatusAndDrain := by
  unfold Obligations.MeshStatusAndDrain
  refine ⟨?mstat, ?mdrn, ?complete, ?busy, ?land, ?waits, ?unit, ?rests⟩
  case mstat =>
    intro f s hg
    rw [exec_mstat, execMstat]
    exact guarded_true _ hg
  case mdrn =>
    intro f s hg
    rw [exec_mdrn_of_holds hg]
    exact ⟨fun hd => by rw [if_pos hd], fun hd => by rw [if_neg (Bool.eq_false_iff.mp hd)]⟩
  case complete => exact fun s e q b => exec_mdrnComplete_of_done
  case busy => exact fun s => exec_mdrnComplete_of_busy
  case land =>
    intro s p ps hp hr gone lanes
    rw [exec_mpushLand_of_ready hp hr]
    refine ⟨fun hout => ?none, fun n hout => ?reg, fun d hout => ?stream⟩
    case none => rw [hout, landOut_none]
    case reg => rw [hout, landOut_reg]; rfl
    case stream =>
      intro m u conv
      rw [hout]
      refine ⟨fun hfree => ?free, fun a n hfrozen => ?frozen⟩
      case free => rw [landOut_stream_of_free _ _ _ ((s.modMesh_frozenAccess _ _).trans hfree)]; rfl
      case frozen => rw [landOut_stream_of_frozen _ _ _ ((s.modMesh_frozenAccess _ _).trans hfrozen), State.modMesh_frozenRecord]
  case waits => exact fun s => exec_mpushLand_of_not_ready
  case unit =>
    intro s o os hu hr r
    refine ⟨?runs, fun hk hd => ?mswap, fun v hk hd => ?mnrm⟩
    case runs =>
      rw [exec_planeUnitOperation_of_ready hr, runUnit_of_cons hu]
      rfl
    case mswap =>
      have hi : unitItems o s.core.mesh = meshItem fun m => { m with active := !m.active } := by rw [unitItems, hk]
      exact exec_planeUnitOperation_of_meshItem hu hr hd hi
    case mnrm =>
      have hi : unitItems o s.core.mesh = meshItem fun m => { m with ntol := v } := by rw [unitItems, hk]
      exact exec_planeUnitOperation_of_meshItem hu hr hd hi
  case rests => exact fun s => exec_planeUnitOperation_of_not_ready

end Sys2Proof.Machine
end

section
/-! SUPPORT. Reads that an MPUSH makes at its issue: they may draw open choices, and change nothing else (spec/03 R31, R33). -/
namespace Sys2Proof.Machine

/-- `t` is `s` with some open choices drawn, and nothing else differs. -/
def DrawsOnly (s t : State) : Prop := ∃ c, t = { s with choices := c }

theorem DrawsOnly.refl (s : State) : DrawsOnly s s := ⟨s.choices, rfl⟩

theorem DrawsOnly.trans {s t u : State} (hst : DrawsOnly s t) (htu : DrawsOnly t u) : DrawsOnly s u := by
  obtain ⟨c, rfl⟩ := hst
  obtain ⟨d, rfl⟩ := htu
  exact ⟨d, rfl⟩

theorem State.choose_drawsOnly (s : State) (n : Nat) : DrawsOnly s (s.choose n).2 := s.choose_state n

/-- A lane that writes in flight leave unsettled draws a choice for each of them. -/
theorem unsettledLane_drawsOnly (s : State) (i : Nat) (old : BitVec 32) (fl : List InFlight) :
    DrawsOnly s (unsettledLane s i old fl).2 := by
  induction fl generalizing s old with
  | nil => exact .refl s
  | cons f fl ih =>
    rw [unsettledLane]
    split
    · exact (s.choose_drawsOnly 2).trans (ih _ _)
    · exact ih s old

/-- A fold whose every step draws choices draws choices. -/
theorem foldl_drawsOnly {α β : Type} (f : β × State → α → β × State) (l : List α) (acc : β × State)
    (hf : ∀ acc a, DrawsOnly acc.2 (f acc a).2) : DrawsOnly acc.2 (l.foldl f acc).2 := by
  induction l generalizing acc with
  | nil => exact .refl _
  | cons a l ih => exact (hf acc a).trans (ih _)

/-- Reading a v register draws choices where writes of it are in flight (R33). -/
theorem State.readVPhys_drawsOnly (s : State) (n : Nat) : DrawsOnly s (s.readVPhys n).2 := by
  rw [State.readVPhys]
  split
  · exact .refl s
  · exact foldl_drawsOnly _ _ ([], s) fun acc i => unsettledLane_drawsOnly acc.2 i _ _

/-- Reading FMT draws a choice where writes of it are in flight (R33, R119). -/
theorem State.fmtM_drawsOnly (s : State) : DrawsOnly s s.fmtM.2 := by
  rw [State.fmtM, State.fmtRead]
  split
  · exact .refl s
  · exact s.choose_drawsOnly _

/-- Reading IN draws choices where it is a v register with writes in flight (R187). -/
theorem pushInput_drawsOnly (c : BitVec 7) (fmt : BitVec 4) (u : Option Use) (s : State) :
    DrawsOnly s (pushInput c fmt u s).2 := by
  rw [pushInput]
  split
  · exact .refl s
  · exact s.readVPhys_drawsOnly _

end Sys2Proof.Machine
end

section
/-! SUPPORT. MPUSH at its issue: the pushes that enter the pipeline, the state that they leave, and the two traps of a mesh that is not
set up for the operation (spec/13 R206, R207). -/
namespace Sys2Proof.Machine

section Push
variable (op : Nat) (inp out : BitVec 7) (rev : Bool) (ofmt : BitVec 2) (g : Option (BitVec 7 × BitVec 7)) (us : List Use) (s : State)

/-- The stream uses that an MPUSH makes, in their order; `g` holds GIN and GOUT of a GRD (R206, R207). -/
def pushReqs : List UseReq :=
  operandUse inp false ++ operandUse (g.getD (0, 0)).1 false ++ (if ofmt == 1 then [] else operandUse out true) ++
    operandUse (g.getD (0, 0)).2 true

/-- A push other than GRD uses its input and the output that it keeps. -/
@[simp] theorem pushReqs_none :
    pushReqs inp out ofmt none = operandUse inp false ++ (if ofmt == 1 then [] else operandUse out true) := by
  change operandUse inp false ++ [] ++ _ ++ [] = _
  rw [List.append_nil, List.append_nil]

/-- The FP32 lanes of IN, and the state once FMT and IN have been read (R187). -/
def pushRead : List (Flagged Nat) × State := pushInput inp s.fmtM.1 us[0]? s.fmtM.2

theorem pushRead_drawsOnly : DrawsOnly s (pushRead inp us s).2 :=
  s.fmtM_drawsOnly.trans (pushInput_drawsOnly _ _ _ _)

/-- The number of uses before that of OUT. -/
def usesBeforeOut : Nat := useNo inp + (if g.isSome then useNo (g.getD (0, 0)).1 else 0)

/-- The push that enters, the first of a GRD pair: the lanes of IN in the lane format, and the output and its block scales resolved at
issue (R178, R187, R206). -/
def enteringPush : Push :=
  let t := (pushRead inp us s).2
  let target := pushTarget out (ofmt == 1) t.zreg us (usesBeforeOut inp g) t
  { op := op, rev := rev, half := false, wait := 0, src := none, tag := s.core.mesh.active, pnum := s.core.mesh.mpcnt, age := 0,
    lanes := (s.core.mesh.narrowAll (pushRead inp us s).1).1, out := target, scales := target.scales t.core.spad, noc := ofmt == 2,
    ntol := s.core.mesh.ntol, fmt := s.fmtM.1, nIn := 0, ovf := (s.core.mesh.narrowAll (pushRead inp us s).1).2, bad := false,
    bankB := t.core.cur, pc := t.ctx.entry.pc, rep := t.ctx.entry.rep, seq := t.ctx.entry.seq, cyc := t.cycle }

/-- The second push of a GRD pair: its input is GIN, its output GOUT (R207). -/
def enteringSecondPush : Push :=
  let t := (pushRead inp us s).2
  secondPush (enteringPush op inp out rev ofmt g us s) (g.getD (0, 0)).1 us[useNo inp]?
    (pushTarget (g.getD (0, 0)).2 false t.zreg us (usesBeforeOut inp g + (if ofmt == 1 then 0 else useNo out)) t) t

/-- The pushes that an MPUSH puts into the pipeline: a pair for GRD, else one (R207). -/
def enteringPushes : List Push :=
  if g.isSome then [enteringPush op inp out rev ofmt g us s, enteringSecondPush op inp out rev ofmt g us s]
  else [enteringPush op inp out rev ofmt g us s]

/-- The mesh once the pushes have entered: MPCNT counts the instruction, and CXG records the mode (R191, R206). -/
def Mesh.entered (ps : List Push) (m : Mesh) : Mesh :=
  { m with mpcnt := m.mpcnt + 1, pipe := m.pipe ++ ps, cxm := if op = 2 then m.mode else m.cxm }

/-- The state once an MPUSH has entered: FMT and IN read, its streams stepped, its pushes in the pipeline, and the M slot held for
their issue times (R36, R206). -/
def State.pushed : State :=
  (((pushRead inp us s).2.stepStreams us).modMesh (Mesh.entered op (enteringPushes op inp out rev ofmt g us s))).stall .m
    (s.core.mesh.pushCycles * (if op = 6 then 2 else 1))

/-- An MPUSH that has entered has changed the mesh as `Mesh.entered` says, and the z registers of its bank, and leaves the
scratchpad, the other registers and memory. -/
theorem State.pushed_frame :
    (s.pushed op inp out rev ofmt g us).core.mesh = s.core.mesh.entered op (enteringPushes op inp out rev ofmt g us s) ∧
    (s.pushed op inp out rev ofmt g us).core.spad = s.core.spad ∧ (s.pushed op inp out rev ofmt g us).bank.x = s.bank.x ∧
    (s.pushed op inp out rev ofmt g us).bank.v = s.bank.v ∧ (s.pushed op inp out rev ofmt g us).hbm = s.hbm := by
  have hbank : (s.pushed op inp out rev ofmt g us).bank = ((pushRead inp us s).2.stepStreams us).bank := rfl
  have hcore : (s.pushed op inp out rev ofmt g us).core.mesh =
      ((pushRead inp us s).2.stepStreams us).core.mesh.entered op (enteringPushes op inp out rev ofmt g us s) := rfl
  have hspad : (s.pushed op inp out rev ofmt g us).core.spad = ((pushRead inp us s).2.stepStreams us).core.spad := rfl
  have hhbm : (s.pushed op inp out rev ofmt g us).hbm = (pushRead inp us s).2.hbm := rfl
  obtain ⟨c, hread⟩ := pushRead_drawsOnly inp us s
  rw [hbank, hcore, hspad, hhbm, hread, State.stepStreams, State.bank_modBank, State.modBank_core, Core.setBank_mesh,
    Core.setBank_spad]
  exact ⟨rfl, rfl, rfl, rfl, rfl⟩

/-- The pushes of a pair enter in the cycle of the issue. -/
theorem enteringPush_cyc : (enteringPush op inp out rev ofmt g us s).cyc = s.cycle := by
  change (pushRead inp us s).2.cycle = s.cycle
  obtain ⟨c, hread⟩ := pushRead_drawsOnly inp us s
  rw [hread]

/-- The second push of a pair waits for the issue time of the first (R207). -/
theorem enteringSecondPush_wait : (enteringSecondPush op inp out rev ofmt g us s).wait = s.core.mesh.pushCycles := by
  change (pushRead inp us s).2.core.mesh.pushCycles = s.core.mesh.pushCycles
  obtain ⟨c, hread⟩ := pushRead_drawsOnly inp us s
  rw [hread]

end Push

section Issue
variable {op : Nat} {inp out : BitVec 7} {rev : Bool} {ofmt : BitVec 2} {g : Option (BitVec 7 × BitVec 7)} {us : List Use} {s : State}
  (hplan : planUses s.zreg s.core.spadSize (pushReqs inp out ofmt g) = .ok us)
include hplan

/-- An MPUSH whose streams plan, on a mesh that is set up for it, enters its pushes where no byte that it reads is frozen or
uncorrectable (R206). -/
theorem mpush_of_ready (hgrd : op = 6 → s.core.mesh.gp = true) (hfol : op = 3 → s.core.mesh.cxm = s.core.mesh.mode)
    (hfree : s.core.frozenAccess (us.map fun u => spanBytes (u.readSpans fun _ => true)) = none)
    (hgood : s.badByte (us.flatMap fun u => u.readSpans fun _ => true) = none) :
    mpush op inp out rev ofmt g s = s.pushed op inp out rev ofmt g us := by
  have hgp : ¬ (op = 6 ∧ (!s.core.mesh.gp) = true) := fun ⟨h6, hno⟩ => by simp [hgrd h6] at hno
  have hmode : ¬ (op = 3 ∧ s.core.mesh.cxm ≠ s.core.mesh.mode) := fun ⟨h3, hne⟩ => hne (hfol h3)
  rw [pushReqs] at hplan
  simp only [mpush, hplan, if_neg hgp, if_neg hmode, hfree, hgood]
  rfl

/-- GRD without a gradient plane traps 0x45 (R207). -/
theorem mpush_grd_of_no_plane (hgp : s.core.mesh.gp = false) :
    mpush 6 inp out rev ofmt g s = s.trapAtIssue 0x45 0 6 0 := by
  rw [pushReqs] at hplan
  simp only [mpush, hplan, hgp, Bool.not_false, and_self, if_true]

/-- FOL in another mode than the one that CXG recorded traps 0x46 with both (R191). -/
theorem mpush_fol_of_other_mode (hmode : s.core.mesh.cxm ≠ s.core.mesh.mode) :
    mpush 3 inp out rev ofmt g s =
      s.trapAtIssue 0x46 0 ((bit s.core.mesh.cxm).setWidth 64) ((bit s.core.mesh.mode).setWidth 64) := by
  rw [pushReqs] at hplan
  simp only [mpush, hplan, Nat.reduceEqDiff, false_and, if_false, ne_eq, hmode, not_false_eq_true, and_self, if_true]

end Issue
end Sys2Proof.Machine
end

section
/-! Proof of the obligation O32 (spec/13 R188, R203, R206, R207). -/
namespace Sys2Proof.Machine

/-- Settles O32: each MPUSH that is ready leaves the state of `State.pushed`, with one push or the pair of GRD in the pipeline; FOL and
GRD on a mesh that is not set up for them trap. -/
theorem meshPushesEnter : Obligations.MeshPushesEnter := by
  unfold Obligations.MeshPushesEnter
  refine ⟨fun f s us hg hplan hfree hgood => ?single, fun f s us hg hplan hfree hgood => ?pair⟩
  case single =>
    intro pushed
    rw [← pushReqs_none] at hplan
    have henters (op : Nat) (hgrd : op ≠ 6) (hfol : op = 3 → s.core.mesh.cxm = s.core.mesh.mode) :
        Answers (guarded f.g s (mpush op f.inp f.out f.rev f.ofmt none)) (pushed op) := by
      obtain ⟨hmesh, hframe⟩ := s.pushed_frame op f.inp f.out f.rev f.ofmt none us
      refine guarded_answers hg ?_
      rw [mpush_of_ready hplan (absurd · hgrd) hfol hfree hgood]
      refine ⟨enteringPush op f.inp f.out f.rev f.ofmt none us s, ?_⟩
      rw [hmesh, enteringPush_cyc]
      exact ⟨rfl, rfl, rfl, rfl, rfl, rfl, rfl, rfl, rfl, rfl, rfl, rfl, rfl, rfl, hframe⟩
    refine ⟨henters 0 (by decide) nofun, henters 1 (by decide) nofun, henters 2 (by decide) nofun,
      fun hmode => henters 3 (by decide) fun _ => hmode, henters 4 (by decide) nofun, henters 5 (by decide) nofun, fun hmode => ?_⟩
    rw [exec_mpushFol, execMpushFol, guarded_true _ hg, mpush_fol_of_other_mode hplan hmode]
  case pair =>
    have hplan : planUses s.zreg s.core.spadSize (pushReqs f.inp f.out f.ofmt (some (f.gin, f.gout))) = .ok us := hplan
    refine ⟨fun hgp => ?enters, fun hgp => ?traps⟩
    case enters =>
      obtain ⟨hmesh, hframe⟩ := s.pushed_frame 6 f.inp f.out f.rev f.ofmt (some (f.gin, f.gout)) us
      rw [exec_mpushGrd, execMpushGrd]
      refine guarded_answers hg ?_
      rw [mpush_of_ready hplan (fun _ => hgp) (absurd · (by decide)) hfree hgood]
      refine ⟨enteringPush 6 f.inp f.out f.rev f.ofmt (some (f.gin, f.gout)) us s,
        enteringSecondPush 6 f.inp f.out f.rev f.ofmt (some (f.gin, f.gout)) us s, ?_⟩
      have hcyc := enteringPush_cyc 6 f.inp f.out f.rev f.ofmt (some (f.gin, f.gout)) us s
      rw [hmesh, enteringSecondPush_wait, List.forall_mem_cons, List.forall_mem_singleton]
      exact ⟨rfl, ⟨⟨rfl, rfl, rfl, rfl, rfl, hcyc⟩, rfl, rfl, rfl, rfl, rfl, hcyc⟩,
        rfl, rfl, rfl, rfl, rfl, rfl, rfl, rfl, rfl, hframe⟩
    case traps =>
      rw [exec_mpushGrd, execMpushGrd, guarded_true _ hg, mpush_grd_of_no_plane hplan hgp]

end Sys2Proof.Machine
end

section
/-! SUPPORT. An ordered mesh operation at issue: its two traps, and its place in the queue of the plane unit (spec/13 R208, R210 to
R217, R219, R221). -/
namespace Sys2Proof.Machine

/-- The state once an ordered operation has joined the plane unit's queue: the current bank and the bundle of the entry with it, no
piece of it done, and the cycles of its bound before it (R208). -/
def State.queuePlane (k : PlaneKind) (s : State) : State :=
  s.modMesh fun m =>
    { m with unit := m.unit ++ [⟨k, s.core.cur, s.ctx.entry.pc, s.ctx.entry.rep, s.cycle, 0, k.bound m - 1⟩] }

/-- Every byte of a range is in the scratchpad; an empty range has none outside. -/
def State.SpadHolds (s : State) (addr len : Nat) : Prop := len = 0 ∨ addr + len ≤ s.core.spadSize

/-- A range has a byte outside the scratchpad as `planeIssue` tests it. -/
theorem State.not_spadHolds_iff {s : State} {addr len : Nat} :
    ¬ s.SpadHolds addr len ↔ len ≠ 0 ∧ s.core.spadSize < addr + len := by
  rw [State.SpadHolds, not_or, Nat.not_le]

section Issue
variable {op addr len align : Nat} {k : PlaneKind} {s : State}

/-- A range that is not all inside the scratchpad traps 0x30 (R210). -/
theorem planeIssue_of_outside (h : ¬ s.SpadHolds addr len) :
    planeIssue op addr len align k s = s.trapAddr 0x30 (BitVec.ofNat 64 addr) :=
  if_pos (State.not_spadHolds_iff.mp h)

/-- A range inside the scratchpad at a misaligned address traps 0x43 with the opcode (R210, R222). -/
theorem planeIssue_of_misaligned (hin : s.SpadHolds addr len) (ha : addr % align ≠ 0) :
    planeIssue op addr len align k s = s.trapAtIssue 0x43 (BitVec.ofNat 64 addr) (BitVec.ofNat 64 op) 0 := by
  rw [planeIssue, if_neg (mt State.not_spadHolds_iff.mpr (not_not.mpr hin)), if_pos ha]

/-- An operation whose range is inside the scratchpad and aligned joins the queue (R208). -/
theorem planeIssue_of_aligned (hin : s.SpadHolds addr len) (ha : addr % align = 0) :
    planeIssue op addr len align k s = s.queuePlane k := by
  rw [planeIssue, if_neg (mt State.not_spadHolds_iff.mpr (not_not.mpr hin)), if_neg (not_not.mpr ha)]
  rfl

/-- An operation without a scratchpad range always joins the queue. -/
theorem planeIssue_of_no_range : planeIssue op 0 0 1 k s = s.queuePlane k :=
  planeIssue_of_aligned (.inl rfl) rfl

end Issue

section Mgsv
variable {f : FmtMPL} {s : State}

/-- MGSV issues as the other ordered operations do where the mesh has a gradient plane or where its address traps (R214). -/
theorem execMgsv_of_plane_or_bad_address (hg : s.holds f.g = true)
    (h : s.core.mesh.gp = true ∨ s.core.spadSize < f.addr.toNat + 256 * (f.nm1.toNat + 1) ∨ f.addr.toNat % 64 ≠ 0) :
    execMgsv f s = .next (planeIssue 13 f.addr.toNat (256 * (f.nm1.toNat + 1)) 64
      (.mgsv f.addr.toNat f.k0.toNat f.nm1.toNat f.clr) s) := by
  rw [execMgsv, guarded_true _ hg, if_pos h]

/-- MGSV at a good address traps 0x45 where the mesh has no gradient plane (R214). -/
theorem execMgsv_of_no_plane (hg : s.holds f.g = true) (hgp : s.core.mesh.gp = false)
    (hin : f.addr.toNat + 256 * (f.nm1.toNat + 1) ≤ s.core.spadSize) (ha : f.addr.toNat % 64 = 0) :
    execMgsv f s = .next (s.trapAtIssue 0x45 0 13 0) := by
  have hgood : ¬ (s.core.mesh.gp = true ∨ s.core.spadSize < f.addr.toNat + 256 * (f.nm1.toNat + 1) ∨ f.addr.toNat % 64 ≠ 0) := by
    simp [hgp, hin, ha]
  rw [execMgsv, guarded_true _ hg, if_neg hgood]

end Mgsv
end Sys2Proof.Machine
end

section
/-! Proof of the obligation O33 (spec/13 R208, R210 to R217, R219, R221). -/
namespace Sys2Proof.Machine

/-- Settles O33: each operation issues by `planeIssue`, whose three outcomes are the traps and the queue; of MGSV the case of a mesh
without a gradient plane stands apart. -/
theorem planeOperationsQueue : Obligations.PlaneOperationsQueue := by
  unfold Obligations.PlaneOperationsQueue
  intro add inside turned queues
  have hturned (op addr len align : Nat) (k : PlaneKind) (s : State) :
      turned s op addr len align (.next (planeIssue op addr len align k s)) :=
    ⟨fun hout => congrArg _ (planeIssue_of_outside hout), fun hin ha => congrArg _ (planeIssue_of_misaligned hin ha)⟩
  have hqueues {g : Guard} {s : State} (hg : s.holds g = true) (op addr len align : Nat) (k : PlaneKind) :
      queues s op addr len align k (guarded g s (planeIssue op addr len align k)) := by
    rw [guarded_true _ hg]
    exact ⟨hturned op addr len align k s, fun hin ha => congrArg _ (planeIssue_of_aligned hin ha)⟩
  have hjoins {g : Guard} {s : State} (hg : s.holds g = true) (op : Nat) (k : PlaneKind) :
      guarded g s (planeIssue op 0 0 1 k) = .next (add k s) :=
    (guarded_true _ hg).trans (congrArg _ planeIssue_of_no_range)
  refine ⟨fun f s hg => ⟨hqueues hg _ _ _ _ _, hqueues hg _ _ _ _ _, fun hgp => ?plane, fun hgp => ?address, fun hgp => ?noPlane⟩,
    fun f s hg => ⟨hqueues hg _ _ _ _ _, hqueues hg _ _ _ _ _, hqueues hg _ _ _ _ _⟩,
    fun f s hg => ⟨hqueues hg _ _ _ _ _, hqueues hg _ _ _ _ _, hqueues hg _ _ _ _ _, hqueues hg _ _ _ _ _⟩,
    fun f s hg => hjoins hg _ _, fun f s hg => hjoins hg _ _,
    fun f s hg => ⟨hjoins hg _ _, hjoins hg _ _, hjoins hg _ _⟩⟩
  case plane =>
    rw [exec_mgsv, execMgsv_of_plane_or_bad_address hg (.inl hgp), ← guarded_true _ hg]
    exact hqueues hg _ _ _ _ _
  case address =>
    refine ⟨fun hout => ?_, fun hin ha => ?_⟩
    · have hlt : s.core.spadSize < f.addr.toNat + 256 * (f.nm1.toNat + 1) := Nat.not_le.mp fun hle => hout (.inr hle)
      rw [exec_mgsv, execMgsv_of_plane_or_bad_address hg (.inr (.inl hlt)), planeIssue_of_outside hout]
    · rw [exec_mgsv, execMgsv_of_plane_or_bad_address hg (.inr (.inr ha)), planeIssue_of_misaligned hin ha]
  case noPlane => exact execMgsv_of_no_plane hg hgp

end Sys2Proof.Machine
end

section
/-! SUPPORT. Global accesses at issue and at home (spec/22 R327, R330, R331): the two traps of an address, what an atomic writes, and
the waits of a fence. -/
namespace Sys2Proof.Machine

/-! ## Addresses at issue (R327 step 1) -/

section Issue
variable {s : State} {op n : Nat} {b : SBody} {va : BitVec 64} {xs : List (BitVec 64)} {d : BitVec 6}

/-- An address with a bit above 53 traps 0x63 before its alignment is looked at. -/
theorem State.issueAccess_of_high (h : va.extractLsb' 54 10 ≠ 0) :
    s.issueAccess op b va n xs d = s.trapAtIssue 0x63 va (BitVec.ofNat 64 op) 0 :=
  if_pos h

/-- An address of 54 bits that is not aligned to the access traps 0x60. -/
theorem State.issueAccess_of_misaligned (h : va.extractLsb' 54 10 = 0) (ha : va.toNat % n ≠ 0) :
    s.issueAccess op b va n xs d = s.trapAtIssue 0x60 va (BitVec.ofNat 64 op) 0 := by
  rw [State.issueAccess, if_neg (not_not.mpr h), if_pos ha]

end Issue

section Loads
variable {op : Nat} {f : FmtGM} {s : State} (hg : s.holds f.g = true)
include hg

/-- An LDG or STG of an address with a bit above 53 traps 0x63. -/
theorem gmOp_of_high (h : (gmAddr op f.off (s.readX f.a)).extractLsb' 54 10 ≠ 0) :
    gmOp op f s = .next (s.trapAtIssue 0x63 (gmAddr op f.off (s.readX f.a)) (BitVec.ofNat 64 op) 0) := by
  rw [gmOp, guarded_true _ hg, State.issueAccess_of_high h]

/-- An LDG or STG of an address that is not aligned to its size traps 0x60. -/
theorem gmOp_of_misaligned (h : (gmAddr op f.off (s.readX f.a)).extractLsb' 54 10 = 0)
    (ha : (gmAddr op f.off (s.readX f.a)).toNat % gmSize op ≠ 0) :
    gmOp op f s = .next (s.trapAtIssue 0x60 (gmAddr op f.off (s.readX f.a)) (BitVec.ofNat 64 op) 0) := by
  rw [gmOp, guarded_true _ hg, State.issueAccess_of_misaligned h ha]

end Loads

section Atomics
variable {op : Nat} {f : FmtGA} {s : State} (hg : s.holds f.g = true)
include hg

/-- An atomic of an address with a bit above 53 traps 0x63. -/
theorem gaOp_of_high (h : (s.readX f.a).extractLsb' 54 10 ≠ 0) :
    gaOp op f s = .next (s.trapAtIssue 0x63 (s.readX f.a) (BitVec.ofNat 64 op) 0) := by
  rw [gaOp, guarded_true _ hg, State.issueAccess_of_high h]

/-- An atomic of an address that is not aligned to its size traps 0x60. -/
theorem gaOp_of_misaligned (h : (s.readX f.a).extractLsb' 54 10 = 0) (ha : (s.readX f.a).toNat % (if f.sz then 8 else 4) ≠ 0) :
    gaOp op f s = .next (s.trapAtIssue 0x60 (s.readX f.a) (BitVec.ofNat 64 op) 0) := by
  rw [gaOp, guarded_true _ hg, State.issueAccess_of_misaligned h ha]

end Atomics

/-! ## Atomics (R330) -/

/-- The signed reading of a word's number is the word's. -/
theorem signedNat_toNat {w : Nat} (hw : 0 < w) (a : BitVec w) : signedNat w a.toNat = a.toInt := by
  have hp : 2 ^ w = 2 * 2 ^ (w - 1) := by rw [← Nat.pow_succ']; congr 1; omega
  rw [signedNat, Nat.mod_eq_of_lt a.isLt, BitVec.toInt_eq_toNat_cond]
  exact if_congr (by omega) rfl rfl

/-- What each atomic of `n` bytes writes for words of its size: the combination of the rule (R330). -/
theorem atomicNew_of_words {n : Nat} (hn : 0 < n) (a b c : BitVec (8 * n)) :
    atomicNew 0x44 n a.toNat b.toNat c.toNat = (a + b).toNat ∧
    atomicNew 0x45 n a.toNat b.toNat c.toNat = (a &&& b).toNat ∧
    atomicNew 0x46 n a.toNat b.toNat c.toNat = (a ||| b).toNat ∧
    atomicNew 0x47 n a.toNat b.toNat c.toNat = (a ^^^ b).toNat ∧
    atomicNew 0x48 n a.toNat b.toNat c.toNat = (if b.slt a then b else a).toNat ∧
    atomicNew 0x49 n a.toNat b.toNat c.toNat = (if a.slt b then b else a).toNat ∧
    atomicNew 0x4A n a.toNat b.toNat c.toNat = b.toNat ∧
    atomicNew 0x4B n a.toNat b.toNat c.toNat = (if a = c then b else a).toNat := by
  have hw : 0 < 8 * n := by omega
  have hmod (x : BitVec (8 * n)) : x.toNat % 2 ^ (8 * n) = x.toNat := Nat.mod_eq_of_lt x.isLt
  have hlt (x y : BitVec (8 * n)) : signedNat (8 * n) x.toNat < signedNat (8 * n) y.toNat ↔ x.slt y = true := by
    rw [signedNat_toNat hw, signedNat_toNat hw, BitVec.slt_iff_toInt_lt]
  simp only [atomicNew, hmod, hlt, apply_ite BitVec.toNat, BitVec.toNat_inj, BitVec.toNat_add, BitVec.toNat_and,
    BitVec.toNat_or, BitVec.toNat_xor, and_self]

/-- What an atomic writes fits its size where the old value does. -/
theorem atomicNew_lt {op n old : Nat} (opd cmp : Nat) (ho : old < 2 ^ (8 * n)) : atomicNew op n old opd cmp < 2 ^ (8 * n) := by
  have hd : opd % 2 ^ (8 * n) < 2 ^ (8 * n) := Nat.mod_lt _ (Nat.two_pow_pos _)
  unfold atomicNew
  split
  case h_1 => exact Nat.mod_lt _ (Nat.two_pow_pos _)
  case h_2 => exact Nat.and_lt_two_pow _ hd
  case h_3 => exact Nat.or_lt_two_pow ho hd
  case h_4 => exact Nat.xor_lt_two_pow ho hd
  case h_7 => exact hd
  all_goals dsimp only; split <;> assumption

/-! ## Fences (R331) -/

@[simp] theorem State.bankOf_modBankOf (s : State) (isB : Bool) (f : Bank → Bank) : (s.modBankOf isB f).bankOf isB = f (s.bankOf isB) := by
  cases isB <;> rfl

/-- The wait for reads goes on while a global read of the bank is under way. -/
theorem Bank.settleFences_fenceR (b : Bank) :
    b.settleFences.fenceR = true ↔ b.fenceR = true ∧ ∃ t ∈ b.tracked, t.isGlobal = true := by
  simp [Bank.settleFences]

/-- The wait for writes goes on while a store of the bank has not performed. -/
theorem Bank.settleFences_fenceW (b : Bank) :
    b.settleFences.fenceW = true ↔ b.fenceW = true ∧ ∃ a ∈ b.posted, a.kind ≠ .monitor := by
  simp [Bank.settleFences, Bank.storesDone]

end Sys2Proof.Machine
end

section
/-! Proofs of the obligations O15 to O17 (spec/22 R327, R330, R331). -/
namespace Sys2Proof.Machine

/-- Settles O15: the two traps of an LDG or STG and of an atomic, at each opcode. -/
theorem misalignedAccessesTrap : Obligations.MisalignedAccessesTrap := by
  unfold Obligations.MisalignedAccessesTrap
  exact ⟨fun f s hg => ⟨
      gmOp_of_high (op := 0x3A) hg, gmOp_of_high (op := 0x3B) hg, gmOp_of_misaligned (op := 0x3B) hg,
      gmOp_of_high (op := 0x3C) hg, gmOp_of_misaligned (op := 0x3C) hg, gmOp_of_high (op := 0x3D) hg,
      gmOp_of_misaligned (op := 0x3D) hg, gmOp_of_high (op := 0x3E) hg, gmOp_of_misaligned (op := 0x3E) hg,
      gmOp_of_high (op := 0x3F) hg, gmOp_of_high (op := 0x40) hg, gmOp_of_misaligned (op := 0x40) hg,
      gmOp_of_high (op := 0x41) hg, gmOp_of_misaligned (op := 0x41) hg, gmOp_of_high (op := 0x42) hg,
      gmOp_of_misaligned (op := 0x42) hg, gmOp_of_high (op := 0x43) hg, gmOp_of_misaligned (op := 0x43) hg⟩,
    fun f s hg => ⟨
      gaOp_of_high (op := 0x44) hg, gaOp_of_misaligned (op := 0x44) hg, gaOp_of_high (op := 0x45) hg,
      gaOp_of_misaligned (op := 0x45) hg, gaOp_of_high (op := 0x46) hg, gaOp_of_misaligned (op := 0x46) hg,
      gaOp_of_high (op := 0x47) hg, gaOp_of_misaligned (op := 0x47) hg, gaOp_of_high (op := 0x48) hg,
      gaOp_of_misaligned (op := 0x48) hg, gaOp_of_high (op := 0x49) hg, gaOp_of_misaligned (op := 0x49) hg,
      gaOp_of_high (op := 0x4A) hg, gaOp_of_misaligned (op := 0x4A) hg, gaOp_of_high (op := 0x4B) hg,
      gaOp_of_misaligned (op := 0x4B) hg⟩⟩

/-- Settles O16: the combination of each atomic on words of any size, for 4 and 8 bytes. -/
theorem atomicsCombine : Obligations.AtomicsCombine := by
  unfold Obligations.AtomicsCombine
  exact ⟨atomicNew_of_words (n := 4) (by decide), atomicNew_of_words (n := 8) (by decide),
    fun _ _ opd cmp => atomicNew_lt (n := 4) opd cmp, fun _ _ opd cmp => atomicNew_lt (n := 8) opd cmp⟩

/-- Settles O17: each fence is a guarded write of its waits; a wait ends as the two lists of the bank say, and the one for the host
window with the flush of its modified lines. -/
theorem fencesHold : Obligations.FencesHold := by
  unfold Obligations.FencesHold
  refine ⟨fun f s hg => ?issues, fun s isB => ⟨fun h => ?goesOn, fun hh he => ?ends⟩,
    fun b => ⟨b.settleFences_fenceR, b.settleFences_fenceW⟩⟩
  case issues => simp only [exec_rel, execRel, exec_acq, execAcq, exec_drn, execDrn, guarded_true _ hg, hostScope, and_self]
  case goesOn =>
    refine if_neg fun hc => ?_
    simp only [Bool.and_eq_true, Bool.not_eq_true', and_assoc] at hc
    obtain ⟨hhost, hr, hw⟩ := hc
    rw [State.bankOf_modBankOf] at hhost
    rcases h with h | h
    · exact absurd hhost (by simp [Bank.settleFences, h])
    · rw [hr, hw] at h
      exact absurd h (by decide)
  case ends =>
    have hhost : (((s.modBankOf isB Bank.settleFences).bankOf isB).fenceHost) = true := by rw [State.bankOf_modBankOf]; exact hh
    have hflush : s.settleFences isB =
        (flushHost (s.modBankOf isB Bank.settleFences)).modBankOf isB fun b => { b with fenceHost := false } := by
      rw [Bool.and_eq_true, Bool.not_eq_true', Bool.not_eq_true'] at he
      exact if_pos (by simp only [hhost, he.1, he.2]; rfl)
    exact ⟨by rw [hflush, State.bankOf_modBankOf], hflush⟩

end Sys2Proof.Machine
end

section
/-! SUPPORT. Links and ports that fail (spec/25 R353, R358; spec/27 R370, R380): the message of a number that fails, and a port whose
link is down. -/
namespace Sys2Proof.Machine

/-! ## Flits in error and lanes (R353, R380) -/

/-- A port of the fabric replaced. -/
def State.putLink (port : BitVec 4) (l : FabricPort) (s : State) : State := { s with links := vset s.links port.toNat l }

section Flit
variable {s u : State} {port : BitVec 4} (hl : (vget s.links port.toNat FabricPort.none_).up = true)
include hl

/-- A new flit in error begins the count of its replays. -/
theorem exec_flitCrcError_of_new (hc : s.choose 2 = (1, u)) : exec (.flitCrcError port) s =
    .next (u.putLink port { vget s.links port.toNat FabricPort.none_ with replays := 0 }) := by
  rw [exec_flitCrcError, execFlitCrcError, if_neg (by rw [hl]; decide)]
  simp only [hc, if_true]
  rfl

/-- The first fifteen replays that fail are counted. -/
theorem exec_flitCrcError_of_replayed (hc : s.choose 2 = (0, u)) (hr : (vget s.links port.toNat FabricPort.none_).replays < 15) :
    exec (.flitCrcError port) s = .next (u.putLink port
      { vget s.links port.toNat FabricPort.none_ with replays := (vget s.links port.toNat FabricPort.none_).replays + 1 }) := by
  rw [exec_flitCrcError, execFlitCrcError, if_neg (by rw [hl]; decide)]
  simp only [hc, hr, if_true, zero_ne_one, if_false]
  rfl

/-- The sixteenth takes the link down, and of the messages that it strands an openly chosen one, or none, fails. -/
theorem exec_flitCrcError_of_lost (hc : s.choose 2 = (0, u)) (hr : 15 ≤ (vget s.links port.toNat FabricPort.none_).replays)
    {i : Nat} {t v : State} (ht : t = u.putLink port { vget s.links port.toNat FabricPort.none_ with up := false, replays := 0 })
    (hi : t.choose ((t.stranded (vget s.links port.toNat FabricPort.none_)).length + 1) = (i, v)) :
    exec (.flitCrcError port) s =
      .next (match (t.stranded (vget s.links port.toNat FabricPort.none_))[i]? with | some j => failAt j 0x94 v | none => v) := by
  subst ht
  rw [State.putLink] at hi ⊢
  rw [exec_flitCrcError, execFlitCrcError, if_neg (by rw [hl]; decide)]
  simp only [hc, hr.not_gt, zero_ne_one, if_false, hi] <;> rfl

end Flit

/-- A port whose link is down meets no flit. -/
theorem exec_flitCrcError_of_down {s : State} {port : BitVec 4} (hl : (vget s.links port.toNat FabricPort.none_).up = false) :
    exec (.flitCrcError port) s = .next s := by
  rw [exec_flitCrcError, execFlitCrcError, if_pos (by rw [hl]; rfl)]

/-- LANE_RETRAIN does nothing to a port without a lasting lane, or that runs at 4 lanes already. -/
theorem exec_laneRetrain_of_none {s : State} {port : BitVec 4}
    (h : s.lastingLane port = none ∨ (vget s.links port.toNat FabricPort.none_).half = true) :
    exec (.laneRetrain port) s = .next s := by
  rw [exec_laneRetrain, execLaneRetrain]
  rcases hp : s.lastingLane port with _ | p
  · rfl
  · rcases h with h | h
    · rw [h] at hp; cases hp
    · exact congrArg _ (if_pos h)

/-! ## Timeouts (R322, R351, R358, R370) -/

/-- The message of a request's number, where it is still unanswered. -/
theorem State.awaited_of_request {s : State} {k : Nat} {r : Request} (h : s.requests[k]? = some r) :
    s.awaited[k]? = some (if r.unanswered then some (r.dst, r.due) else none) := by
  rw [State.awaited, List.getElem?_append_left (by simpa using (List.getElem?_eq_some_iff.mp h).1), List.getElem?_map, h]
  rfl

/-- The messages after the requests are those that holders owe. -/
theorem State.awaited_of_owed {s : State} {k : Nat} {t : HomeTx} {d : BitVec 6} (h : s.owed[k]? = some (t, d)) :
    s.awaited[s.requests.length + k]? = some (some (d, t.due)) := by
  rw [State.awaited, List.getElem?_append_right (by simp), List.getElem?_map, List.length_map, Nat.add_sub_cancel_left, h]
  rfl

/-- An overdue message fails with 0x91; any other stays. -/
theorem exec_fabricTimeout_of_awaited {s : State} {i due : Nat} {d : BitVec 6} (h : s.awaited[i]? = some (some (d, due))) :
    exec (.fabricTimeout i) s = .next (if due ≤ s.tick then failAt i 0x91 s else s) := by
  rw [exec_fabricTimeout, execFabricTimeout, h]

/-- A list changed at one place: what stands there, and everywhere else. -/
theorem getElem?_mapIdx_at {α : Type} {l : List α} {k : Nat} {r : α} (p : α → Prop) [DecidablePred p] (f : α → α) (h : l[k]? = some r)
    (hp : p r) : (l.mapIdx fun i q => if i = k ∧ p q then f q else q)[k]? = some (f r) ∧
      ∀ j, j ≠ k → (l.mapIdx fun i q => if i = k ∧ p q then f q else q)[j]? = l[j]? := by
  refine ⟨by simp [h, hp], fun j hj => ?_⟩
  rw [List.getElem?_mapIdx]
  simp [hj]

/-- An overdue request fails, and nothing else changes. -/
theorem failAt_of_request {s : State} {k : Nat} {r : Request} (cause : BitVec 8) (h : s.requests[k]? = some r) :
    failAt k cause s =
      { s with requests := s.requests.mapIdx fun i q => if i = k ∧ q.unanswered = true then { q with failed := some cause } else q } := by
  rw [failAt, if_pos (List.getElem?_eq_some_iff.mp h).1]
  simp only [Bool.and_eq_true, decide_eq_true_eq]

/-- A holder that owes an answer gives none. -/
theorem failAt_of_owed {s : State} {k : Nat} {t : HomeTx} {d : BitVec 6} (cause : BitVec 8) (h : s.owed[k]? = some (t, d)) :
    failAt (s.requests.length + k) cause s = abandon t d s := by
  rw [failAt, if_neg (by omega), Nat.add_sub_cancel_left, h]

/-- A request through a port that has had no completion fails; a host port reports it. -/
theorem exec_completionTimeout_of_port {s : State} {k : Nat} {r : Request} (h : s.requests[k]? = some r) (hk : r.kind = .port) :
    exec (.completionTimeout k) s = .next { s with
      requests := s.requests.mapIdx fun i q => if i = k ∧ q.kind = .port then
        { q with failed := some (if q.port = some .p0 ∨ q.port = some .p1 then 0x84 else 0x83) } else q,
      sent := s.sent ++ (if r.port = some .p0 ∨ r.port = some .p1 then [.aer (r.port.getD .p0) false] else []) } := by
  rw [exec_completionTimeout, execCompletionTimeout, h]
  simp only [hk, true_and]
  by_cases hp : r.port = some .p0 ∨ r.port = some .p1
  · rw [if_pos hp, if_pos hp]
    refine congrArg (fun l => Host.Outcome.next { s with requests := l, sent := s.sent ++ [OutMsg.aer (r.port.getD .p0) false] })
      (congrArg (List.mapIdx · _) ?_)
    funext i q
    rcases q.port with _ | _ | _ | _ | _ <;> rfl
  · rw [if_neg hp, if_neg hp, List.append_nil]
    refine congrArg (fun l => Host.Outcome.next { s with requests := l }) (congrArg (List.mapIdx · _) ?_)
    funext i q
    rcases q.port with _ | _ | _ | _ | _ <;> rfl

/-- A link that goes down is one of those down, and no other port changes. -/
theorem exec_portLinkDown_eq (s : State) (port : Port) : ∃ l, exec (.portLinkDown port) s = .next { s with portDown := l } ∧
    port ∈ l ∧ ∀ p, p ≠ port → (p ∈ l ↔ p ∈ s.portDown) := by
  rw [exec_portLinkDown, execPortLinkDown]
  by_cases h : port ∈ s.portDown
  · exact ⟨s.portDown, by rw [if_pos (List.contains_iff_mem.mpr h)], h, fun _ _ => Iff.rfl⟩
  · refine ⟨port :: s.portDown, by rw [if_neg (mt List.contains_iff_mem.mp h)], by simp, fun p hp => ?_⟩
    simp [hp]

end Sys2Proof.Machine
end

section
/-! Proof of the obligation O48 (spec/25 R322, R353, R358; spec/27 R369, R370, R380). -/
namespace Sys2Proof.Machine

/-- Settles O48: the three cases of a flit in error, the two kinds of message that wait for an answer, and the ports that go down. -/
theorem linkFailuresAct : Obligations.LinkFailuresAct := by
  unfold Obligations.LinkFailuresAct
  refine ⟨fun s port => ⟨fun u => exec_flitCrcError_of_new, fun u => exec_flitCrcError_of_replayed,
      fun u hl hc hr => fun i v hi => exec_flitCrcError_of_lost hl hc hr rfl hi, exec_flitCrcError_of_down,
      fun p hp hh => ?retrain, exec_laneRetrain_of_none⟩,
    fun s k r hr => ⟨fun hu hd => ?overdue, fun h => ?inTime, fun hk => ?port⟩,
    fun s k t d ho => ⟨fun hd => ?gives, fun hd => ?waits⟩, fun s port => ?down⟩
  case retrain =>
    rw [exec_laneRetrain, execLaneRetrain, hp]
    exact congrArg _ (if_neg (by rw [hh]; decide))
  case overdue =>
    have hawait : s.awaited[k]? = some (some (r.dst, r.due)) := by rw [State.awaited_of_request hr, if_pos hu]
    obtain ⟨hat, hother⟩ := getElem?_mapIdx_at (fun q : Request => q.unanswered = true)
      (fun q => { q with failed := some 0x91 }) hr hu
    exact ⟨_, by rw [exec_fabricTimeout_of_awaited hawait, if_pos hd, failAt_of_request 0x91 hr], rfl, hat, hother⟩
  case inTime =>
    by_cases hu : r.unanswered = true
    · have hlate : s.tick < r.due := h.resolve_left (by simp [hu])
      have hawait : s.awaited[k]? = some (some (r.dst, r.due)) := by rw [State.awaited_of_request hr, if_pos hu]
      rw [exec_fabricTimeout_of_awaited hawait, if_neg hlate.not_ge]
    · rw [exec_fabricTimeout, execFabricTimeout, State.awaited_of_request hr, if_neg hu]
  case port =>
    obtain ⟨hat, hother⟩ := getElem?_mapIdx_at (fun q : Request => q.kind = .port)
      (fun q => { q with failed := some (if q.port = some .p0 ∨ q.port = some .p1 then 0x84 else 0x83) }) hr hk
    exact ⟨_, exec_completionTimeout_of_port hr hk, rfl, hat, hother⟩
  case gives => rw [exec_fabricTimeout_of_awaited (State.awaited_of_owed ho), if_pos hd, failAt_of_owed _ ho]
  case waits => rw [exec_fabricTimeout_of_awaited (State.awaited_of_owed ho), if_neg hd.not_ge]
  case down =>
    obtain ⟨l, hl, hmem, hother⟩ := exec_portLinkDown_eq s port
    exact ⟨_, hl, hmem, hother, rfl⟩

end Sys2Proof.Machine
end

section
/-! SUPPORT. Frames of the wire ports (spec/25 R360 to R363): the bytes that a port sends, granule by granule. -/
namespace Sys2Proof.Machine

/-- Bytes that follow one another. -/
theorem Memory.bytes_add (m : Memory) (a j k : Nat) : m.bytes a (j + k) = m.bytes a j ++ m.bytes (a + j) k := by
  induction j generalizing a with
  | zero => simp [Memory.bytes]
  | succ j ih => rw [Nat.succ_add, Memory.bytes, Memory.bytes, ih, List.cons_append, Nat.add_assoc, Nat.add_comm 1 j]

/-- A port reads the bytes of the scratchpad as they stand. -/
theorem readFrame_of_inside {c : Core} (s : State) {a n : Nat} (h : a + n ≤ c.spadSize) : readFrame c a n s = (c.spad.bytes a n, s) := by
  induction n generalizing a with
  | zero => rfl
  | succ n ih =>
    rw [readFrame, if_pos (by omega), ih (by omega)]
    rfl

section Sent
variable {w : BitVec 64} {a n : Nat}

/-- The bytes of a frame of `n` bytes from `a` that stand before its granule `g`. -/
def beforeGranule (a n g : Nat) : Nat := min (a + n) (16 * (a / 16 + g)) - a

/-- A granule of a frame holds the bytes that stand between it and the next. -/
theorem granule_span (a n : Nat) {g : Nat} (hg : g < (a + n + 15) / 16 - a / 16) :
    max a (16 * (a / 16 + g)) = a + beforeGranule a n g ∧
    min (a + n) (16 * (a / 16 + g + 1)) - (a + beforeGranule a n g) = beforeGranule a n (g + 1) - beforeGranule a n g ∧
    beforeGranule a n g ≤ beforeGranule a n (g + 1) ∧ beforeGranule a n (g + 1) ≤ n := by
  unfold beforeGranule
  omega

/-- All granules of a frame hold its bytes. -/
theorem beforeGranule_last (a n : Nat) : beforeGranule a n ((a + n + 15) / 16 - a / 16) = n := by
  unfold beforeGranule
  omega

/-- The granules that a port reads of a frame in the scratchpad are the frame's bytes, in order. -/
theorem frameBytes_of_unread {s : State} (k : Nat) (ha : (w.extractLsb' 0 22).toNat = a) (hn : (w.extractLsb' 22 14).toNat = n)
    (h : a + n ≤ (s.coreAt (w.extractLsb' 36 7).toNat).spadSize) {g : Nat} (hg : g + k = granulesOf w) :
    frameBytes w [] (List.range' g k) s = ((s.coreAt (w.extractLsb' 36 7).toNat).spad.bytes (a + beforeGranule a n g)
      (n - beforeGranule a n g), s) := by
  have hlast : granulesOf w = (a + n + 15) / 16 - a / 16 := by rw [granulesOf, ha, hn]
  induction k generalizing g with
  | zero =>
    have hend : beforeGranule a n g = n := by rw [show g = granulesOf w from hg, hlast, beforeGranule_last]
    rw [hend, Nat.sub_self]
    rfl
  | succ k ih =>
    obtain ⟨hlo, hlen, hmono, hle⟩ := granule_span a n (g := g) (by omega)
    have hread : readGranule w g s = ((s.coreAt (w.extractLsb' 36 7).toNat).spad.bytes (a + beforeGranule a n g)
        (beforeGranule a n (g + 1) - beforeGranule a n g), s) := by
      rw [readGranule, ha, hn, hlo, hlen, readFrame_of_inside s (by omega)]
    have hsplit : n - beforeGranule a n g =
        (beforeGranule a n (g + 1) - beforeGranule a n g) + (n - beforeGranule a n (g + 1)) := by omega
    rw [List.range'_succ, frameBytes, hsplit, Memory.bytes_add, Nat.add_assoc, Nat.add_sub_cancel' hmono]
    simp only [List.find?_nil, hread, ih (g := g + 1) (by omega)]

end Sent

/-- The granules that a port has read all of are the frame's bytes, in order. -/
theorem frameBytes_of_read {w : BitVec 64} {got : List (Nat × List (BitVec 8))} {s : State} (old : Nat → List (BitVec 8))
    (l : List Nat) (h : ∀ g ∈ l, got.find? (·.1 == g) = some (g, old g)) : frameBytes w got l s = (l.flatMap old, s) := by
  induction l with
  | nil => rfl
  | cons g l ih =>
    rw [frameBytes]
    simp only [h g List.mem_cons_self, ih fun k hk => h k (List.mem_cons_of_mem _ hk), List.flatMap_cons]

/-- A frame of which the port has read no granule is sent as it stands in the scratchpad. -/
theorem frameBytes_of_fresh {w : BitVec 64} {s : State}
    (h : (w.extractLsb' 0 22).toNat + (w.extractLsb' 22 14).toNat ≤ (s.coreAt (w.extractLsb' 36 7).toNat).spadSize) :
    frameBytes w [] (List.range (granulesOf w)) s =
      ((s.coreAt (w.extractLsb' 36 7).toNat).spad.bytes (w.extractLsb' 0 22).toNat (w.extractLsb' 22 14).toNat, s) := by
  have hstart (a n : Nat) : beforeGranule a n 0 = 0 := by unfold beforeGranule; omega
  rw [List.range_eq_range', frameBytes_of_unread (granulesOf w) rfl rfl h (Nat.zero_add _), hstart]
  rfl

/-- FRAME_TRANSMIT of a frame whose bytes are known, and whose reading leaves the state. -/
theorem exec_frameTransmit_of_bytes {s : State} {port : BitVec 1} {w : BitVec 64} {rest : List (BitVec 64)} {bytes : List (BitVec 8)}
    (hp : (vget s.wires port.toNat WirePort.reset).txq = w :: rest)
    (hb : frameBytes w ((vget s.wires port.toNat WirePort.reset).got.headD []) (List.range (granulesOf w)) s = (bytes, s)) :
    exec (.frameTransmit port) s = .next ((s.modWire port fun p => { p with
      txq := rest, got := p.got.tail, sent := p.sent + 1, txs := (ptpSplit s.ptpNs).1.setWidth 32, txn := (ptpSplit s.ptpNs).2 }).send
        (.frame port (bytes ++ List.replicate (60 - bytes.length) 0 ++
          leBytes 4 (frameCrc (bytes ++ List.replicate (60 - bytes.length) 0)).toNat))) := by
  rw [exec_frameTransmit, execFrameTransmit]
  simp only [hp, hb]

/-! ## Received frames (R361) -/

section Received
variable {s : State} {port : BitVec 1} {f : List (BitVec 8)} (hlo : 60 ≤ f.length) (hhi : f.length ≤ 9212)
include hlo hhi

/-- A frame with a bad FCS is dropped and counted. -/
theorem exec_frameReceive_of_bad_fcs :
    exec (.frameReceive port f false) s = .next (s.modWire port fun p => { p with dfcs := p.dfcs + 1 }) := by
  rw [exec_frameReceive, execFrameReceive, if_neg (by omega)]
  rfl

/-- A good frame without a window is dropped and counted. -/
theorem exec_frameReceive_of_no_window (hw : s.frameWindow port f = none) :
    exec (.frameReceive port f true) s = .next (s.modWire port fun p => { p with dnone := p.dnone + 1 }) := by
  rw [exec_frameReceive, execFrameReceive, if_neg (by omega)]
  simp only [hw]
  rfl

/-- A good frame that matches a window, by whether its row and the window have room. -/
theorem exec_frameReceive_of_window {n k : Nat} {w : Window} (hm : s.frameWindow port f = some (n, k))
    (hw : vget (s.coreAt n).wins k Window.reset = w) : exec (.frameReceive port f true) s = .next (
      if w.rowb < f.length + 16 then s.modWire port fun p => { p with dlong := p.dlong + 1 }
      else if w.b.toNat + w.slots ≤ w.landed then s.modWire port fun p => { p with dfull := p.dfull + 1 }
      else s.modCoreAt n fun c => c.flowLand k (w.rowb + 1) (frameRow w.rowb f s.ptpNs)) := by
  rw [exec_frameReceive, execFrameReceive, if_neg (by omega), apply_ite Host.Outcome.next, apply_ite Host.Outcome.next]
  simp only [hm, hw]
  rfl

end Received
end Sys2Proof.Machine
end

section
/-! Proof of the obligation O43 (spec/25 R360 to R363). -/
namespace Sys2Proof.Machine

/-- Settles O43: a TXQ write by whether the port accepts it, a frame sent from the bytes read late or early, a frame received by what
drops it first. -/
theorem wireFramesMove : Obligations.WireFramesMove := by
  unfold Obligations.WireFramesMove
  refine ⟨fun s port w => ⟨fun h => ?accepted, fun h => ?rejected⟩, fun s port w rest => ?_, fun s port f hlo hhi =>
    ⟨exec_frameReceive_of_bad_fcs hlo hhi, exec_frameReceive_of_no_window hlo hhi, fun n k hm => ?_⟩⟩
  case accepted =>
    rw [exec_txq, execTxq]
    simp only [State.modWire, h, if_true]
  case rejected =>
    rw [exec_txq, execTxq]
    simp only [State.modWire, h, Bool.false_eq_true, if_false]
  · intro p hp c a n frame out
    refine ⟨fun hg hin => exec_frameTransmit_of_bytes hp ?_, fun old hold => exec_frameTransmit_of_bytes hp ?_⟩
    · rw [show (vget s.wires port.toNat WirePort.reset).got.headD [] = [] from hg]
      exact frameBytes_of_fresh hin
    · exact frameBytes_of_read old _ fun g hg => hold g (List.mem_range.mp hg)
  · intro w
    have heq := exec_frameReceive_of_window hlo hhi hm (w := w) rfl
    refine ⟨fun hl => ?_, fun hr hf => ?_, fun hr hf => ?_⟩
    · rw [heq, if_pos hl]
    · rw [heq, if_neg hr.not_gt, if_pos hf]
    · rw [heq, if_neg hr.not_gt, if_neg hf.not_ge]

end Sys2Proof.Machine
end

section
/-! SUPPORT. Cores by number (spec/00 R7, R348): what stands under each number after a core is changed, whether it is in focus or not. -/
namespace Sys2Proof.Machine

/-- A vector's element after every element is changed alike, the default with them. -/
theorem vget_map {α β : Type} {n : Nat} (v : Vector α n) (f : α → β) (k : Nat) (d : α) : vget (v.map f) k (f d) = f (vget v k d) := by
  rw [vget, vget, Vector.getElem?_map, Option.getD_map]

/-- A sparse map's value after every value is changed alike, the default with them. -/
theorem Sparse.at_map {α β : Type} (l : Sparse α) (f : α → β) (k : Nat) (d : α) :
    Sparse.at (f d) (l.map fun p => (p.1, f p.2)) k = f (Sparse.at d l k) := by
  induction l with
  | nil => rfl
  | cons p l ih =>
    rw [List.map_cons, Sparse.at, Sparse.at, ih]
    split <;> rfl

/-- A core replaced stands under its number, and every other core as before. -/
theorem State.coreAt_setCoreAt (s : State) (n k : Nat) (c : Core) : (s.setCoreAt n c).coreAt k = if k = n then c else s.coreAt k := by
  rw [State.setCoreAt]
  split
  · next h =>
    subst h
    rw [State.coreAt, State.coreAt]
    split <;> rfl
  · next h =>
    rw [State.coreAt, State.coreAt, Sparse.at_put]
    by_cases hk : k = s.coreNo
    · rw [if_pos hk, if_pos hk, if_neg (hk.trans_ne (Ne.symm h))]
    · rw [if_neg hk, if_neg hk]

/-- A core changed stands under its number. -/
@[simp] theorem State.coreAt_modCoreAt_self (s : State) (n : Nat) (f : Core → Core) : (s.modCoreAt n f).coreAt n = f (s.coreAt n) := by
  rw [State.modCoreAt, State.coreAt_setCoreAt, if_pos rfl]

/-- A core changed leaves every other one. -/
theorem State.coreAt_modCoreAt_of_ne {s : State} {n k : Nat} (f : Core → Core) (h : k ≠ n) : (s.modCoreAt n f).coreAt k = s.coreAt k := by
  rw [State.modCoreAt, State.coreAt_setCoreAt, if_neg h]

/-- A core changed leaves which one is in focus. -/
@[simp] theorem State.coreNo_modCoreAt (s : State) (n : Nat) (f : Core → Core) : (s.modCoreAt n f).coreNo = s.coreNo := by
  rw [State.modCoreAt, State.setCoreAt]
  split <;> rfl

/-- A core changed leaves what is no core. -/
theorem State.modCoreAt_frame (s : State) (n : Nat) (f : Core → Core) :
    s.modCoreAt n f = { s with core := (s.modCoreAt n f).core, others := (s.modCoreAt n f).others } := by
  rw [State.modCoreAt, State.setCoreAt]
  split <;> rfl

/-- Distinct cores changed one after another: each of them once, and no other. -/
theorem State.coreAt_foldl_modCoreAt (f : Core → Core) {l : List Nat} (hl : l.Nodup) (s : State) (k : Nat) :
    (l.foldl (fun s n => s.modCoreAt n f) s).coreAt k = if k ∈ l then f (s.coreAt k) else s.coreAt k := by
  induction l generalizing s with
  | nil => rfl
  | cons n l ih =>
    obtain ⟨hn, hl⟩ := List.nodup_cons.mp hl
    rw [List.foldl_cons, ih hl]
    by_cases hk : k = n
    · subst hk
      rw [if_neg hn, if_pos List.mem_cons_self, State.coreAt_modCoreAt_self]
    · simp only [State.coreAt_modCoreAt_of_ne f hk, List.mem_cons, hk, false_or]

/-- Cores changed one after another leave what is no core. -/
theorem State.foldl_modCoreAt_frame (f : Core → Core) (l : List Nat) (s : State) :
    ∃ c o, l.foldl (fun s n => s.modCoreAt n f) s = { s with core := c, others := o } := by
  induction l generalizing s with
  | nil => exact ⟨_, _, rfl⟩
  | cons n l ih =>
    obtain ⟨c, o, h⟩ := ih (s.modCoreAt n f)
    exact ⟨c, o, by rw [List.foldl_cons, h, s.modCoreAt_frame n f]⟩

end Sys2Proof.Machine
end

section
/-! SUPPORT. What periods, graces, frame ticks, Collie watchdogs and claims do (spec/24 R343, R345, R349, R350). -/
namespace Sys2Proof.Machine

/-! ## Budgets (R345) -/

/-- At the end of a budget period each core's copies end it. -/
theorem coreAt_budgetPeriod (s : State) (n : Nat) :
    ({ s with moved := [], core := s.core.endPeriod, others := s.others.map fun p => (p.1, p.2.endPeriod) } : State).coreAt n =
      (s.coreAt n).endPeriod := by
  have hreset : Core.reset (decide (128 ≤ n)) = (Core.reset (decide (128 ≤ n))).endPeriod := by
    simp [Core.endPeriod, Core.reset, Vector.map_replicate, Channel.reset]
  rw [State.coreAt, State.coreAt]
  split
  · rfl
  · rw [hreset, Sparse.at_map, ← hreset]

/-- A held copy is past its grace as R345 says. -/
theorem Copy.overheld_iff {c : Copy} {i grace : Nat} : c.overheld i grace = true ↔ grace ≠ 0 ∧ c.heldOn = some i ∧ grace < c.held := by
  simp [Copy.overheld, and_assoc]

/-- The copies of a core, those past their grace counted anew. -/
def Core.recounted (i grace : Nat) (k : Core) : Core :=
  { k with chans := k.chans.map fun h => { h with cur := h.cur.map fun c => if c.overheld i grace then { c with held := 0 } else c } }

/-- No copy of a recounted core is past its grace. -/
theorem Core.recounted_not_overheld {i grace : Nat} {k : Core} {h : Channel} (hh : h ∈ (k.recounted i grace).chans.toList) {c : Copy}
    (hc : h.cur = some c) : c.overheld i grace ≠ true := by
  simp only [Core.recounted, Vector.toList_map, List.mem_map] at hh
  obtain ⟨h', -, rfl⟩ := hh
  obtain ⟨c', -, rfl⟩ := Option.map_eq_some_iff.mp hc
  split
  · simp [Copy.overheld]
  · assumption

section Grace
variable {s : State} {r : BitVec 2} {k : BitVec 3} {grace : Nat} (hgr : ((s.budget r.toNat k.toNat).extractLsb' 40 8).toNat = grace)
include hgr

/-- A grace that no copy has passed does nothing. -/
theorem exec_budgetGraceExpiry_of_none (h : ∀ h ∈ s.core.chans.toList, h.runs = true → ∀ c, h.cur = some c →
    c.overheld (8 * r.toNat + k.toNat) grace ≠ true) : exec (.budgetGraceExpiry r k) s = .next s := by
  rw [exec_budgetGraceExpiry, execBudgetGraceExpiry, hgr]
  refine if_pos ?_
  rw [Bool.not_eq_true', List.any_eq_false]
  intro ch hch
  rw [Bool.and_eq_true, Option.any_eq_true]
  rintro ⟨hr, c, hc, ho⟩
  exact h ch hch hr c hc ho

/-- A copy held past its grace raises 0xB2, and is counted anew. -/
theorem exec_budgetGraceExpiry_of_late (h : ∃ h ∈ s.core.chans.toList, h.runs = true ∧ ∃ c, h.cur = some c ∧
    c.overheld (8 * r.toNat + k.toNat) grace = true) : exec (.budgetGraceExpiry r k) s =
      .next (impose (s.imposed 0xB2 (Config.unstated 0xB2 1) (Config.unstated 0xB2 2))
        (s.modCore (Core.recounted (8 * r.toNat + k.toNat) grace))) := by
  rw [exec_budgetGraceExpiry, execBudgetGraceExpiry, hgr]
  obtain ⟨ch, hch, hr, c, hc, ho⟩ := h
  refine if_neg ?_
  rw [Bool.not_eq_true', Bool.not_eq_false, List.any_eq_true]
  exact ⟨ch, hch, by rw [hr, hc]; exact ho⟩

end Grace

/-! ## Frame ticks, watchdogs, claims (R343, R349, R350) -/

/-- The Collie cores' numbers are those from 128 on. -/
theorem foldl_collies (f : State → Nat → State) (s : State) :
    (List.range 8).foldl (fun s k => f s (128 + k)) s = (List.range' 128 8).foldl f s := rfl

/-- A Collie core whose watchdog has run out is reset with its memories kept, its queues passed on, and the event logged. -/
theorem exec_collieWatchdogExpiry_of_due {s : State} {k : BitVec 3} {due : Nat} (hw : (s.coreAt (128 + k.toNat)).wdog = some due)
    (hd : due ≤ s.tick) : ∃ n v, exec (.collieWatchdogExpiry k) s = .next (State.logError
      { s.modCoreAt (128 + k.toNat) (fun c => { Core.reset true with imem := c.imem, spad := c.spad, spadBad := c.spadBad }) with
        choices := n, queueOwner := s.queueOwner.map fun o => if o = k then k + 1 else o } 5 7 (k.setWidth 16) v) := by
  refine ⟨s.choices + 1, (Config.openBits s.choices).setWidth 64, ?_⟩
  rw [exec_collieWatchdogExpiry, execCollieWatchdogExpiry, hw]
  simp only [hd.not_gt, if_false]
  rw [State.modCoreAt_frame]
  rfl

/-- A claim of a die whose range is not used up takes its next item. -/
theorem claim_of_own {s : State} {d : Nat} (h : (vget s.ranges d (0, 0)).1 < (vget s.ranges d (0, 0)).2) :
    (claim d s).2 = { s with ranges := vset s.ranges d ((vget s.ranges d (0, 0)).1 + 1, (vget s.ranges d (0, 0)).2) } := by
  rw [claim, if_pos h]

/-- A claim of a die whose range is used up steals the upper half of the largest other range. -/
theorem claim_of_other {s : State} {d : Nat} (h : (vget s.ranges d (0, 0)).2 ≤ (vget s.ranges d (0, 0)).1) {e m : Nat}
    (he : largestRange s.ranges d = (e, m)) {q : Nat × Nat} (hq : vget s.ranges e (0, 0) = q) : (claim d s).2 =
      if m < 2 then s
      else { s with ranges := vset (vset s.ranges e (q.1, q.2 - m / 2)) d (q.2 - m / 2 + 1, q.2) } := by
  rw [claim, if_neg h.not_gt, he]
  subst hq
  dsimp only
  split <;> rfl

end Sys2Proof.Machine
end

section
/-! Proof of the obligation O40 (spec/24 R343, R345, R349, R350). -/
namespace Sys2Proof.Machine

/-- Settles O40: the cores after a period's end and after a frame tick by number, a grace by whether a copy is past it, and a claim by
whose range it takes from. -/
theorem periodsFramesAndClaimsAct : Obligations.PeriodsFramesAndClaimsAct := by
  unfold Obligations.PeriodsFramesAndClaimsAct
  refine ⟨fun s => ⟨_, rfl, rfl, fun n k _ => ?period⟩, fun s r k hr => ?grace, fun s => ?frame, fun s k due hw hd => ?watchdog,
    fun s d => ?claim⟩
  case period =>
    rw [coreAt_budgetPeriod]
    exact vget_map _ _ _ Channel.reset
  case grace =>
    intro grace late
    refine ⟨fun h => ?_, fun h => exec_budgetGraceExpiry_of_none rfl fun ch hch hrun c hc ho =>
      h ch hch hrun c hc (Copy.overheld_iff.mp ho)⟩
    obtain ⟨ch, hch, hrun, c, hc, hl⟩ := h
    refine ⟨_, exec_budgetGraceExpiry_of_late rfl ⟨ch, hch, hrun, c, hc, Copy.overheld_iff.mpr hl⟩, ?_⟩
    have hrun : (s.modCore (Core.recounted (8 * r.toNat + k.toNat) grace)).core.run = .running := hr
    rw [impose_of_issues (.inl hrun), State.takeTrapIn_of_issues (.inl hrun)]
    exact ⟨rfl, ⟨_, _, _, rfl⟩, fun ch hch c hc hl => Core.recounted_not_overheld hch hc (Copy.overheld_iff.mpr hl)⟩
  case frame =>
    obtain ⟨c, o, hf⟩ := State.foldl_modCoreAt_frame (Core.frameTick s.frameNo) (List.range' 128 8) { s with frameNo := s.frameNo + 1 }
    have hat := State.coreAt_foldl_modCoreAt (Core.frameTick s.frameNo) (List.nodup_range' (s := 128) (n := 8))
      { s with frameNo := s.frameNo + 1 }
    refine ⟨_, congrArg Host.Outcome.next (foldl_collies (fun s n => s.modCoreAt n _) _), by rw [hf], fun k hk => ?_, fun n hn => ?_⟩
    · rw [hat, if_pos (by rw [List.mem_range'_1]; omega)]
      rfl
    · rw [hat, if_neg (by rw [List.mem_range'_1]; omega)]
      rfl
  case watchdog =>
    obtain ⟨n, v, h⟩ := exec_collieWatchdogExpiry_of_due hw hd
    refine ⟨_, h, ?_, rfl, ?_⟩
    · exact State.coreAt_modCoreAt_self s _ _
    · rw [State.modCoreAt_frame]
      rfl
  case claim =>
    intro p e q
    refine ⟨fun h => congrArg _ (claim_of_own h), fun h hm => ?_, fun h hm => ?_⟩
    · exact congrArg _ ((claim_of_other h rfl rfl).trans (if_neg hm.not_gt))
    · exact congrArg _ ((claim_of_other h rfl rfl).trans (if_pos hm))

end Sys2Proof.Machine
end

section
/-! SUPPORT. The C slot's operations: what a check at issue answers, channels and windows by number, and a copy that enters, ends or
is aborted (spec/16 R230 to R248; spec/17 R252, R271). -/
namespace Sys2Proof.Machine

/-- A check that passes gives its effect. -/
theorem issueC_ok {α : Type} {m : Chk α} {f : α → State → State} {s t : State} {a : α} (h : m.run.run s = (.ok a, t)) :
    issueC m f s = f a t := by
  simp only [issueC, h]

/-- A check that traps gives its trap. -/
theorem issueC_trap {α : Type} {m : Chk α} {f : α → State → State} {s t : State} {cause : BitVec 8} {addr d0 d1 : BitVec 64}
    (h : m.run.run s = (.error (.trap cause addr d0 d1), t)) : issueC m f s = t.trapAtIssue cause addr d0 d1 := by
  simp only [issueC, h, State.stopIssue]

/-- A queued operation with a true guard enters its channel as it is planned, or traps. -/
theorem queueOp_enters {g : Guard} {s : State} (hg : s.holds g = true) (ch : BitVec 3) (op : Nat) (b : CBody) :
    (∀ c t, (planOf op b).run.run s = (.ok c, t) → queueOp g ch op b s = .next (t.takeCopy ch.toNat c)) ∧
    (∀ cause addr d0 d1 t, (planOf op b).run.run s = (.error (.trap cause addr d0 d1), t) →
      queueOp g ch op b s = .next (t.trapAtIssue cause addr d0 d1)) := by
  constructor
  case left => intro c t h; rw [queueOp, guarded_true _ hg, issueC_ok h]
  case right => intro cause addr d0 d1 t h; rw [queueOp, guarded_true _ hg, issueC_trap h]

/-- A changed channel of a core, and the others. -/
theorem Core.vget_modChan (c : Core) (n k : Nat) (f : Channel → Channel) (hn : n < 8) :
    vget (c.modChan n f).chans k Channel.reset =
      if k = n then f (vget c.chans n Channel.reset) else vget c.chans k Channel.reset := by
  rw [Core.modChan, vget_vset]
  by_cases h : k = n
  · simp [h, hn]
  · simp [h]

/-- Noting a transfer ID leaves the channels and the memories alone. -/
theorem State.noteId_frame (s : State) (id : BitVec 32) :
    (s.noteId id).core.chans = s.core.chans ∧ (s.noteId id).core.spad = s.core.spad ∧ (s.noteId id).hbm = s.hbm := by
  simp [State.noteId]

/-- Taking a copy leaves the memories alone. -/
theorem State.takeCopy_frame (s : State) (n : Nat) (c : Copy) :
    (s.takeCopy n c).core.spad = s.core.spad ∧ (s.takeCopy n c).hbm = s.hbm := by
  obtain ⟨-, hs, hh⟩ := State.noteId_frame
    (s.modCore fun k => { (k.modChan n fun h => h.take { c with num := k.nextId }) with nextId := k.nextId + 1 })
    (vget (s.core.modChan n fun h => h.take { c with num := s.core.nextId }).chans n Channel.reset).tid
  exact ⟨hs, hh⟩

/-- The channels of a core that takes a copy. -/
theorem State.vget_takeCopy (s : State) (n k : Nat) (c : Copy) (hn : n < 8) :
    vget (s.takeCopy n c).core.chans k Channel.reset =
      if k = n then (vget s.core.chans n Channel.reset).take { c with num := s.core.nextId }
      else vget s.core.chans k Channel.reset := by
  unfold State.takeCopy
  dsimp only
  rw [(State.noteId_frame _ _).1]
  exact Core.vget_modChan s.core n k (fun h => h.take { c with num := s.core.nextId }) hn

/-- A copy that a channel takes begins where the channel holds none and is not frozen. -/
theorem Channel.take_begins {ch : Channel} (c : Copy) (h : ch.cur.all Copy.ghost = true) (hf : ch.wm.frz = false) :
    (ch.take c).cur = some { c with tid := ch.tid + 1 } ∧ (ch.take c).queue = ch.queue := by
  simp [Channel.take, Channel.begin, h, hf]

/-- A copy that a channel takes waits behind the copies of the channel else. -/
theorem Channel.take_queues {ch : Channel} (c : Copy) (h : ch.cur.all Copy.ghost = false ∨ ch.wm.frz = true) :
    (ch.take c).cur = ch.cur ∧ (ch.take c).queue = ch.queue ++ [{ c with tid := ch.tid + 1 }] := by
  have hn : (ch.cur.all Copy.ghost && !ch.wm.frz) = false := by
    cases h with
    | inl h => rw [h, Bool.false_and]
    | inr h => rw [h, Bool.not_true, Bool.and_false]
  simp [Channel.take, hn]

/-- A channel that takes a copy counts its transfer IDs up, and has completed none. -/
theorem Channel.take_ids (ch : Channel) (c : Copy) : (ch.take c).tid = ch.tid + 1 ∧ (ch.take c).tcp = ch.tcp := by
  unfold Channel.take
  dsimp only
  split <;> exact ⟨rfl, rfl⟩

end Sys2Proof.Machine
end

section
/-! Proof of the obligation O35 (spec/17 R231, R252, R254). -/
namespace Sys2Proof.Machine

/-- Settles O35: every queued operation is `queueOp` of its opcode, and what it queues is `Channel.take`. -/
theorem copiesEnterTheirChannel : Obligations.CopiesEnterTheirChannel := by
  unfold Obligations.CopiesEnterTheirChannel
  refine ⟨fun f s hg => ?t, fun f s hg => ?l, fun f s hg => ?r, fun f s hg => ?q, fun f s hg => ?kc, fun f s hg => ?kw,
    fun f s hg => ?km, fun f s hg => ?kg, fun s n c hn => ?channel⟩
  case t =>
    refine ⟨?_, ?_, ?_, ?_, ?_, ?_, ?_, ?_, ?_, ?_, ?_, ?_, ?_⟩ <;> exact queueOp_enters hg f.ch _ (.t f)
  case l => exact queueOp_enters hg f.ch 0x03 (.l f)
  case r => exact ⟨queueOp_enters hg f.ch 0x04 (.r f), queueOp_enters hg f.ch 0x05 (.r f)⟩
  case q => exact ⟨queueOp_enters hg f.ch 0x09 (.q f), queueOp_enters hg f.ch 0x0A (.q f)⟩
  case kc => exact queueOp_enters hg f.ch 0x12 (.kc f)
  case kw => exact queueOp_enters hg f.ch 0x17 (.kw f)
  case km => exact queueOp_enters hg f.ch 0x18 (.km f)
  case kg => exact queueOp_enters hg f.ch 0x19 (.kg f)
  case channel =>
    have ht := s.vget_takeCopy n n c hn
    rw [if_pos rfl] at ht
    refine ⟨?_, ?_, fun ha hf => ?_, fun h => ?_, fun k hk => ?_, s.takeCopy_frame n c⟩
    · rw [ht]; exact (Channel.take_ids _ _).1
    · rw [ht]; exact (Channel.take_ids _ _).2
    · rw [ht]; exact Channel.take_begins _ ha hf
    · rw [ht]; exact Channel.take_queues _ h
    · rw [s.vget_takeCopy n k c hn, if_neg hk]

end Sys2Proof.Machine
end

section
/-! Proof of the obligation O36 (spec/17 R242, R268, R269). -/
namespace Sys2Proof.Machine

/-- Settles O36: the checks of WBND and WADV decide between their effect and their trap; WREL looks at the window alone. -/
theorem windowsBindAndAdvance : Obligations.WindowsBindAndAdvance := by
  unfold Obligations.WindowsBindAndAdvance
  intro f s hg w
  refine ⟨fun ha => ?release, fun ha => ?unbound, fun d t hk hp => ?byNone, fun cause addr d0 d1 t hp => ?advanceTraps,
    fun cause addr d0 d1 t hp => ?bindTraps, fun d t hk hp => ⟨fun hf => ?advance, fun hf => ?advanceFetch⟩,
    fun b d t hp => ⟨fun hf => ?bind, fun hf => ?bindFetch⟩⟩
  case release => rw [exec_wrel, execWrel, guarded_true _ hg, if_pos ha]
  case unbound => rw [exec_wrel, execWrel, guarded_true _ hg, if_neg (by rw [ha]; decide)]
  case byNone => rw [exec_wadv, execWadv, guarded_true _ hg, issueC_ok hp]; simp only [hk, if_true]
  case advanceTraps => rw [exec_wadv, execWadv, guarded_true _ hg, issueC_trap hp]
  case bindTraps => rw [exec_wbnd, execWbnd, guarded_true _ hg, issueC_trap hp]
  case advance =>
    rw [exec_wadv, execWadv, guarded_true _ hg, issueC_ok hp]
    simp only [hk, hf, if_false]
  case advanceFetch =>
    rw [exec_wadv, execWadv, guarded_true _ hg, issueC_ok hp]
    simp only [hk, hf, if_false, if_true]
  case bind =>
    rw [exec_wbnd, execWbnd, guarded_true _ hg, issueC_ok hp]
    simp only [hf, if_false]
  case bindFetch =>
    rw [exec_wbnd, execWbnd, guarded_true _ hg, issueC_ok hp]
    simp only [hf, if_true]

end Sys2Proof.Machine
end

section
/-! SUPPORT. Whole words written to a memory, and a channel whose copy ends (spec/00 R2; spec/16 R232, R248). -/
namespace Sys2Proof.Machine

/-- Lists stored one after the other. -/
theorem Memory.store_append (m : Memory) (a : Nat) (l r : List (BitVec 8)) :
    m.store a (l ++ r) = (m.store a l).store (a + l.length) r := by
  induction l generalizing m a with
  | nil => rfl
  | cons b l ih => rw [List.cons_append, Memory.store, Memory.store, ih, List.length_cons, Nat.add_assoc, Nat.add_comm 1]

/-- Whole masked bytes, from an index on, are the bytes stored. -/
theorem writeMasked_zipIdx (m : Memory) (a i : Nat) (l : List (BitVec 8)) :
    writeMasked m ((l.zipIdx i).map fun p => (a + p.2, 0xFF, p.1)) = m.store (a + i) l := by
  induction l generalizing m i with
  | nil => rfl
  | cons b l ih =>
    have hb (old : BitVec 8) : maskByte old 0xFF b = b := by
      rw [maskByte, show (0xFF : BitVec 8) = BitVec.allOnes 8 from rfl, BitVec.not_allOnes, BitVec.and_zero, BitVec.and_allOnes,
        BitVec.zero_or]
    have hi := ih (m.write (a + i) b) (i + 1)
    simp only [writeMasked] at hi
    simp only [List.zipIdx_cons, List.map_cons, writeMasked, List.foldl_cons, hb, hi, Memory.store, Nat.add_assoc]

/-- Whole masked bytes are the bytes stored. -/
theorem writeMasked_wholeBytes (m : Memory) (a : Nat) (l : List (BitVec 8)) : writeMasked m (wholeBytes a l) = m.store a l :=
  writeMasked_zipIdx m a 0 l

/-- The bytes of words, one after the other. -/
def wordBytes (ws : List (BitVec 64)) : List (BitVec 8) := ws.flatMap fun w => leBytes 8 w.toNat

/-- Words take 8 bytes each. -/
theorem length_wordBytes (ws : List (BitVec 64)) : (wordBytes ws).length = 8 * ws.length := by
  induction ws with
  | nil => rfl
  | cons w ws ih =>
    rw [wordBytes, List.flatMap_cons, List.length_append, length_leBytes, ← wordBytes, ih, List.length_cons]
    omega

/-- A word of those stored reads back (R2). -/
theorem Memory.num_store_wordBytes {m : Memory} (a k : Nat) (ws : List (BitVec 64)) (h : m.wf = true) (hk : k < ws.length) :
    (m.store a (wordBytes ws)).num (a + 8 * k) 8 = (ws.getD k 0).toNat := by
  induction ws generalizing m a k with
  | nil => exact absurd hk (Nat.not_lt_zero k)
  | cons w ws ih =>
    have hs : m.store a (wordBytes (w :: ws)) = (m.put a 8 w.toNat).store (a + 8) (wordBytes ws) := by
      rw [wordBytes, List.flatMap_cons, Memory.store_append, length_leBytes]; rfl
    have hp := Memory.put_wf a 8 w.toNat h
    rw [hs]
    cases k with
    | zero =>
      rw [Memory.num, Memory.bytes_store_of_disjoint _ _ _ _ hp (by omega), ← Memory.num, Nat.mul_zero, Nat.add_zero,
        Memory.num_put a 8 _ h, Nat.mod_eq_of_lt w.isLt, List.getD_cons_zero]
    | succ k =>
      rw [show a + 8 * (k + 1) = a + 8 + 8 * k by ring, List.getD_cons_succ]
      exact ih (a + 8) k hp (by simpa using hk)

/-- The scratchpad after whole bytes are written. -/
theorem State.spad_writeSpad_wholeBytes (s : State) (a : Nat) (l : List (BitVec 8)) :
    (s.writeSpad (wholeBytes a l)).core.spad = s.core.spad.store a l := writeMasked_wholeBytes _ a l

/-- Bytes written to the scratchpad leave the channels and the bank alone. -/
theorem State.writeSpad_frame (s : State) (l : List (Nat × BitVec 8 × BitVec 8)) :
    (s.writeSpad l).core.chans = s.core.chans ∧ (s.writeSpad l).bank = s.bank := ⟨rfl, rfl⟩

/-- The window of a fetch takes the state of its flow, no channel does. -/
theorem Core.chans_syncFetch (c : Core) (n : Nat) (frz : Bool) : (c.syncFetch n frz).chans = c.chans := by
  unfold Core.syncFetch
  split
  · split <;> rfl
  · rfl

/-- The row of a scan is dropped in its window, in no channel. -/
theorem Core.chans_dropRow (c : Core) (n : Nat) : (c.dropRow n).chans = c.chans := by
  unfold Core.dropRow
  split
  · split <;> rfl
  · rfl

/-- A channel that runs a copy ends it when it is aborted (R271). -/
theorem Core.vget_abortChan (c : Core) (n : Nat) (hn : n < 8) (h : (vget c.chans n Channel.reset).cur.all Copy.ghost = false) :
    vget (c.abortChan n).chans n Channel.reset = (vget c.chans n Channel.reset).finish := by
  unfold Core.abortChan
  dsimp only
  rw [h, if_neg Bool.false_ne_true, Core.vget_modChan _ n n _ hn, if_pos rfl, Core.chans_dropRow, Core.chans_syncFetch]

/-- The channel whose copy ends takes the copy's ID as completed; its IDs given out stay (R232). -/
theorem Channel.finish_ids (ch : Channel) : ch.finish.tcp = ch.wm.tid ∧ ch.finish.tid = ch.tid := by
  unfold Channel.finish Channel.advance
  dsimp only
  split <;> exact ⟨rfl, rfl⟩

end Sys2Proof.Machine
end

section
/-! Proof of the obligation O37 (spec/16 R244, R245, R248; spec/17 R267, R270, R271, R278). -/
namespace Sys2Proof.Machine

/-- A check that looks at the state goes on with it. -/
theorem Chk.run_get_bind {α : Type} (k : State → Chk α) (s : State) : ((get : Chk State) >>= k).run.run s = (k s).run.run s := rfl

/-- A condition that holds lets the checks go on. -/
theorem Chk.run_require_of_true {α : Type} {ok : Bool} (h : ok = true) (op : Nat) (cause : BitVec 8) (addr d1 : Nat)
    (k : Unit → Chk α) (s : State) : (require ok op cause addr d1 >>= k).run.run s = (k ()).run.run s := by
  subst h; rfl

/-- A condition that fails ends the checks with its cause. -/
theorem Chk.run_require_of_false {α : Type} {ok : Bool} (h : ok = false) (op : Nat) (cause : BitVec 8) (addr d1 : Nat)
    (k : Unit → Chk α) (s : State) : (require ok op cause addr d1 >>= k).run.run s =
      (.error (.trap cause (BitVec.ofNat 64 addr) (BitVec.ofNat 64 op) (BitVec.ofNat 64 d1)), s) := by
  subst h; rfl

/-- The checks of a CSCH that is aligned are those of its entries. -/
theorem exec_csch_reads {f : FmtKS} {s t : State} {l : List SchedEntry} (hg : s.holds f.g = true) (ha : f.spa.toNat % 16 = 0)
    (h : (readSchedule f.spa.toNat 1024 0 0 []).run.run s = (.ok l, t)) :
    exec (.csch f) s = .next (t.modCore fun c => { c with sched := l, cstage := 0 }) := by
  rw [exec_csch, execCsch, guarded_true _ hg]
  refine congrArg _ (issueC_ok ?_)
  rw [Chk.run_require_of_true (beq_iff_eq.mpr ha), h]

/-- A CSCH that is not aligned traps. -/
theorem exec_csch_misaligned {f : FmtKS} {s : State} (hg : s.holds f.g = true) (ha : f.spa.toNat % 16 ≠ 0) :
    exec (.csch f) s = .next (s.trapAtIssue 0x55 (BitVec.ofNat 64 f.spa.toNat) 0 0) := by
  rw [exec_csch, execCsch, guarded_true _ hg]
  refine congrArg _ (issueC_trap ?_)
  rw [Chk.run_require_of_false (beq_eq_false_iff_ne.mpr ha)]
  rfl

/-- A CRSM of a channel that is neither frozen nor aborted traps. -/
theorem planResume_of_running {f : FmtKR} {s : State}
    (h3 : (vget s.core.chansSeen f.ch.toNat Channel.reset).state ≠ 3)
    (h4 : (vget s.core.chansSeen f.ch.toNat Channel.reset).state ≠ 4) :
    (planResume f).run.run s = (.error (.trap 0x57 (BitVec.ofNat 64 f.ch.toNat) 0x11 0), s) := by
  have hb : ((vget s.core.chansSeen f.ch.toNat Channel.reset).state == 3 ||
      (vget s.core.chansSeen f.ch.toNat Channel.reset).state == 4) = false := by
    rw [beq_eq_false_iff_ne.mpr h3, beq_eq_false_iff_ne.mpr h4]; rfl
  unfold planResume
  rw [Chk.run_get_bind]
  dsimp only
  rw [Chk.run_require_of_false hb]
  rfl

/-- The checks of a CRSM that names no new source pass on a frozen or aborted channel. -/
theorem planResume_of_stopped {f : FmtKR} {s : State} (hn : f.new = false)
    (h : (vget s.core.chansSeen f.ch.toNat Channel.reset).state = 3 ∨ (vget s.core.chansSeen f.ch.toNat Channel.reset).state = 4) :
    (planResume f).run.run s = (.ok none, s) := by
  unfold planResume
  rw [Chk.run_get_bind]
  dsimp only
  rw [Chk.run_require_of_true (by simpa using h), hn]
  rfl

/-- A CRSM whose checks pass restarts the channel's copy, with the source that they give. -/
theorem exec_crsm_restarts {f : FmtKR} {s t : State} {d : Option TDesc} (hg : s.holds f.g = true)
    (h : (planResume f).run.run s = (.ok d, t)) :
    exec (.crsm f) s = .next (((((vget t.core.chans f.ch.toNat Channel.reset).cur.elim t
      fun c => t.dropReads (.copy t.coreNo c.num)).modCore fun c => (c.syncFetch f.ch.toNat false).modChan f.ch.toNat fun ch =>
        ch.restart fun k => d.elim k fun d => { k with args := { k.args with desc := d }, next := none })).dropWaiter
          (.copy t.coreNo f.ch)) := by
  rw [exec_crsm, execCrsm, guarded_true _ hg]
  refine congrArg _ ((issueC_ok h).trans ?_)
  cases hc : (vget t.core.chans f.ch.toNat Channel.reset).cur <;> cases d <;> rfl

/-- What a CSTS writes: the channel's state, the words of its copy, its watermark. -/
def Channel.shownWords (ch : Channel) : List (BitVec 64) :=
  let word (k : Nat) : BitVec 64 := ch.cur.elim 0 fun c => Copy.word c k
  [ch.chs, word 0, word 1, word 2, word 3, word 4, word 5, ch.wm.word]

/-- A CSTS past the end of the scratchpad traps. -/
theorem exec_csts_beyond {f : FmtKS} {s : State} (hg : s.holds f.g = true) (h : s.core.spadSize < f.spa.toNat + 64) :
    exec (.csts f) s = .next (s.trapAtIssue 0x30 (BitVec.ofNat 64 (max f.spa.toNat s.core.spadSize)) 0x1B 0) := by
  rw [exec_csts, execCsts, guarded_true _ hg]
  refine congrArg _ (issueC_trap ?_)
  dsimp only
  rw [Chk.run_get_bind, Chk.run_require_of_false (by simpa using h)]
  rfl

/-- A CSTS that is not aligned traps. -/
theorem exec_csts_misaligned {f : FmtKS} {s : State} (hg : s.holds f.g = true) (h : f.spa.toNat + 64 ≤ s.core.spadSize)
    (ha : f.spa.toNat % 8 ≠ 0) : exec (.csts f) s = .next (s.trapAtIssue 0x31 (BitVec.ofNat 64 f.spa.toNat) 0x1B 0) := by
  rw [exec_csts, execCsts, guarded_true _ hg]
  refine congrArg _ (issueC_trap ?_)
  dsimp only
  rw [Chk.run_get_bind, Chk.run_require_of_true (by simpa using h), Chk.run_require_of_false (beq_eq_false_iff_ne.mpr ha)]
  rfl

/-- A CSTS whose checks pass writes the channel's words. -/
theorem exec_csts_writes {f : FmtKS} {s : State} (hg : s.holds f.g = true) (h : f.spa.toNat + 64 ≤ s.core.spadSize)
    (ha : f.spa.toNat % 8 = 0) (hf : s.core.frozenAccess [(List.range 64).map (f.spa.toNat + ·)] = none) :
    exec (.csts f) s = .next (s.writeSpad
      (wholeBytes f.spa.toNat (wordBytes (vget s.core.chansSeen f.ch.toNat Channel.reset).shownWords))) := by
  rw [exec_csts, execCsts, guarded_true _ hg]
  refine congrArg _ ((issueC_ok (a := ()) (t := s) ?_).trans ?_)
  · dsimp only
    rw [Chk.run_get_bind, Chk.run_require_of_true (by simpa using h), Chk.run_require_of_true (beq_iff_eq.mpr ha), hf]
    rfl
  · cases hc : (vget s.core.chansSeen f.ch.toNat Channel.reset).cur <;>
      simp [Channel.shownWords, wordBytes, hc, List.range_succ]

/-- Settles O37: each operation's checks decide between its effect and its trap; an aborted channel is one whose copy ends
(`Core.vget_abortChan`), and what CSTS writes reads back word by word (`Memory.num_store_wordBytes`). -/
theorem channelControlActs : Obligations.ChannelControlActs := by
  unfold Obligations.ChannelControlActs
  refine ⟨fun f s hg => ⟨fun h => ?append, fun h => ?gatherFull⟩,
    fun f s hg => ⟨fun ha l t h => exec_csch_reads hg ha h, fun ha => exec_csch_misaligned hg ha⟩,
    fun f s hg => ⟨fun h => ?step, fun r t h => ?stepCause⟩,
    fun f s hg => ⟨fun hc => ?abortNone, fun c hc => ⟨fun hf => ?abort, fun hf => ?ending⟩⟩,
    fun k n hn => ?ends,
    fun f s hg => ⟨fun hn h => exec_crsm_restarts hg (planResume_of_stopped hn h), fun _ d t h => exec_crsm_restarts hg h,
      fun h3 h4 => ?resumeTraps⟩,
    fun f s hg => ?priority,
    fun f s hg => ⟨fun h => exec_csts_beyond hg h, fun h ha => exec_csts_misaligned hg h ha, fun h ha hf hwf => ?shown⟩⟩
  case append => rw [exec_gqin, execGqin, guarded_true _ hg, if_neg (by omega)]
  case gatherFull => rw [exec_gqin, execGqin, guarded_true _ hg, if_pos h]
  case step => simp only [exec_cstep, execCstep, guarded_true _ hg, h]
  case stepCause => simp only [exec_cstep, execCstep, guarded_true _ hg, h]
  case abortNone => simp only [exec_cabt, execCabt, guarded_true _ hg, hc]
  case abort =>
    simp only [exec_cabt, execCabt, guarded_true _ hg, hc]
    exact congrArg _ (if_neg (ne_true_of_eq_false hf))
  case ending =>
    simp only [exec_cabt, execCabt, guarded_true _ hg, hc]
    exact congrArg _ (if_pos hf)
  case ends =>
    intro ch h hc
    have he : h = ch.finish := Core.vget_abortChan k n hn hc
    rw [he]
    refine ⟨ch.finish_ids.1, ch.finish_ids.2, fun hq => ?_, fun c q hq => ?_⟩
    · simp [Channel.finish, Channel.advance, hq]
    · simp [Channel.finish, Channel.advance, Channel.begin, hq]
  case resumeTraps => rw [exec_crsm, execCrsm, guarded_true _ hg, issueC_trap (planResume_of_running h3 h4)]
  case priority => rw [exec_cpri, execCpri, guarded_true _ hg]
  case shown =>
    have hs := s.spad_writeSpad_wholeBytes f.spa.toNat (wordBytes (vget s.core.chansSeen f.ch.toNat Channel.reset).shownWords)
    have hw (k : Nat) (hk : k < 8) := Memory.num_store_wordBytes f.spa.toNat k
      (vget s.core.chansSeen f.ch.toNat Channel.reset).shownWords hwf hk
    refine ⟨_, exec_csts_writes hg h ha hf, rfl, ?_, fun k hk => ?_, ?_, fun b hb => ?_, s.writeSpad_frame _⟩
    · rw [hs]; exact hw 0 (by omega)
    · rw [hs, show f.spa.toNat + 8 + 8 * k = f.spa.toNat + 8 * (k + 1) by ring, hw (k + 1) (by omega)]
      interval_cases k <;> rfl
    · rw [hs]; exact hw 7 (by omega)
    · rw [hs, Memory.read_store _ _ _ hwf, if_neg]
      rw [length_wordBytes]
      simp only [Channel.shownWords, List.length_cons, List.length_nil]
      omega

end Sys2Proof.Machine
end

section
/-! SUPPORT. What a boot, a function reset and page requests sent on change (spec/20 R310; spec/27 R370 to R372, R380, R397). -/
namespace Sys2Proof.Machine

/-- Page requests sent on change the two lists of requests and what was sent, nothing else. -/
theorem pumpPages_frame (k : Nat) (s : State) : ∃ w r m, pumpPages k s = { s with pageWait := w, pageReqs := r, sent := m } := by
  induction k generalizing s with
  | zero => exact ⟨_, _, _, rfl⟩
  | succ k ih =>
    unfold pumpPages
    split
    · split
      · exact ⟨_, _, _, rfl⟩
      · next r rest t hw _ _ =>
        obtain ⟨w, q, m, h⟩ := ih (({ s with pageWait := rest, pageReqs := s.pageReqs ++ [{ r with tag := t }] }).send
          (.pageRequest (s.asidPort r.asid) t r.asid r.page r.rd r.wr))
        exact ⟨w, q, m, h⟩
    · exact ⟨_, _, _, rfl⟩

/-- What a function reset answers for, page requests sent on leave. -/
theorem pumpPages_fields (k : Nat) (s : State) :
    (pumpPages k s).hsem = s.hsem ∧ (pumpPages k s).priStopped = s.priStopped ∧ (pumpPages k s).core = s.core ∧
      (pumpPages k s).hbm = s.hbm ∧ (pumpPages k s).msix = s.msix := by
  obtain ⟨w, r, m, h⟩ := pumpPages_frame k s
  rw [h]
  exact ⟨rfl, rfl, rfl, rfl, rfl⟩

/-- The log with one entry more is the newest 4096 of those there are. -/
theorem take_log_cons (e : LogEntry) (new old : List LogEntry) :
    e :: ((new ++ old).take 4096).take 4095 = ((e :: new) ++ old).take 4096 := by
  rw [List.take_take, List.cons_append, List.take_succ_cons, Nat.min_eq_left (by decide)]

/-- `t` is `s` with HBM channels trained: their parameters, the repairs of lanes logged, and nothing else (R380, R397). -/
def Trained (s t : State) : Prop :=
  ∃ c p n, ∃ new : List LogEntry, (∀ e ∈ new, e.kind = 3 ∧ e.unit = 0) ∧
    t = { s with choices := c, phys := p, logCnt := n, log := (new ++ s.log).take 4096 }

/-- A log that fits is that of a device whose channels are still to be trained. -/
theorem Trained.refl {s : State} (h : s.log.length ≤ 4096) : Trained s s :=
  ⟨s.choices, s.phys, s.logCnt, [], List.forall_mem_nil _, by rw [List.nil_append, List.take_of_length_le h]⟩

/-- One channel more is trained. -/
theorem Trained.step {s t : State} (h : Trained s t) (ch : Nat) : Trained s (trainChannel t ch) := by
  obtain ⟨c, p, n, new, hnew, rfl⟩ := h
  unfold trainChannel
  dsimp only [State.openValue]
  split
  · exact ⟨_, _, _, new, hnew, rfl⟩
  · rw [State.logError]
    dsimp only
    rw [take_log_cons]
    exact ⟨_, _, _, _, List.forall_mem_cons.mpr ⟨⟨rfl, rfl⟩, hnew⟩, rfl⟩

/-- Every channel is trained. -/
theorem trainChannels_trained {s : State} (h : s.log.length ≤ 4096) : Trained s (trainChannels s) := by
  have hall (l : List Nat) (t : State) (ht : Trained s t) : Trained s (l.foldl trainChannel t) := by
    induction l generalizing t with
    | nil => exact ht
    | cons ch l ih => exact ih _ (ht.step ch)
  exact hall _ s (.refl h)

/-- `t` is `s` with its cores changed, and nothing else. -/
def CoresChanged (s t : State) : Prop := ∃ c o, t = { s with core := c, others := o }

/-- Steps that change cores only change cores only, one after another. -/
theorem CoresChanged.foldl {α : Type} {f : State → α → State} (hf : ∀ s a, CoresChanged s (f s a)) (l : List α) (s : State) :
    CoresChanged s (l.foldl f s) := by
  induction l generalizing s with
  | nil => exact ⟨s.core, s.others, rfl⟩
  | cons a l ih =>
    obtain ⟨c, o, h⟩ := hf s a
    obtain ⟨c', o', h'⟩ := ih (f s a)
    exact ⟨c', o', by rw [List.foldl_cons, h', h]⟩

/-- A segment loaded changes cores only. -/
theorem loadSegment_coresChanged (m : Memory) (s : State) (g : Segment) : CoresChanged s (loadSegment m g s) :=
  CoresChanged.foldl (fun s _ => ⟨_, _, s.modCoreAt_frame _ _⟩) g.cores s

/-- The boot of a slot: the channels trained, the cores loaded and started, memory zero, the slot named. -/
theorem bootSlot_boots (k : Bool) {s : State} (h : s.log.length ≤ 4096) :
    ∃ t c o, Trained s t ∧ bootSlot k s =
      { t with
        core := c, others := o,
        fw := { s.fw with runSlot := k, nextSlot := k, svn := (s.fw.slot k).num 8 4, recovery := false },
        hbm := [], metaWords := [], dataBad := [], metaBad := [], devrdy := true } := by
  have ht := trainChannels_trained h
  refine ⟨trainChannels s, ?_⟩
  unfold bootSlot
  dsimp only
  obtain ⟨c, o, hl⟩ := CoresChanged.foldl (loadSegment_coresChanged (s.fw.slot k))
    ((imageSegments (s.fw.slot k)).getD []) (trainChannels s)
  obtain ⟨c', o', hs⟩ := CoresChanged.foldl (fun (s : State) (i : Nat) => ⟨_, _, s.modCoreAt_frame (128 + i) Core.start⟩)
    (List.range 8) (((imageSegments (s.fw.slot k)).getD []).foldl (fun t g => loadSegment (s.fw.slot k) g t) (trainChannels s))
  rw [hs, hl]
  obtain ⟨a, p, n, new, hnew, htr⟩ := ht
  exact ⟨c', o', ⟨a, p, n, new, hnew, htr⟩, by rw [htr]⟩

/-- Rows mapped to spare rows are logged, and nothing else changes (R380). -/
theorem mapRows_frame {s : State} (h : s.log.length ≤ 4096) :
    ∃ l n, l.length ≤ 4096 ∧ mapRows s = { s with log := l, logCnt := n } := by
  unfold mapRows
  generalize s.lasting.filter (fun p => p.unit == 1) = ps
  induction ps generalizing s with
  | nil => exact ⟨_, _, h, rfl⟩
  | cons p ps ih =>
    have hl : (s.logError 3 1 p.index p.at_).log.length ≤ 4096 := by
      rw [State.logError, List.length_cons, List.length_take]; omega
    obtain ⟨l, n, hlen, hm⟩ := ih hl
    exact ⟨l, n, hlen, hm⟩

/-- A device with no launch and no record being written resets its registers and boots. -/
theorem resetDevice_of_quiet {s : State} (hl : s.launches = []) (hw : s.feWrites = []) :
    resetDevice s = boot (resetRegisters (mapRows s)) := by
  unfold resetDevice settleRings
  rw [hl, List.foldl_nil, hw]
  rfl

end Sys2Proof.Machine
end

section
/-! Proof of the obligation O50 (spec/24 R347; spec/27 R370 to R377, R381). -/
namespace Sys2Proof.Machine

/-- A reset of a quiet device whose next image is accepted boots that image (R371, R372). -/
theorem resetDevice_boots {s : State} (hl : s.launches = []) (hw : s.feWrites = []) (hlog : s.log.length ≤ 4096)
    (hi : imageStatus (s.fw.slot s.fw.nextSlot) { s.fw with staged := [], busy := false, status := 0, askFuse := false } = 1) :
    (resetDevice s).devrdy = true ∧ (resetDevice s).fw.runSlot = s.fw.nextSlot ∧ (resetDevice s).fw.recovery = false ∧
      (∃ new : List LogEntry, (resetDevice s).log = (new ++ (mapRows s).log).take 4096 ∧ ∀ e ∈ new, e.kind = 3 ∧ e.unit = 0) ∧
      (resetDevice s).hsem = 0 ∧ (resetDevice s).cycle = 0 ∧ (resetDevice s).hbm = [] := by
  obtain ⟨l, n, hlen, hm⟩ := mapRows_frame hlog
  have hb : resetDevice s = bootSlot s.fw.nextSlot (resetRegisters (mapRows s)) := by
    rw [resetDevice_of_quiet hl hw, hm]
    exact if_pos hi
  obtain ⟨t, c, o, ⟨a, p, k, new, hnew, ht⟩, hboot⟩ :=
    bootSlot_boots s.fw.nextSlot (s := resetRegisters (mapRows s)) (by rw [hm]; exact hlen)
  rw [hb, hboot, ht]
  exact ⟨rfl, rfl, rfl, ⟨new, rfl, hnew⟩, rfl, rfl, rfl⟩

/-- A function reset with no host access open (R370): an HSEM of the port's is free, its MSI-X table and PRI Stopped clear. -/
theorem exec_functionLevelReset_frees {s : State} (port : BitVec 1) (h : s.hostOps = []) :
    Answers (exec (.functionLevelReset port) s) fun t =>
      t.hsem = (if s.ownsHsem port then 0 else s.hsem) ∧ t.priStopped = s.priStopped &&& ~~~(1#2 <<< port.toNat) ∧ t.core = s.core ∧
      t.hbm = s.hbm ∧ t.msix = s.msix.filter fun e => e.1 / 512 != port.toNat := by
  refine ⟨_, rfl, ?_⟩
  dsimp only
  split <;> simp only [h, List.filter_nil, List.foldl_nil, pumpPages_fields, and_self]

/-- An accepted image goes to the slot that does not run (R375). -/
theorem exec_firmwareUpdateDone_accepted {s : State} (hb : s.fw.busy = true) (hi : imageStatus s.fw.staged s.fw = 1) :
    Answers (exec (.firmwareUpdateDone false) s) fun t =>
      t.fw.busy = false ∧ t.fw.status = 1 ∧ t.fw.nextSlot = !s.fw.runSlot ∧ t.fw.slot (!s.fw.runSlot) = s.fw.staged ∧
      t.fw.slot s.fw.runSlot = s.fw.slot s.fw.runSlot := by
  rw [exec_firmwareUpdateDone, execFirmwareUpdateDone]
  simp only [hb, hi, Bool.not_true, Bool.false_eq_true, if_false, ne_eq, not_true_eq_false]
  refine ⟨_, rfl, ?_⟩
  cases hr : s.fw.runSlot <;> simp [Firmware.slot]

/-- An accepted image that fails to be written leaves the slot that runs (R375). -/
theorem exec_firmwareUpdateDone_unwritten {s : State} (hb : s.fw.busy = true) (hi : imageStatus s.fw.staged s.fw = 1) :
    Answers (exec (.firmwareUpdateDone true) s) fun t =>
      t.fw.busy = false ∧ t.fw.status = 8 ∧ t.fw.nextSlot = s.fw.nextSlot ∧
      t.fw.slot s.fw.runSlot = s.fw.slot s.fw.runSlot := by
  rw [exec_firmwareUpdateDone, execFirmwareUpdateDone]
  simp only [hb, hi, Bool.not_true, Bool.false_eq_true, if_false, ne_eq, not_true_eq_false, if_true]
  refine ⟨_, rfl, ?_⟩
  cases hr : s.fw.runSlot <;> split <;> simp [Firmware.slot]

/-- Bytes written in host memory through a host port leave everything but host memory and what was sent. -/
theorem State.writeHost_frame (s : State) (port : BitVec 1) (a : Nat) (l : List (BitVec 8)) :
    ∃ m, s.writeHost port a l = { s with hostMem := s.hostMem.store (a % 2 ^ 44) l, sent := m } := by
  unfold State.writeHost
  generalize payloads _ _ _ = ps
  generalize ht : ({ s with hostMem := s.hostMem.store (a % 2 ^ 44) l } : State) = t
  have hall : ∃ m, ps.foldl (fun s p => s.send (.hostWrite port p.1 p.2)) t = { t with sent := m } := by
    clear ht
    induction ps generalizing t with
    | nil => exact ⟨_, rfl⟩
    | cons p ps ih =>
      obtain ⟨m, h⟩ := ih (t.send (.hostWrite port p.1 p.2))
      exact ⟨m, h⟩
  obtain ⟨m, hm⟩ := hall
  exact ⟨m, by rw [hm, ← ht]⟩

/-- A report that is written carries the snapshot and its signature (R377). -/
theorem exec_attestationReport_written {s : State} (hb : s.attest.busy = true) :
    Answers (exec (.attestationReport false) s) fun t => t.attest.busy = false ∧ t.attest.status = 1 ∧ ∃ r : BitVec 128,
      t.hostMem = s.hostMem.store (s.attest.dest.toNat / 64 * 64 % 2 ^ 44)
        (s.attest.snapshot ++ slhSign (identitySecret s.fw.seed) (leBytes 16 r.toNat) s.attest.snapshot) := by
  refine ⟨_, by rw [exec_attestationReport, execAttestationReport, hb]; rfl, ?_⟩
  dsimp only
  obtain ⟨m, h⟩ := State.writeHost_frame { (s.openValue 128).2 with attest := { s.attest with busy := false, status := 1, snapshot := [] } }
    s.attest.port (s.attest.dest.toNat / 64 * 64)
    (s.attest.snapshot ++ slhSign (identitySecret s.fw.seed) (leBytes 16 (s.openValue 128).1.toNat) s.attest.snapshot)
  exact ⟨congrArg (fun t : State => t.attest.busy) h, congrArg (fun t : State => t.attest.status) h, (s.openValue 128).1,
    congrArg State.hostMem h⟩

/-- Settles O50: the semaphore's owner acts alone; a reset is the boot of the next image on reset registers. -/
theorem securityEventsAct : Obligations.SecurityEventsAct := by
  unfold Obligations.SecurityEventsAct
  refine ⟨fun s port => ⟨fun h => ?free, fun h hp => ?held, fun h hp ha => ?both, fun ho => ?owner, fun ho => ?other,
      fun h _ => exec_functionLevelReset_frees port h, fun hb => ?ask, fun hb => ⟨?failed, exec_attestationReport_written hb⟩⟩,
    fun s => ⟨rfl, resetDevice_boots, fun hf hr hn => ?fuse, exec_firmwareUpdateDone_accepted, exec_firmwareUpdateDone_unwritten,
      fun hb hi e => ?refused, ⟨_, rfl, rfl, rfl, _, _, rfl, rfl⟩, ⟨_, rfl, _, _, rfl, rfl⟩⟩⟩
  case free => rw [exec_hsemAcquire, execHsemAcquire, if_pos h]
  case held =>
    rw [exec_hsemAcquire, execHsemAcquire, if_neg h, if_neg]
    rintro ⟨rfl, ha⟩
    cases hp with
    | inl hp => exact absurd hp (by decide)
    | inr hp => exact absurd ha (by rw [hp]; decide)
  case both => rw [exec_hsemAcquire, execHsemAcquire, if_neg h, if_pos ⟨hp, ha⟩]
  case owner =>
    refine ⟨?_, ?_, fun hb fuse => ?_⟩
    · rw [exec_hsemRelease, execHsemRelease, if_pos ho]
    · rw [exec_deviceReset, execDeviceReset, State.ownerOnly, if_pos ho]
    · rw [exec_firmwareUpdate, execFirmwareUpdate, State.ownerOnly, if_pos ho, if_neg (ne_true_of_eq_false hb)]
  case other =>
    have ho := ne_true_of_eq_false ho
    refine ⟨?_, ?_, fun fuse => ?_⟩
    · rw [exec_hsemRelease, execHsemRelease, if_neg ho]
    · rw [exec_deviceReset, execDeviceReset, State.ownerOnly, if_neg ho]
    · rw [exec_firmwareUpdate, execFirmwareUpdate, State.ownerOnly, if_neg ho]
  case ask => exact ⟨_, by rw [exec_attestationRequest, execAttestationRequest, if_neg (ne_true_of_eq_false hb)], rfl⟩
  case failed =>
    rw [exec_attestationReport, execAttestationReport, hb]
    exact ⟨_, rfl, rfl, rfl, rfl⟩
  case fuse =>
    rw [exec_firmwareUpdateFuse, execFirmwareUpdateFuse]
    simp only [hf, hr, hn, beq_self_eq_true, Bool.not_false, Bool.and_self, if_true]
  case refused =>
    rw [exec_firmwareUpdateDone, execFirmwareUpdateDone, hb]
    exact if_pos hi

end Sys2Proof.Machine
end

section
/-! SUPPORT. Host accesses through BAR2, device memory and pattern tests (spec/19 R283, R285; spec/27 R367, R368, R397). -/
namespace Sys2Proof.Machine

/-! ## The accesses of a port -/

/-- A source with no access that waits does nothing. -/
theorem pumpSource_of_none {mine : HostOp → Bool} {s : State} (h : ∀ g ∈ s.hostOps, mine g = false) (k : Nat) :
    pumpSource mine k s = s := by
  cases k with
  | zero => rfl
  | succ k =>
    have hn : s.hostOps.find? mine = none := List.find?_eq_none.mpr fun g hg => ne_true_of_eq_false (h g hg)
    rw [pumpSource, hn]

/-- A source whose oldest access cannot go on stays with what that attempt left. -/
theorem pumpSource_of_waits {mine : HostOp → Bool} {s t : State} {g : HostOp} (hg : s.hostOps.find? mine = some g)
    (hs : hostStep g s = (false, t)) (k : Nat) : pumpSource mine (k + 1) s = t := by
  rw [pumpSource, hg]
  dsimp only
  rw [hs]

/-- A source whose only access ends has none left. -/
theorem pumpSource_of_ends {mine : HostOp → Bool} {s t : State} {g : HostOp} (hg : s.hostOps.find? mine = some g)
    (hs : hostStep g s = (true, t)) (ht : t.hostOps = []) (k : Nat) : pumpSource mine (k + 1) s = t := by
  rw [pumpSource, hg]
  dsimp only
  rw [hs]
  exact pumpSource_of_none (by rw [ht]; exact fun _ h => absurd h List.not_mem_nil) k

/-- An access of one port is none of the other. -/
theorem HostOp.fromPort_of_ne {g : HostOp} {p q : BitVec 1} (h : g.fromPort p = true) (hn : p ≠ q) : g.fromPort q = false := by
  simp only [HostOp.fromPort, Bool.and_eq_true, beq_iff_eq] at h
  simp [HostOp.fromPort, h.2, hn]

/-- An access of a port is of no other device. -/
theorem HostOp.dev_of_fromPort {g : HostOp} {p : BitVec 1} (h : g.fromPort p = true) : g.dev = none := by
  simp only [HostOp.fromPort, Bool.and_eq_true] at h
  exact Option.isNone_iff_eq_none.mp h.1

/-- Where one port's accesses alone wait, the accesses go on as that port's do. -/
theorem State.pumpHost_of_port {u t : State} {p : BitVec 1} (hu : ∀ g ∈ u.hostOps, g.fromPort p = true)
    (ht : ∀ g ∈ t.hostOps, g.fromPort p = true)
    (hp : pumpSource (HostOp.fromPort p) (u.hostOps.map fun h => h.len / 128 + 3).sum u = t) : u.pumpHost = t := by
  have hports : ∀ n, n = (u.hostOps.map fun h => h.len / 128 + 3).sum →
      pumpSource (HostOp.fromPort 1) n (pumpSource (HostOp.fromPort 0) n u) = t := by
    rintro n rfl
    rcases (by bv_omega : p = 0 ∨ p = 1) with rfl | rfl
    · rw [hp]
      exact pumpSource_of_none (fun g hg => HostOp.fromPort_of_ne (ht g hg) (by decide)) _
    · rw [pumpSource_of_none (fun g hg => HostOp.fromPort_of_ne (hu g hg) (by decide))]
      exact hp
  have hdev : t.hostOps.filterMap (·.dev) = [] := List.filterMap_eq_nil_iff.mpr fun g hg => HostOp.dev_of_fromPort (ht g hg)
  unfold State.pumpHost
  dsimp only
  rw [hports _ rfl, hdev]
  rfl

/-- Accesses that wait give their source some attempts. -/
theorem attempts_pos {l : List HostOp} (h : l ≠ []) : ∃ k, (l.map fun h => h.len / 128 + 3).sum = k + 1 := by
  cases l with
  | nil => exact absurd rfl h
  | cons g l => exact ⟨g.len / 128 + 2 + (l.map fun h => h.len / 128 + 3).sum, by rw [List.map_cons, List.sum_cons]; omega⟩

/-- An access alone in its port, ended by one attempt. -/
theorem State.pumpHost_of_ends {u t : State} {h : HostOp} {p : BitVec 1} (hu : u.hostOps = [h]) (hh : h.fromPort p = true)
    (hs : hostStep h u = (true, t)) (ht : t.hostOps = []) : u.pumpHost = t := by
  refine State.pumpHost_of_port (p := p) (by simpa [hu] using hh) (by rw [ht]; exact fun _ h => absurd h List.not_mem_nil) ?_
  obtain ⟨k, hk⟩ := attempts_pos (l := u.hostOps) (by rw [hu]; exact List.cons_ne_nil _ _)
  have hf : u.hostOps.find? (HostOp.fromPort p) = some h := by rw [hu, List.find?_cons_of_pos hh]
  rw [hk]
  exact pumpSource_of_ends hf hs ht k

/-- An access behind one of its port that waits stays. -/
theorem State.pumpHost_of_waits {u t : State} {g h : HostOp} {p : BitVec 1} (hu : u.hostOps = [g, h]) (hg : g.fromPort p = true)
    (hh : h.fromPort p = true) (hs : hostStep g u = (false, t)) (ht : t.hostOps = [g, h]) : u.pumpHost = t := by
  have hall : ∀ x ∈ [g, h], x.fromPort p = true := by simp [hg, hh]
  refine State.pumpHost_of_port (p := p) (by rw [hu]; exact hall) (by rw [ht]; exact hall) ?_
  obtain ⟨k, hk⟩ := attempts_pos (l := u.hostOps) (by rw [hu]; exact List.cons_ne_nil _ _)
  have hf : u.hostOps.find? (HostOp.fromPort p) = some g := by rw [hu, List.find?_cons_of_pos hg]
  rw [hk]
  exact pumpSource_of_waits hf hs k

/-! ## One attempt at an access of the control blocks -/

/-- What a read of a control register answers: it is one access, whatever its size. -/
def controlAnswer (la n : Nat) (s : State) : HostDone × State :=
  if devSizeOk la n then
    match devRead la n s with
    | (some l, s) => (.done l, s)
    | (none, s) => (.later, s)
  else (.unsupported, s)

/-- A read of a control register is answered by one attempt. (`hostRead` is unfolded by its definition: the kernel does not check its
equation for a successor.) -/
theorem hostRead_of_control (who : Asker) {la n : Nat} (k : Nat) (s : State) (hn : 0 < n) (hr : rangeOf la = .control) :
    hostRead who la n (k + 1) [] s = controlAnswer la n s := by
  delta hostRead
  dsimp only
  delta hostRead._f
  dsimp only
  rw [if_neg (by rw [List.length_nil]; omega), List.length_nil, Nat.add_zero, hr]
  rfl

/-- An attempt at a control register of a size that it does not take ends it (R283). -/
theorem hostStep_of_badSize {h : HostOp} {s : State} (hd : h.dev = none) (hr : rangeOf h.la = .control)
    (hz : devSizeOk h.la ((h.data.map List.length).getD h.len) = false) (hn : 0 < h.len) :
    hostStep h s = (true, ({ s with hostOps := s.hostOps.erase h } : State).send (.unsupported h.port)) := by
  unfold hostStep
  cases hdata : h.data with
  | none =>
    replace hz : devSizeOk h.la h.len = false := by rw [hdata] at hz; exact hz
    dsimp only
    rw [hostRead_of_control _ _ _ hn hr, controlAnswer, if_neg (ne_true_of_eq_false hz), hd]
    rfl
  | some l =>
    rw [hdata] at hz
    have hwrite : hostWriteLine h.asker h.port h.la l s = (.unsupported, s) := by
      simp only [hostWriteLine, hr]
      exact if_neg (ne_true_of_eq_false hz)
    simp only [hr, beq_self_eq_true, if_true, List.take_length, hwrite, hd]
    rfl

/-- A write of a control register acts. -/
theorem hostStep_of_write {h : HostOp} {s : State} {l : List (BitVec 8)} (hdata : h.data = some l) (hr : rangeOf h.la = .control)
    (hz : devSizeOk h.la l.length = true) : hostStep h s =
      (true, { devWrite (.host h.port) h.la l s with hostOps := (devWrite (.host h.port) h.la l s).hostOps.erase h }) := by
  have hwrite : hostWriteLine h.asker h.port h.la l s = (.done [], devWrite (.host h.port) h.la l s) := by
    simp only [hostWriteLine, hr]
    rw [if_pos hz]
  unfold hostStep
  simp only [hdata, hr, beq_self_eq_true, if_true, List.take_length, hwrite, le_refl]

/-- A read of a control register that answers is sent. -/
theorem hostStep_of_read {h : HostOp} {s t : State} {l : List (BitVec 8)} (hd : h.dev = none) (hdata : h.data = none)
    (hr : rangeOf h.la = .control) (hz : devSizeOk h.la h.len = true) (hn : 0 < h.len) (ht : devRead h.la h.len s = (some l, t)) :
    hostStep h s = (true, ({ t with hostOps := t.hostOps.erase h } : State).send (.hostRead h.port h.len l)) := by
  have hread : hostRead h.asker h.la h.len (h.len + 1) [] s = (.done l, t) := by
    rw [hostRead_of_control _ _ _ hn hr, controlAnswer, if_pos hz, ht]
  unfold hostStep
  simp only [hdata, hread, HostOp.answer, hd]

/-! ## OPM windows (R285) -/

/-- No remembered operation's payload stands below the special registers of a window. -/
theorem payloadPlace_of_spad {o : Nat} (h : o < 0x300000) : payloadPlace o = none := by
  rw [payloadPlace, if_neg (by omega), if_neg (by omega)]

/-- Bytes written to a window's scratchpad are stored there, and change nothing else but which bytes are bad. -/
theorem opmPutAll_of_spad (s : State) (no : Nat) {k o : Nat} {c : Core} {l : List (BitVec 8)} (hk : l.length ≤ k)
    (h : o + l.length ≤ 0x300000) : ∃ bad, opmPutAll s no k c o l = { c with spad := c.spad.store o l, spadBad := bad } := by
  induction k generalizing c o l with
  | zero =>
    obtain rfl := List.length_eq_zero_iff.mp (Nat.le_zero.mp hk)
    exact ⟨c.spadBad, rfl⟩
  | succ k ih =>
    cases l with
    | nil => exact ⟨c.spadBad, rfl⟩
    | cons b l =>
      rw [List.length_cons] at hk h
      have ho : o < 0x300000 := by omega
      have hc : opmChunk o (l.length + 1) = 1 := by rw [opmChunk, if_pos (.inl ho)]
      have hp : opmPut s no c o [b] = { c with spad := c.spad.write o b, spadBad := c.spadBad.filter (· != o) } := by
        rw [opmPut, if_pos ho]; rfl
      have hno : storesNoOp s no c o [b] = false := by rw [storesNoOp, payloadPlace_of_spad ho]
      obtain ⟨bad, hr⟩ := ih (c := opmPut s no c o [b]) (o := o + 1) (l := l) (by omega) (by omega)
      refine ⟨bad, ?_⟩
      rw [opmPutAll, Memory.store]
      simp only [hc, List.take_succ_cons, List.take_zero, List.drop_succ_cons, List.drop_zero, hno]
      rw [if_neg Bool.false_ne_true, hr, hp]

/-- A write of a window's scratchpad lands there and changes its core only. -/
theorem State.opmWrite_lands (s : State) (no o : Nat) (l : List (BitVec 8)) (h : o + l.length ≤ 0x300000) :
    (s.opmWrite no o l).hbm = s.hbm ∧ ((s.opmWrite no o l).coreAt no).spad = (s.coreAt no).spad.store o l ∧
      ((s.opmWrite no o l).coreAt no).bankA = (s.coreAt no).bankA := by
  obtain ⟨bad, hp⟩ := opmPutAll_of_spad s no (c := s.coreAt no) le_rfl h
  have hc : (s.opmWrite no o l).coreAt no = { s.coreAt no with spad := (s.coreAt no).spad.store o l, spadBad := bad } := by
    rw [State.opmWrite, State.coreAt_setCoreAt, if_pos rfl, hp]
  refine ⟨?_, by rw [hc], by rw [hc]⟩
  rw [State.opmWrite, State.setCoreAt]
  split <;> rfl

/-! ## Pattern tests (R397) -/

/-- A channel's parameters changed, and every other channel's as before. -/
theorem State.phy_modPhy (s : State) (ch k : Nat) (f : Phy → Phy) : (s.modPhy ch f).phy k = if k = ch then f (s.phy ch) else s.phy k :=
  Sparse.at_put ..

/-- The PTEST register of a channel reads its error count. -/
theorem controlWord_ptest {s : State} (hr : s.fw.recovery = false) (ch : BitVec 8) :
    controlWord s (0x10000010 + 0x1000 * ch.toNat) = some ((s.phy ch.toNat).errors.setWidth 64) := by
  have hc := ch.isLt
  generalize ho : 0x10000010 + 0x1000 * ch.toNat = o
  have h1 : 0x10000000 ≤ o ∧ o < 0x10100000 := by omega
  have h2 : o % 0x1000 = 0x10 := by omega
  have h3 : (o - 0x10000000) / 0x1000 = ch.toNat := by omega
  unfold controlWord
  rw [hr]
  simp (disch := omega) only [if_neg, if_pos, Bool.false_eq_true, false_and, if_false, h2, h3]

/-- A read of a channel's PTEST answers its error count while no test runs. -/
theorem devRead_ptest {s : State} (hr : s.fw.recovery = false) (ch : BitVec 8) (ht : (s.phy ch.toNat).running = false) :
    devRead (0x3E0010000010 + 0x1000 * ch.toNat) 4 s = (some (leBytes 4 (s.phy ch.toNat).errors.toNat), s) := by
  have hc := ch.isLt
  have hread : controlRead (0x10000010 + 0x1000 * ch.toNat) s = (some ((s.phy ch.toNat).errors.setWidth 64), s) := by
    have hn : (0x10000010 + 0x1000 * ch.toNat - 0x10000000) / 0x1000 = ch.toNat := by omega
    rw [controlRead, if_neg (by omega), hn, ht, if_neg (by simp), controlWord_ptest hr]
  have hrange : rangeOf (0x3E0010000010 + 0x1000 * ch.toNat) ≠ .opm := by
    simp (disch := omega) only [rangeOf, if_neg, if_pos, ne_eq, reduceCtorEq, not_false_eq_true]
  have ho : (0x3E0010000010 + 0x1000 * ch.toNat - 0x3E0000000000) / 8 * 8 = 0x10000010 + 0x1000 * ch.toNat := by omega
  have hm : (0x3E0010000010 + 0x1000 * ch.toNat - 0x3E0000000000) % 8 = 0 := by omega
  rw [devRead, if_neg hrange]
  dsimp only
  rw [ho, hread, hm]
  simp [Nat.mod_eq_of_lt (show (s.phy ch.toNat).errors.toNat < 18446744073709551616 by omega)]

/-- A load of a channel's PTEST that waited lands the error count once no test runs (R397). -/
theorem exec_ptestRead_lands {s : State} {ch : BitVec 8} {a : GAccess} (ht : (s.phy ch.toNat).running = false)
    (hr : s.fw.recovery = false) (ha : s.bank.accesses.find? (fun a => a.readsPtest s.devId ch) = some a)
    (hb : s.bank.blocked a = false) (hn : a.n = 4) :
    exec (.ptestRead ch) s = .next (s.landAccess s.core.cur a.id ((s.phy ch.toNat).errors.setWidth 128)) := by
  have hp := List.find?_some ha
  rw [GAccess.readsPtest] at hp
  split at hp
  case h_2 => exact absurd hp Bool.false_ne_true
  case h_1 pa ca hphase =>
    simp only [Bool.and_eq_true, beq_iff_eq] at hp
    obtain ⟨⟨hk, hdev⟩, hla⟩ := hp
    have hc := ch.isLt
    have hd : deviceAddr pa = true := by
      rw [deviceAddr, hla]
      simp (disch := omega) only [rangeOf, if_neg, if_pos, Range.isDevice]
    have hv : BitVec.ofNat 128 (leNat (leBytes 4 (s.phy ch.toNat).errors.toNat)) = (s.phy ch.toNat).errors.setWidth 128 := by
      rw [leNat_leBytes, Nat.mod_eq_of_lt (s.phy ch.toNat).errors.isLt, BitVec.ofNat_toNat]
    rw [exec_ptestRead, execPtestRead]
    simp only [ha, performAccess, hphase, State.bankOf_cur, hb, Bool.false_eq_true, if_false, hk, performLoad, hd, if_true, hdev, hla,
      hn, devRead_ptest hr ch ht, hv]

/-! ## Register writes (R283) -/

/-- A register write that the control blocks do not take changes nothing. -/
theorem exec_registerWrite_refused {who : Writer} {off : BitVec 46} {n : Nat} {v : BitVec 64} {s : State}
    (h : rangeOf off.toNat ≠ .control ∨ (n ≠ 4 ∧ n ≠ 8) ∨ off.toNat % n ≠ 0) : exec (.registerWrite who off n v) s = .next s := by
  rw [exec_registerWrite, execRegisterWrite, if_pos]
  rw [not_or]
  exact h

/-- A register write with none of its port before it acts. -/
theorem exec_registerWrite_acts {who : Writer} {off : BitVec 46} {n : Nat} {v : BitVec 64} {s : State}
    (hr : rangeOf off.toNat = .control) (hn : n = 4 ∨ n = 8) (ha : off.toNat % n = 0)
    (hf : ∀ port, who = .host port → s.hostOps.any (HostOp.fromPort port) = false) :
    exec (.registerWrite who off n v) s = .next (regWrite who (off.toNat - 0x3E0000000000) n v s) := by
  rw [exec_registerWrite, execRegisterWrite, if_neg (by simp only [hr, hn, ha, ne_eq, not_true_eq_false, or_self, not_false_eq_true])]
  cases who with
  | host port =>
    dsimp only
    rw [if_neg (ne_true_of_eq_false (hf port rfl))]
  | collie k => rfl
  | task => rfl

/-- A register write behind an access of its port joins the port's accesses. -/
theorem exec_registerWrite_joins {port : BitVec 1} {off : BitVec 46} {n : Nat} {v : BitVec 64} {s : State}
    (hr : rangeOf off.toNat = .control) (hn : n = 4 ∨ n = 8) (ha : off.toNat % n = 0)
    (hf : s.hostOps.any (HostOp.fromPort port) = true) : exec (.registerWrite (.host port) off n v) s = .next
      (State.pumpHost { s with hostOps := s.hostOps ++ [⟨none, port, off.toNat, n, some (leBytes n v.toNat)⟩] }) := by
  rw [exec_registerWrite, execRegisterWrite, if_neg (by simp only [hr, hn, ha, ne_eq, not_true_eq_false, or_self, not_false_eq_true])]
  dsimp only
  rw [if_pos hf]

/-- XINVA takes what is written (R308). -/
theorem regWrite_xinva {s : State} (who : Writer) (hr : s.fw.recovery = false) (v : BitVec 64) :
    regWrite who 0x210000 8 v s = { s with xinva := v } := by
  simp [regWrite, plainWrite, mergeWrite, hr]

end Sys2Proof.Machine
end

section
/-! Proof of the obligation O51 (spec/19 R283, R285; spec/27 R367, R368, R396, R397). -/
namespace Sys2Proof.Machine

/-- A host access that its window or its size refuses completes with Unsupported Request. -/
theorem exec_hostWindowAccess_refused {s : State} {port : BitVec 1} {off : BitVec 36} {len : Nat} {data : Option (List (BitVec 8))}
    (h : (vget s.hap port.toNat 0).getLsbD 63 = false ∨
      rangeOf (((vget s.hap port.toNat 0).extractLsb' 0 10).toNat * 2 ^ 36 + off.toNat) = .unassigned ∨
      (data.map List.length).getD len = 0 ∨ (if data.isSome then 512 else 4096) < (data.map List.length).getD len) :
    exec (.hostWindowAccess port off len data) s = .next (s.send (.unsupported port)) := by
  rw [exec_hostWindowAccess]
  cases data with
  | none => exact if_pos (by simpa [or_assoc] using h)
  | some l => exact if_pos (by simpa [or_assoc] using h)

/-- A host access through an open window joins the accesses of its port. -/
theorem exec_hostWindowAccess_joins {s : State} {port : BitVec 1} {off : BitVec 36} {len : Nat} {data : Option (List (BitVec 8))}
    (hw : (vget s.hap port.toNat 0).getLsbD 63 = true)
    (hr : rangeOf (((vget s.hap port.toNat 0).extractLsb' 0 10).toNat * 2 ^ 36 + off.toNat) ≠ .unassigned)
    (hn : 0 < (data.map List.length).getD len) (hm : (data.map List.length).getD len ≤ (if data.isSome then 512 else 4096)) :
    exec (.hostWindowAccess port off len data) s = .next (State.pumpHost { s with hostOps := s.hostOps ++
      [⟨none, port, ((vget s.hap port.toNat 0).extractLsb' 0 10).toNat * 2 ^ 36 + off.toNat, (data.map List.length).getD len, data⟩] }) := by
  rw [exec_hostWindowAccess]
  cases data with
  | none => exact if_neg (by simpa [or_assoc, Nat.pos_iff_ne_zero] using And.intro hw (And.intro hr (And.intro hn hm)))
  | some l => exact if_neg (by simpa [or_assoc, Nat.pos_iff_ne_zero] using And.intro hw (And.intro hr (And.intro hn hm)))

/-- An optional length, or itself where there is none. -/
theorem getD_getD_self (o : Option Nat) (d : Nat) : o.getD (o.getD d) = o.getD d := by cases o <;> rfl

/-- Settles O51: an access alone in its port is one `hostStep`; what a window, a register and a pattern test take are their own
lemmas. -/
theorem hostAccessesAct : Obligations.HostAccessesAct := by
  unfold Obligations.HostAccessesAct
  refine ⟨fun s port off len data => ?window, fun s k off l h => ?opm,
    fun s who off n v => ⟨fun hr hn ha => ⟨fun hf => exec_registerWrite_acts hr hn ha hf, fun port hp hf => ?joins⟩,
      exec_registerWrite_refused, fun hr hf => ?xinva⟩,
    fun s ch => ⟨fun hr => ?runs, fun hr => ?starts, fun hr wrong => ?done,
      fun ht hr a ha hb hn => exec_ptestRead_lands ht hr ha hb hn⟩⟩
  case opm =>
    obtain ⟨hh, hs, -⟩ := s.opmWrite_lands k.toNat off.toNat l h
    exact ⟨_, rfl, hh, hs⟩
  case window =>
    intro w la n most h went
    refine ⟨exec_hostWindowAccess_refused, fun hw hr hn hm => ?_⟩
    have hjoin : went = .next (State.pumpHost { s with hostOps := s.hostOps ++ [h] }) := exec_hostWindowAccess_joins hw hr hn hm
    have hport : h.fromPort port = true := by simp [HostOp.fromPort, h]
    refine ⟨hjoin, fun g t hops hg hs ht => ?_, fun hc hops => ?_⟩
    · rw [hjoin]
      exact congrArg Host.Outcome.next (State.pumpHost_of_waits (by rw [hops]; rfl) hg hport (by rw [hops]; exact hs) ht)
    · intro q
      have hq : ({ s with hostOps := s.hostOps ++ [h] } : State) = q := by rw [hops]; rfl
      have herase : q.hostOps.erase h = [] := by simp [q]
      have hs : ({ q with hostOps := [] } : State) = s := by rw [← hops]
      rw [hjoin, hq]
      refine ⟨fun hz => ?_, fun l hl hz ho => ?_, fun l t hl hz hd ht => ?_⟩ <;> refine congrArg Host.Outcome.next ?_
      · have hstep := hostStep_of_badSize (h := h) (s := q) rfl hc ((congrArg _ (getD_getD_self _ len)).trans hz) hn
        rw [herase, hs] at hstep
        exact State.pumpHost_of_ends rfl hport hstep hops
      · have hl' : n = l.length := show (data.map List.length).getD len = l.length by rw [hl]; rfl
        have hz' : devSizeOk h.la l.length = true := by rw [← hl']; exact hz
        have hstep := hostStep_of_write (h := h) (s := q) hl hc hz'
        have ho' : (devWrite (.host h.port) h.la l q).hostOps.erase h = [] := by rw [show _ = [h] from ho, List.erase_cons_head]
        rw [ho'] at hstep
        exact State.pumpHost_of_ends rfl hport hstep rfl
      · have hstep := hostStep_of_read (h := h) (s := q) rfl hl hc hz hn hd
        rw [ht, List.erase_cons_head] at hstep
        exact State.pumpHost_of_ends rfl hport hstep rfl
  case joins =>
    subst hp
    exact exec_registerWrite_joins hr hn ha hf
  case xinva =>
    rw [exec_registerWrite_acts (by decide) (.inr rfl) (by decide) hf]
    exact congrArg Host.Outcome.next (regWrite_xinva who hr v)
  case runs =>
    refine ⟨_, rfl, fun k => ?_⟩
    rw [State.phy_modPhy, if_pos hr]
    split
    · next h => rw [h]
    · rfl
  case starts =>
    refine ⟨_, rfl, ?_, fun k hk => ?_⟩
    · rw [State.phy_modPhy, if_pos rfl, if_neg (ne_true_of_eq_false hr)]
    · rw [State.phy_modPhy, if_neg hk]
  case done =>
    rw [exec_patternTestDone, execPatternTestDone, if_pos hr]
    exact ⟨_, rfl, (s.phy_modPhy ..).trans (if_pos rfl)⟩

end Sys2Proof.Machine
end

section
/-! SUPPORT. Accesses at home that are done at once, open choices among places, and the copies of channels at work (spec/16 R232 to
R247; spec/21 R315; spec/25 R355, R356). -/
namespace Sys2Proof.Machine

/-! ## Home -/

/-- An access that the home slice serves is done at once. -/
theorem homeAccess_of_hit {k : ReqKind} {who : Asker} {line : Nat} {op : HomeOp} {s : State} (hr : s.request k who line = none)
    (hh : op.hits (s.sliceState line) = true) (fill : Bool) : homeAccess k who line op fill s = homeAct line op fill s := by
  simp only [homeAccess, hr, hh, if_true]

/-- An access to a line with an empty queue, whose other copies do not stand in the way, is served at once. -/
theorem homeAccess_of_free {k : ReqKind} {who : Asker} {line : Nat} {op : HomeOp} {s : State} (hr : s.request k who line = none)
    (hh : op.hits (s.sliceState line) = false) (hb : s.txBusy line = false) (hc : op.calls (s.metaWord (localLine line)) = false)
    (fill : Bool) : homeAccess k who line op fill s = homeServe line op fill s := by
  simp only [homeAccess, hr, hh, hb, hc, Bool.false_eq_true, if_false, Bool.not_false, Bool.or_true, Bool.and_self, if_true]

/-- The read of a good metadata word at a home whose queue for the line is empty (R335). -/
theorem homeAccess_word {k : ReqKind} {who : Asker} {line : Nat} {s : State} (hr : s.request k who line = none)
    (hb : s.txBusy line = false) (hm : s.metaError (localLine line) = false) :
    homeAccess k who line .word false s = (.ready ((s.metaWord (localLine line)).setWidth 1024) false, s) := by
  rw [homeAccess_of_free hr rfl hb rfl, homeServe]
  simp only [hm, Bool.false_eq_true, if_false, Bool.false_and]
  rfl

/-- A scan takes a line that the home slice holds modified from there (R294). -/
theorem homeAccess_scan_modified {k : ReqKind} {who : Asker} {line : Nat} {s : State} {x : SliceLine}
    (hr : s.request k who line = none) (hx : s.sliceLine line = some x) (hd : x.st = .d) :
    homeAccess k who line .scan false s = (.ready x.data x.poison, s) := by
  rw [homeAccess_of_hit hr (by rw [State.sliceState, hx, Option.map_some, hd]; rfl), homeAct]
  simp only [hx, Option.any_some, hd, beq_self_eq_true, if_true, State.homeData]

/-! ## Open choices among places -/

/-- With no place nothing is chosen. -/
theorem chooseFrom_zero (holds : Nat → Bool) (s : State) : chooseFrom 0 holds s = (none, s) := rfl

/-- What is chosen holds. -/
theorem holds_of_chooseFrom {n k : Nat} {holds : Nat → Bool} {s t : State} (h : chooseFrom n holds s = (some k, t)) :
    holds k = true := by
  simp only [chooseFrom, Prod.mk.injEq] at h
  exact List.find?_some h.1

/-- A number of a run lies in it. -/
theorem mem_run {a n k : Nat} : k ∈ run a n ↔ a ≤ k ∧ k < a + n := by
  simp only [run, List.mem_map, List.mem_range]
  constructor
  · rintro ⟨i, hi, rfl⟩; omega
  · rintro ⟨h1, h2⟩; exact ⟨k - a, by omega, by omega⟩

/-- Where a place holds one that holds is chosen, and nothing changes but the number of choices taken. -/
theorem chooseFrom_some {n j : Nat} {holds : Nat → Bool} (s : State) (hj : j < n) (hh : holds j = true) :
    ∃ k c, k < n ∧ holds k = true ∧ chooseFrom n holds s = (some k, { s with choices := c }) := by
  obtain ⟨c, hc⟩ := s.choose_state n
  have hlt := s.choose_lt n (by omega)
  have hsome : ((run (s.choose n).1 (n - (s.choose n).1) ++ run 0 (s.choose n).1).find? holds).isSome = true := by
    refine List.find?_isSome.mpr ⟨j, List.mem_append.mpr ?_, hh⟩
    rw [mem_run, mem_run]
    omega
  obtain ⟨k, hk⟩ := Option.isSome_iff_exists.mp hsome
  refine ⟨k, c, ?_, List.find?_some hk, ?_⟩
  · have := List.mem_append.mp (List.mem_of_find?_eq_some hk)
    rw [mem_run, mem_run] at this
    omega
  · rw [← hk, ← hc]; rfl

/-! ## Channels -/

/-- A change of the current copy counts for that copy alone. -/
theorem State.onCopy_congr {s : State} {n : Nat} {c : Copy} {f g : Copy → Copy} (hc : (s.chan n).cur = some c) (h : f c = g c) :
    s.onCopy n f = s.onCopy n g := by
  have hf : (vget s.core.chans n Channel.reset).cur = some c := hc
  simp only [State.onCopy, State.onChan, State.modCore, Core.modChan, hf, Option.map_some, h]

/-- Bytes counted against a budget leave the cores alone. -/
theorem State.core_charge (s : State) (k pa n : Nat) : (s.charge k pa n).core = s.core := by
  unfold State.charge
  cases s.resourceOf pa <;> rfl

/-- A copy needs no source byte past its landing index. -/
theorem Copy.fetchFrom_le (c : Copy) : c.fetchFrom ≤ c.lidx := by
  unfold Copy.fetchFrom
  split
  · exact Nat.div_mul_le_self _ _
  · exact le_rfl

/-- The credit that a channel holds for a window grows by what is granted (R356). -/
theorem Channel.held_credit (ch : Channel) (w : WindowName) (n : Nat) : (ch.credit w n).held w = ch.held w + n := by
  have hmap (l : List (WindowName × Nat)) : (l.map fun p => if p.1 = w then (w, p.2 + n) else p).find? (fun p => p.1 == w) =
      (l.find? fun p => p.1 == w).map fun p => (w, p.2 + n) := by
    induction l with
    | nil => rfl
    | cons p l ih =>
      by_cases hp : p.1 = w
      · simp [hp]
      · simp [hp, ih]
  rw [Channel.credit]
  split
  · next h =>
    obtain ⟨p, hp⟩ := Option.isSome_iff_exists.mp (List.find?_isSome.mpr (List.any_eq_true.mp h))
    simp only [Channel.held, hmap, hp, Option.map_some]
  · next h =>
    have hn : ch.credits.find? (fun p => p.1 == w) = none :=
      List.find?_eq_none.mpr fun p hp he => h (List.any_eq_true.mpr ⟨p, hp, he⟩)
    simp only [Channel.held, List.find?_append, hn, Option.none_or]
    simp

end Sys2Proof.Machine
end

section
/-! Proof of the obligation O42 (spec/16 R230 to R234, R246, R247; spec/17 R270, R274; spec/19 R294; spec/25 R355, R356). -/
namespace Sys2Proof.Machine

/-! ## A running copy -/

/-- The landing write that a copy of HBM into the scratchpad makes next: bytes of one row in one 64-byte granule. -/
def Copy.nextWrite (c : Copy) : Nat := min (min (c.e0 - c.lidx % c.e0) (64 - c.addrAt c.lidx % 64)) (c.total - c.lidx)

/-- A landing write whose bytes have returned lands (R234). -/
theorem landScratch_lands {n : Nat} {s : State} {c : Copy} {l : List (BitVec 8)} (h0 : c.code = 0x00)
    (hn : c.need (run c.lidx c.nextWrite) = .have_ l) :
    landScratch n c s = (s.landSpad (c.addrAt c.lidx) l).landedBytes n c.nextWrite := by
  rw [Copy.nextWrite] at hn
  simp only [landScratch, h0, hn, Copy.nextWrite]

/-- A landing write that needs a failed byte freezes the channel (R247). -/
theorem landScratch_freezes {n i : Nat} {s : State} {c : Copy} {fc : BitVec 4} (h0 : c.code = 0x00)
    (hn : c.need (run c.lidx c.nextWrite) = .failing i fc) : landScratch n c s = s.freezeUnit n fc (c.unitAt i) := by
  rw [Copy.nextWrite] at hn
  simp only [landScratch, h0, hn, OfNat.zero_ne_ofNat, if_false]

section
variable {s : State} {ch : BitVec 3} {c : Copy} (hc : (s.chan ch.toNat).cur = some c) (hr : (s.chan ch.toNat).runs = true)
include hc hr

/-- The next landing write of a copy whose destination is its box in the scratchpad. -/
theorem exec_copyLandingWrite_scratch (he : s.copyEnds c = false) (hl : c.lidx < c.total) (ht : c.toTensor = false)
    (ho : c.onLines = false) (hf : c.isFetch = false) (h0 : c.code = 0x00) :
    exec (.copyLandingWrite ch) s = .next (landScratch ch.toNat c s) := by
  simp only [exec_copyLandingWrite, execCopyLandingWrite, landNext, hc, hr, he, ht, ho, hf, h0, Bool.not_true, Bool.or_false,
    Bool.false_eq_true, if_false, Nat.not_le.mpr hl, OfNat.zero_ne_ofNat]

/-- A copy of a scratchpad source takes what a unit of it holds (R246). -/
theorem exec_fragmentReturn_spad (hs : c.fromSpad = true) (hf : c.fresh = false) (hq : (s.chan ch.toNat).queue = [])
    (hl : c.lidx < c.total) (ho : ∃ i, c.fetchFrom ≤ i ∧ i < c.total ∧ c.outstanding i = true) :
    ∃ i k, c.fetchFrom ≤ i ∧ i < c.total ∧ c.outstanding i = true ∧
      exec (.fragmentReturn ch) s = .next ({ s with choices := k }.onCopy ch.toNat fun d =>
        d.takeUnit ((c.unitOf c.spadSrc i).filter fun m => !c.has m && (c.failOf m).isNone)
          (readSpadUnit c ((c.unitOf c.spadSrc i).filter fun m => !c.has m && (c.failOf m).isNone) s)) := by
  obtain ⟨i, hi, hit, hio⟩ := ho
  obtain ⟨j, k, hj, hjo, hch⟩ := chooseFrom_some (n := c.total - c.fetchFrom) (j := i - c.fetchFrom)
    (holds := fun k => c.outstanding (c.fetchFrom + k)) s (by omega) (by rw [Nat.add_sub_cancel' hi]; exact hio)
  refine ⟨c.fetchFrom + j, k, by omega, by omega, hjo, ?_⟩
  have hone : s.choose ((s.chan ch.toNat).queue.length + 1) = (0, s) := by rw [hq]; rfl
  simp only [exec_fragmentReturn, execFragmentReturn, hone, returnFragment, Channel.copyAt, if_true, hc, hr, hs, hf, hch,
    Nat.not_le.mpr hl, Bool.not_true, Bool.and_false, Bool.true_or, decide_false, Bool.or_self, Bool.false_eq_true,
    if_false, Channel.modCopyAt]
  exact congrArg Host.Outcome.next (State.onCopy_congr (s := { s with choices := k }) (c := c) hc rfl)

/-- A copy whose landing is done completes (R232). -/
theorem exec_copyComplete_completes (he : s.copyEnds c = false) (hd : completes ch.toNat c s = true) :
    exec (.copyComplete ch) s = .next (s.onChan ch.toNat fun h =>
      ({ h with wm := if c.tracks then { h.wm with addr := BitVec.ofNat 22 c.hi } else h.wm } : Channel).finish) := by
  simp only [exec_copyComplete, execCopyComplete, hc, he, hr, hd, Bool.false_eq_true, if_false, Bool.and_self, if_true]

/-- A window write that was refused freezes its channel (R355). -/
theorem exec_refusedWrite_freezes (h5 : c.code = 0x05) (hw : (s.request .writeOnce (s.askerFor c) windowKey).isSome = true) :
    exec (.refusedWrite ch) s =
      .next ((s.dropRequest .writeOnce (s.askerFor c) windowKey).freezeUnit ch.toNat 4 c.args.xa.toNat) := by
  simp only [exec_refusedWrite, execRefusedWrite, hc]
  exact if_pos ⟨h5, hr, hw⟩

omit hr in
/-- A refusal for a copy with no window write under way changes nothing. -/
theorem exec_refusedWrite_of_none (hw : s.request .writeOnce (s.askerFor c) windowKey = none) :
    exec (.refusedWrite ch) s = .next s := by
  simp only [exec_refusedWrite, execRefusedWrite, hc]
  exact if_neg (by rw [hw]; simp)

/-- A CLDM takes the metadata word of a line of this device (R274, R335). -/
theorem exec_metadataRead_takes {k : Nat} {u t : State} {pa : Nat} {ca : BitVec 2} {d : Bool} (h1 : c.code = 0x1A)
    (hch : chooseFrom ((regionLines c.args.desc c.args.coord c.args.ext).length - c.lidx / 4)
      (fun k => c.outstanding (4 * (c.lidx / 4 + k))) s = (some k, u))
    (hlt : c.lidx / 4 + k < (regionLines c.args.desc c.args.coord c.args.ext).length)
    (hfo : c.failOf (4 * (c.lidx / 4 + k)) = none)
    (hw : copyWalk ch.toNat c ((regionLines c.args.desc c.args.coord c.args.ext).getD (c.lidx / 4 + k) 0 * 128) false true u =
      (.at_ pa ca d, t))
    (hh : rangeOf (localOf pa) = .hbm) (hb : t.budgetOk c pa = true) (hdev : devOf pa = t.devId)
    (hm : t.metaError (localLine (lineOf pa)) = false) (hx : t.txBusy (lineOf pa) = false)
    (hq : t.request (.home false) (t.askerFor c) (lineOf pa) = none) :
    exec (.metadataRead ch) s = .next ((t.budgetMove ch.toNat c pa 4).onCopy ch.toNat fun d =>
      d.takeUnit (run (4 * (c.lidx / 4 + k)) 4) (.bytes ((run (4 * (c.lidx / 4 + k)) 4).map fun i =>
          (i, (t.metaWord (localLine (lineOf pa))).extractLsb' (8 * (i % 4)) 8)))) := by
  have hhas : c.has (4 * (c.lidx / 4 + k)) = false := by
    have ho := holds_of_chooseFrom hch
    simp only [Copy.outstanding, Bool.and_eq_true, Bool.not_eq_true'] at ho
    exact ho.1
  have hword : wordRead (t.askerFor c) pa t = (.ready ((t.metaWord (localLine (lineOf pa))).setWidth 1024) false, t) := by
    rw [wordRead, if_pos hdev, homeAccess_word hq hx hm]
  have hback (w : BitVec 32) : (w.setWidth 1024).setWidth 32 = w := by
    rw [BitVec.setWidth_setWidth_of_le _ (by decide), BitVec.setWidth_eq]
  simp only [exec_metadataRead, execMetadataRead, hc, h1, hr, hch, Option.getD_some, hhas, hfo, hw, hh, hb, hword, ne_eq, not_true_eq_false, Bool.not_true,
    decide_false, Bool.or_self, Bool.false_eq_true, if_false, Nat.not_le.mpr hlt, Option.isSome_none, hback]

/-- A scan that has nothing left to put closes (R272). -/
theorem exec_ganderScan_closes {f : FmtKC} (ho : c.op = .c 0x12 (.kc f)) (hcl : c.closed = false) (hfa : c.failed = [])
    (hl : c.scanLeft = []) : exec (.ganderScan ch) s = .next (s.onCopy ch.toNat fun d =>
      d.close (vget s.core.wins c.args.win.toNat Window.reset).rowb (vget s.core.wins c.args.win.toNat Window.reset).part) := by
  have hlines : c.scanLines = [] := by rw [Copy.scanLines, hl]; rfl
  simp only [exec_ganderScan, execGanderScan, hc, ho, hcl, hfa, hr, hlines, List.length_nil, chooseFrom_zero, List.isEmpty_nil,
    Bool.not_true, Bool.or_self, Bool.false_eq_true, if_false]
  refine congrArg Host.Outcome.next (State.onCopy_congr (c := c) hc ?_)
  rw [Copy.drainLine, hl]

/-- A scan takes a line that the home slice holds modified, and drains what is in order (R294). -/
theorem exec_ganderScan_takes {f : FmtKC} {i : Nat} {u t : State} {pa : Nat} {ca : BitVec 2} {x : SliceLine}
    (ho : c.op = .c 0x12 (.kc f)) (hcl : c.closed = false) (hfa : c.failed = [])
    (hch : chooseFrom c.scanLines.length (fun i => (c.readLine (c.scanLines.getD i 0)).isNone) s = (some i, u))
    (hw : copyWalk ch.toNat c (128 * c.scanLines.getD i 0) false true u = (.at_ pa ca false, t)) (hdev : devOf pa = t.devId)
    (hh : rangeOf (localOf pa) = .hbm) (hb : t.budgetOk c pa = true)
    (hq : t.request (.home false) (t.askerFor c) (lineOf pa) = none) (hx : t.sliceLine (lineOf pa) = some x) (hd : x.st = .d)
    (hp : x.poison = false) :
    exec (.ganderScan ch) s =
      .next (((t.budgetMove ch.toNat c pa 128).onCopy ch.toNat (Copy.noteLine (c.scanLines.getD i 0) 0 (some x.data))).onCopy ch.toNat
        (Copy.drainLine f.cmp.toNat (vget t.core.wins c.args.win.toNat Window.reset).rowb
          (vget t.core.wins c.args.win.toNat Window.reset).part)) := by
  have hread : scanRead ch.toNat c (c.scanLines.getD i 0) u =
      (t.budgetMove ch.toNat c pa 128).onCopy ch.toNat (Copy.noteLine (c.scanLines.getD i 0) 0 (some x.data)) := by
    simp only [scanRead, hw, hdev, hh, hb, homeAccess_scan_modified hq hx hd, hp, ne_eq, not_true_eq_false, or_self, if_false,
      Bool.not_true, Bool.false_eq_true]
  have hwins : ((t.budgetMove ch.toNat c pa 128).onCopy ch.toNat
      (Copy.noteLine (c.scanLines.getD i 0) 0 (some x.data))).core.wins = t.core.wins :=
    (show _ = (t.charge (t.copyClass c) pa 128).core.wins from rfl).trans (congrArg Core.wins (t.core_charge _ _ _))
  simp only [exec_ganderScan, execGanderScan, hc, ho, hcl, hfa, hr, hch, hread, List.isEmpty_nil, Bool.not_true, Bool.or_self,
    Bool.false_eq_true, if_false, hwins]

end

/-! ## Schedules and flows -/

/-- A schedule entry at or below CSTAGE whose guard fails is used up (R270). -/
theorem exec_scheduleEntryRelease_skips {s : State} {e : SchedEntry} {rest : List SchedEntry} {op : Nat} {b : CBody}
    (hs : s.core.sched = e :: rest) (hd : decodeSlot .c0 e.payload = .ok (.c op b)) (he : e.stage ≤ s.core.cstage)
    (hg : ({ s with ctx := ⟨.s, scheduleEntry s.bank (.c op b)⟩ } : State).holds b.guard = false) :
    exec .scheduleEntryRelease s = .next (s.modCore fun c => { c with sched := rest }) := by
  simp only [exec_scheduleEntryRelease, execScheduleEntryRelease, hs, hd, BitVec.not_lt.mpr he, if_false, hg, Bool.not_false, if_true]
  rfl

/-- A schedule entry whose guard, waits and checks pass enters its channel (R270). -/
theorem exec_scheduleEntryRelease_enters {s u : State} {e : SchedEntry} {rest : List SchedEntry} {op : Nat} {b : CBody} {c : Copy}
    (hs : s.core.sched = e :: rest) (hd : decodeSlot .c0 e.payload = .ok (.c op b)) (he : e.stage ≤ s.core.cstage)
    (hg : ({ s with ctx := ⟨.s, scheduleEntry s.bank (.c op b)⟩ } : State).holds b.guard = true)
    (hc : copyHeld { s with ctx := ⟨.s, scheduleEntry s.bank (.c op b)⟩ } (.c op b) = false)
    (hw : watermarkHeld { s with ctx := ⟨.s, scheduleEntry s.bank (.c op b)⟩ }
      ({ s with ctx := ⟨.s, scheduleEntry s.bank (.c op b)⟩ } : State).zreg (.c op b) = false)
    (hp : (planOf op b).run.run { s with ctx := ⟨.s, scheduleEntry s.bank (.c op b)⟩ } = (.ok c, u)) :
    exec .scheduleEntryRelease s =
      .next { ((u.modCore fun c => { c with sched := rest }).takeCopy b.ch.toNat c) with ctx := s.ctx } := by
  simp only [exec_scheduleEntryRelease, execScheduleEntryRelease, hs, hd, BitVec.not_lt.mpr he, if_false, hg, Bool.not_true,
    Bool.false_eq_true, hc, hw, Bool.or_self, hp]

/-- A channel changed, and the others (`State.chan`). -/
theorem State.chan_onChan (s : State) (n k : Nat) (f : Channel → Channel) (hn : n < 8) :
    (s.onChan n f).chan k = if k = n then f (s.chan n) else s.chan k := Core.vget_modChan s.core n k f hn

/-- A channel number names one of the eight channels. -/
theorem toNat_lt_eight (ch : BitVec 3) : ch.toNat < 8 := ch.isLt

/-- A flow's bytes that a window takes land in the core in focus (R355). -/
theorem exec_remoteFlowWrite_lands {s : State} {w : BitVec 3} {src : FlowSource} {l : List (BitVec 8)} (ha : s.admits src.dev = true)
    (ht : (vget s.core.wins w.toNat Window.reset).takes src = true)
    (hl : (vget s.core.wins w.toNat Window.reset).landed < (vget s.core.wins w.toNat Window.reset).fetchable) :
    exec (.remoteFlowWrite w src l) s = .next (s.modCore fun c => c.flowLand w.toNat (l.length + 1) l) := by
  have hmod : s.modCoreAt s.coreNo (fun c => c.flowLand w.toNat (l.length + 1) l) =
      s.modCore fun c => c.flowLand w.toNat (l.length + 1) l := by
    rw [State.modCoreAt, State.setCoreAt, if_pos rfl, State.coreAt, if_pos rfl]; rfl
  have hcore : s.coreAt s.coreNo = s.core := by rw [State.coreAt, if_pos rfl]
  simp only [exec_remoteFlowWrite, execRemoteFlowWrite, ha, if_true, flowWrite, hcore, ht, hl, decide_true, Bool.and_self, hmod]

/-- A flow's bytes from a device that is not answered, or that no window takes, are refused (R352, R355). -/
theorem exec_remoteFlowWrite_refused {s : State} {w : BitVec 3} {src : FlowSource} {l : List (BitVec 8)}
    (h : s.admits src.dev = false ∨ (vget s.core.wins w.toNat Window.reset).takes src = false ∨
      (vget s.core.wins w.toNat Window.reset).fetchable ≤ (vget s.core.wins w.toNat Window.reset).landed) :
    exec (.remoteFlowWrite w src l) s =
      .next (if s.inDomain then s.send (.refused src ⟨s.devId, BitVec.ofNat 7 s.coreNo, w⟩) else s) := by
  have hcore : s.coreAt s.coreNo = s.core := by rw [State.coreAt, if_pos rfl]
  have hflow : (if s.admits src.dev then flowWrite s.coreNo w.toNat src l s else (false, s)) = (false, s) := by
    cases ha : s.admits src.dev with
    | false => rfl
    | true =>
      have hno : ((vget s.core.wins w.toNat Window.reset).takes src && decide ((vget s.core.wins w.toNat Window.reset).landed <
          (vget s.core.wins w.toNat Window.reset).fetchable)) = false := by
        rcases h with h | h | h
        · rw [ha] at h; exact absurd h (by decide)
        · rw [h, Bool.false_and]
        · rw [decide_eq_false (Nat.not_lt.mpr h), Bool.and_false]
      rw [if_pos rfl, flowWrite, hcore]
      exact if_neg (ne_true_of_eq_false hno)
  simp only [exec_remoteFlowWrite, execRemoteFlowWrite, hflow]

/-- Settles O42: each event under its conditions is one of the lemmas above. -/
theorem copyEventsAct : Obligations.CopyEventsAct := by
  unfold Obligations.CopyEventsAct
  refine ⟨fun s ch c hc hr he => ?running, fun s e rest op b hs hd he => ?schedule, fun s ch w rows rowb => ?credit,
    fun s w src l => ⟨exec_remoteFlowWrite_lands, exec_remoteFlowWrite_refused⟩, fun s y k off l => ?opm⟩
  case running =>
    intro n
    refine ⟨fun hl ht ho hf h0 => ?_, fun hs hf hq hl ho => ?_, exec_copyComplete_completes hc hr he, exec_refusedWrite_freezes hc hr,
      exec_refusedWrite_of_none hc, fun k u pa ca d t h1 => ?_, fun f ho hcl hfa => ?_⟩
    · intro a m
      have hland := exec_copyLandingWrite_scratch hc hr he hl ht ho hf h0
      exact ⟨fun l hn => hland.trans (congrArg _ (landScratch_lands h0 hn)),
        fun i fc hn => hland.trans (congrArg _ (landScratch_freezes h0 hn))⟩
    · obtain ⟨i, k, hi, hit, hio, hx⟩ := exec_fragmentReturn_spad hc hr hs hf hq hl ho
      exact ⟨_, hx, i, k, hi, hit, hio, rfl⟩
    · intro lines q hch hlt hfo hw hh hb hdev hm hx hq
      exact exec_metadataRead_takes hc hr h1 hch hlt hfo hw hh hb hdev hm hx hq
    · intro lines w
      refine ⟨fun hl => ?_, fun i u pa ca t x hch => ?_⟩
      · exact exec_ganderScan_closes hc hr ho hcl hfa hl
      · intro l hw hdev hh hb hq hx hd hp
        exact exec_ganderScan_takes hc hr ho hcl hfa hch hw hdev hh hb hq hx hd hp
  case schedule =>
    intro t
    exact ⟨exec_scheduleEntryRelease_skips hs hd he, fun hg hc hw c u hp => exec_scheduleEntryRelease_enters hs hd he hg hc hw hp⟩
  case credit =>
    refine ⟨_, rfl, ?_, rfl, fun n hn => ?_⟩
    · rw [State.chan_onChan _ _ _ _ (toNat_lt_eight ch), if_pos rfl, Channel.held_credit]
    · rw [State.chan_onChan _ _ _ _ (toNat_lt_eight ch), if_neg hn]
  case opm =>
    refine ⟨fun ha hb => ?_, fun ha hb hl => ?_, fun ha => ?_⟩
    · simp only [exec_remoteOpmWrite, execRemoteOpmWrite, ha, hb, Bool.not_true, Bool.false_eq_true, if_false, if_true]
    · simp only [exec_remoteOpmWrite, execRemoteOpmWrite, ha, hb, Bool.not_true, Bool.false_eq_true, if_false]
      exact ⟨_, rfl, s.opmWrite_lands k.toNat off.toNat l hl⟩
    · simp only [exec_remoteOpmWrite, execRemoteOpmWrite, ha, Bool.not_false, if_true]

end Sys2Proof.Machine
end

section
/-! SUPPORT. What the operations on a line at home change (spec/19 R291; spec/21 R314, R318, R320). -/
namespace Sys2Proof.Machine

/-- `t` is `s` with lines changed: their bytes, metadata words and copies in the slices, and what monitors have seen of them. -/
def LinesChanged (s t : State) : Prop :=
  ∃ c o h w d l m, t = { s with core := c, others := o, hbm := h, metaWords := w, dataBad := d, slice := l, msc := m }

theorem LinesChanged.refl (s : State) : LinesChanged s s := ⟨_, _, _, _, _, _, _, rfl⟩

theorem LinesChanged.trans {s t u : State} (hst : LinesChanged s t) (htu : LinesChanged t u) : LinesChanged s u := by
  obtain ⟨_, _, _, _, _, _, _, rfl⟩ := hst
  obtain ⟨_, _, _, _, _, _, _, rfl⟩ := htu
  exact ⟨_, _, _, _, _, _, _, rfl⟩

/-- A metadata word written. -/
theorem State.setMeta_linesChanged (s : State) (l : Nat) (w : BitVec 32) : LinesChanged s (s.setMeta l w) :=
  ⟨_, _, _, _, _, _, _, rfl⟩

/-- A line's bytes in DRAM written. -/
theorem State.setDram_linesChanged (s : State) (l : Nat) (d : BitVec 1024) (form : Bool) : LinesChanged s (s.setDram l d form) := by
  unfold State.setDram State.setSector
  split <;> exact ⟨_, _, _, _, _, _, _, rfl⟩

/-- A slice's copy placed or replaced. -/
theorem State.setSlice_linesChanged (s : State) (x : SliceLine) : LinesChanged s (s.setSlice x) := ⟨_, _, _, _, _, _, _, rfl⟩

/-- Monitors told of a line. -/
theorem State.monTouch_linesChanged (s : State) (line : Nat) : LinesChanged s (s.monTouch line) := ⟨_, _, _, _, _, _, _, rfl⟩

/-- Uncorrectable data settled. -/
theorem State.settleData_linesChanged (s : State) (l : Nat) : LinesChanged s (s.settleData l) := by
  unfold State.settleData
  split
  · exact ⟨_, _, _, _, _, _, _, rfl⟩
  · exact .refl s

/-- Bytes written at home. -/
theorem State.homeStore_linesChanged (s : State) (line off : Nat) (bytes : List (BitVec 8)) (z : Bool) :
    LinesChanged s (s.homeStore line off bytes z) := by
  have drammed (d : BitVec 1024) (f p : Bool) (l : Nat) :
      LinesChanged s (let t := s.setDram l d f; t.setMeta l (wordPoison (t.metaWord l) p)) :=
    (s.setDram_linesChanged l d f).trans (State.setMeta_linesChanged _ _ _)
  unfold State.homeStore
  dsimp only
  split
  · split
    · exact (s.setSlice_linesChanged _).trans (State.monTouch_linesChanged _ _)
    · exact ((drammed _ _ _ _).trans (State.setSlice_linesChanged _ _)).trans (State.monTouch_linesChanged _ _)
  · exact (drammed _ _ _ _).trans (State.monTouch_linesChanged _ _)

/-- A write of a page-table word of a line that no other device holds, and whose queue is empty, performs at once (R301). -/
theorem pokeEntry_performs {who : Asker} {pa : Nat} {clear set : BitVec 64} {s : State}
    (hm : s.metaError (localLine (lineOf pa)) = false) (hb : s.txBusy (lineOf pa) = false)
    (hw : hst (s.metaWord (localLine (lineOf pa))) = 0) (hr : s.request (.home true) who (lineOf pa) = none) :
    ∃ t, pokeEntry who pa clear set s = (true, t) ∧ LinesChanged s t := by
  have hact (u : State) : ∃ d p t, homeAct (lineOf pa) (.mark (pa % 128) clear set) false u = (.ready d p, t) ∧ LinesChanged u t :=
    ⟨_, _, _, rfl, u.homeStore_linesChanged _ _ _ _⟩
  have haccess : ∃ d p t, homeAccess (.home true) who (lineOf pa) (.mark (pa % 128) clear set) false s = (.ready d p, t) ∧
      LinesChanged s t := by
    cases hh : HomeOp.hits (.mark (pa % 128) clear set) (s.sliceState (lineOf pa)) with
    | true => rw [homeAccess_of_hit hr hh]; exact hact s
    | false =>
      rw [homeAccess_of_free hr hh hb (by simp [HomeOp.calls, hw]), homeServe]
      rw [hm, if_neg Bool.false_ne_true]
      split
      · obtain ⟨d, p, t, h, hc⟩ := hact (s.settleData (localLine (lineOf pa)))
        exact ⟨d, p, t, h, (s.settleData_linesChanged _).trans hc⟩
      · exact hact s
  obtain ⟨d, p, t, h, hc⟩ := haccess
  exact ⟨t, by rw [pokeEntry, h], hc⟩

end Sys2Proof.Machine
end

section
/-! Proof of the obligation O46 (spec/19 R291 to R293, R299 to R301). -/
namespace Sys2Proof.Machine

/-- The page that demotion takes is the first from the clock hand whose access bit is clear (R300). -/
theorem sweep_takes_first {access : List Nat} {p : Nat} (ps : List Nat) (h : access.contains p = false) :
    sweep access (p :: ps) = (access, some p) := by
  rw [sweep, if_neg (ne_true_of_eq_false h)]

/-- Demotion above HIGH with no page that moves takes the page at the clock hand (R299, R300). -/
theorem exec_tierDemotion_takes {s : State} {k : BitVec 1} {frame p : Nat} {rest : List Nat} {o : PageOwner}
    (hh : (vget s.tiers k.toNat Tier.reset).high < (vget s.tiers k.toNat Tier.reset).pages.length) (hm : s.moving = [])
    (hp : ((vget s.tiers k.toNat Tier.reset).pages.filter fun p => (vget s.tiers k.toNat Tier.reset).hand ≤ p) = p :: rest)
    (ha : (vget s.tiers k.toNat Tier.reset).access.contains p = false) (ho : (s.owners.find? fun o => o.covers p) = some o) :
    exec (.tierDemotion k frame) s = .next { s with
      tiers := vset (vset s.tiers k.toNat { vget s.tiers k.toNat Tier.reset with active := true }) k.toNat
        { vget s.tiers k.toNat Tier.reset with active := true, hand := p + 1 },
      moving := [⟨o, false, [], none, 0⟩] } := by
  simp only [exec_tierDemotion, execTierDemotion, hm, List.find?_nil, hh, decide_true, Bool.true_or, Bool.not_true,
    Bool.false_eq_true, if_false, hp, List.cons_append, sweep_takes_first _ ha, ho, List.nil_append]

/-- The state in which demotion has noted whether a tier is above HIGH, or still above LOW (R299). -/
def tierSettled (k : BitVec 1) (s : State) : State :=
  let t := vget s.tiers k.toNat Tier.reset
  let t := { t with active := t.high < t.pages.length || (t.active && t.low < t.pages.length) }
  { s with tiers := vset s.tiers k.toNat t }

/-- A page that moves and is not marked yet is marked, once its entry is (R301). -/
theorem exec_tierDemotion_marks {s t : State} {k : BitVec 1} {frame : Nat} {m : Move} (hm : s.moving = [m]) (hk : m.marked = false)
    (hr : rangeOf (m.page.frame * 2 ^ 18) = .hbm ↔ k = 0)
    (hp : pokeEntry m.page.asker m.page.pteAddr (1#64 <<< 63) (1#64 <<< 53) (tierSettled k s) = (true, t)) :
    exec (.tierDemotion k frame) s = .next
      { (t.setMove m { m with marked := true, invalid := t.reached.map fun d => (d, 0) }) with
        tlb := t.tlb.filter fun x => !(m.page.covers ((x.pte.extractLsb' 18 28).toNat) && x.pte.extractLsb' 46 6 == t.devId) } := by
  have hfind : s.moving.find? (fun m => (rangeOf (m.page.frame * 2 ^ 18) == .hbm) == (k == 0)) = some m := by
    rw [hm, List.find?_cons_of_pos]
    by_cases h : k = 0
    · rw [hr.mpr h, h]; rfl
    · rw [beq_eq_false_iff_ne.mpr (mt hr.mp h), beq_eq_false_iff_ne.mpr h]; rfl
  have hgo : exec (.tierDemotion k frame) s = .next (goOnMoving k frame m (tierSettled k s)) := by
    simp only [exec_tierDemotion, execTierDemotion, hfind]
    rfl
  rw [hgo, goOnMoving, hk]
  simp only [Bool.not_false, if_true, markPage, hp]

/-- Settles O46: a layer's repair and a page's demotion step by step; the mark of an entry performs at once (`pokeEntry_performs`). -/
theorem repairAndDemotionAct : Obligations.RepairAndDemotionAct := by
  unfold Obligations.RepairAndDemotionAct
  refine ⟨fun s k => ?repair, fun s k frame p rest o => ?taken, fun s k frame m hm hk hr => ?marked⟩
  case repair =>
    intro r put
    refine ⟨fun l hs hl => ?_, fun hs hb hr => ?_, fun hs hr => ?_, fun hs hb hr => ?_, fun l hs hl => ?_⟩ <;>
      rw [exec_layerMigration, execLayerMigration] <;> dsimp only <;>
      rw [show (vget s.repairs k.toNat ⟨0, 0, 0, [], []⟩).state.toNat = _ from congrArg BitVec.toNat hs]
    · have hl' : failingLayer (vget s.repairs k.toNat ⟨0, 0, 0, [], []⟩) = some l := hl
      rw [hl']
      rfl
    · exact (if_neg (by rw [hr]; decide)).trans (if_neg hb)
    · exact if_pos (by rw [hr]; decide)
    · exact (if_neg (by rw [hr]; decide)).trans (if_pos hb)
    · have hl' : failingLayer { vget s.repairs k.toNat ⟨0, 0, 0, [], []⟩ with lasting := _ } = some l := hl
      rw [hl']
      rfl
  case taken =>
    intro t hh hm hp ha ho
    have hk : k.toNat < 2 := k.isLt
    have hv : vget (vset (vset s.tiers k.toNat { t with active := true }) k.toNat { t with active := true, hand := p + 1 }) k.toNat
        Tier.reset = { t with active := true, hand := p + 1 } := by rw [vget_vset, if_pos ⟨rfl, hk⟩]
    exact ⟨_, exec_tierDemotion_takes hh hm hp ha ho, rfl, congrArg Tier.hand hv, congrArg Tier.active hv, (congrArg Tier.pages hv).trans rfl⟩
  case marked =>
    intro o line hme hb hw hq
    obtain ⟨t, hp, hc⟩ := pokeEntry_performs (who := o.asker) (clear := 1#64 <<< 63) (set := 1#64 <<< 53)
      (s := tierSettled k s) hme hb hw hq
    have hx := exec_tierDemotion_marks (frame := frame) hm hk hr hp
    obtain ⟨c, os, h, w, d, l, ms, rfl⟩ := hc
    refine ⟨_, hx, ?_, fun x hx => ?_, rfl, rfl⟩
    · show (s.moving.map fun x => if x = m then _ else x) = _
      rw [hm, List.map_singleton, if_pos rfl]
      rfl
    · have hkeep := (List.mem_filter.mp hx).2
      rw [Bool.not_eq_true', Bool.and_eq_false_iff] at hkeep
      exact hkeep.imp id fun h => beq_eq_false_iff_ne.mp h

end Sys2Proof.Machine
end

section
/-! SUPPORT. Copies that a slice places, gives up or drops (spec/21 R287, R288, R314). -/
namespace Sys2Proof.Machine

/-- A line placed in its slice is what the slice holds of it. -/
theorem State.sliceLine_setSlice (s : State) (x : SliceLine) : (s.setSlice x).sliceLine x.line = some x := by
  rw [State.sliceLine, State.setSlice, List.find?_cons_of_pos (by simp)]

/-- A line filled into its slice is what the slice holds of it. -/
theorem State.sliceLine_fillSlice (s : State) (x : SliceLine) : (s.fillSlice x).sliceLine x.line = some x :=
  State.sliceLine_setSlice _ x

/-- The slice holds no copy of a dropped line. -/
theorem State.sliceLine_dropSlice (s : State) (line : Nat) : (s.dropSlice line).sliceLine line = none := by
  rw [State.sliceLine, State.dropSlice, List.find?_eq_none]
  intro x hx
  simpa using (List.mem_filter.mp hx).2

/-- A line placed and dropped again is dropped. -/
theorem State.dropSlice_setSlice (s : State) (x : SliceLine) : (s.setSlice x).dropSlice x.line = s.dropSlice x.line := by
  rw [State.dropSlice, State.dropSlice, State.setSlice]
  simp only [List.filter_cons, bne_self_eq_false, Bool.false_eq_true, if_false, List.filter_filter, Bool.and_self]

/-- `t` has the requests of `s` and the transactions of its lines. -/
def QueuesKept (s t : State) : Prop := t.requests = s.requests ∧ t.homeTx = s.homeTx

theorem QueuesKept.refl (s : State) : QueuesKept s s := ⟨rfl, rfl⟩

theorem QueuesKept.trans {s t u : State} (hst : QueuesKept s t) (htu : QueuesKept t u) : QueuesKept s u :=
  ⟨htu.1.trans hst.1, htu.2.trans hst.2⟩

/-- Lines changed keep the queues. -/
theorem LinesChanged.queuesKept {s t : State} (h : LinesChanged s t) : QueuesKept s t := by
  obtain ⟨_, _, _, _, _, _, _, rfl⟩ := h
  exact ⟨rfl, rfl⟩

/-- Bytes written in a tier keep the queues. -/
theorem setTier_queuesKept (s : State) (r : Range) (port : Port) (la : Nat) (bytes : List (BitVec 8)) :
    QueuesKept s (s.setTier r port la bytes) := by
  cases r <;> exact ⟨rfl, rfl⟩

/-- A line of the tier written back keeps the queues. -/
theorem tierWriteBack_queuesKept (x : SliceLine) (drop : Bool) (s : State) : QueuesKept s (tierWriteBack x drop s) := by
  unfold tierWriteBack
  dsimp only
  split
  · split <;> exact ⟨rfl, rfl⟩
  · exact (setTier_queuesKept s _ _ _ _).trans ⟨rfl, rfl⟩

/-- A modified copy written to DRAM changes the line. -/
theorem State.writeBack_linesChanged (s : State) (x : SliceLine) : LinesChanged s (s.writeBack x) :=
  (s.setDram_linesChanged (localLine x.line) x.data false).trans (State.setMeta_linesChanged _ _ _)

/-- A line given up or written home keeps the queues. -/
theorem cleanLine_queuesKept (line : Nat) (drop : Bool) (s : State) : QueuesKept s (cleanLine line drop s) := by
  have settled (t : State) (ht : QueuesKept s t) : QueuesKept s (if drop then (t.dropSlice line).monTouch line else t) := by
    split <;> exact ht
  unfold cleanLine
  cases s.sliceLine line with
  | none => exact .refl s
  | some x =>
    dsimp only
    cases x.st <;> dsimp only
    case d => exact settled _ ((s.writeBack_linesChanged x).queuesKept.trans ⟨rfl, rfl⟩)
    case m => exact settled _ ⟨rfl, rfl⟩
    case o => exact settled _ ⟨rfl, rfl⟩
    case e => split <;> exact ⟨rfl, rfl⟩
    case tierD => exact settled (tierWriteBack x drop s) (tierWriteBack_queuesKept x drop s)
    case s =>
      split
      · exact .refl s
      · exact settled _ (.refl s)
    case c => exact settled _ (.refl s)
    case tierC => exact settled _ (.refl s)

/-- Room made in a set keeps the queues. -/
theorem makeRoom_queuesKept (line : Nat) (s : State) : QueuesKept s (makeRoom line s) := by
  unfold makeRoom
  dsimp only
  split
  · exact .refl s
  · obtain ⟨c, hc⟩ := s.choose_state ((s.setMates line).filter fun y => !(y.st == .s && s.upgrading y.line)).length
    rw [hc]
    split
    · exact QueuesKept.trans (t := { s with choices := c }) ⟨rfl, rfl⟩ (cleanLine_queuesKept _ true _)
    · exact ⟨rfl, rfl⟩
    · exact ⟨rfl, rfl⟩

/-- A line filled into its slice keeps the queues. -/
theorem State.fillSlice_queuesKept (s : State) (x : SliceLine) : QueuesKept s (s.fillSlice x) := makeRoom_queuesKept x.line s

end Sys2Proof.Machine
end

section
/-! Proof of the obligation O45 (spec/21 R313, R314, R317, R318). -/
namespace Sys2Proof.Machine

/-! ## Messages for a line that is held -/

section
variable {s : State} {line : Nat} {x : SliceLine} (hx : s.sliceLine line = some x) (ha : s.admits (devOf (128 * line)) = true)
include hx ha

/-- INV drops an S copy (R313). -/
theorem exec_inv_shared (hs : x.st = .s) : exec (.inv line) s =
    .next (((s.dropSlice line).monTouch line).send (.ack (devOf (128 * line)) line false false none)) := by
  have hst : s.sliceState line = some .s := by rw [State.sliceState, hx, Option.map_some, hs]
  simp only [exec_inv, execInv, ha, hst, Bool.not_true, Bool.false_eq_true, if_false, if_true]

/-- RECALL of an S copy drops it and says that the line is not owned (R317). -/
theorem exec_recall_shared (hs : x.st = .s) (fwd : Option (BitVec 6)) : exec (.recall line false fwd) s =
    .next (((s.dropSlice line).monTouch line).send (.ack (devOf (128 * line)) line false true none)) := by
  have hd : (x.st == .m || x.st == .o) = false := by rw [hs]; rfl
  have he : (x.st != .e) = true := by rw [hs]; rfl
  simp only [exec_recall, execRecall, ha, hx, hd, he, Bool.not_true, Bool.not_false, Bool.and_self, Bool.false_eq_true, if_false, if_true]

/-- RECALL of an O copy for this device itself makes it the owned one (R317). -/
theorem exec_recall_ownShared (hs : x.st = .o) : exec (.recall line false (some s.devId)) s =
    .next (({ s with requests := s.requests.filter fun r => !(r.wanting && r.line == line) } : State).setSlice { x with st := .m } |>.send
      (.ack (devOf (128 * line)) line true false none)) := by
  have hd : (x.st == .m || x.st == .o) = true := by rw [hs]; rfl
  simp only [exec_recall, execRecall, ha, hx, hd, Bool.not_true, Bool.false_and, Bool.true_and, Option.isNone_some, Bool.and_false,
    Bool.false_eq_true, if_false, if_true]

section
variable (hs : x.st = .m)
include hs

/-- RECALL of a poisoned modified copy that is to come home: it goes by WbD (R320). -/
theorem exec_recall_poisoned (hp : x.poison = true) (keep : Bool) : exec (.recall line keep none) s =
    .next ((((s.dropSlice line).monTouch line).send (.wbd (devOf (128 * line)) line false false true x.data)).send
      (.ack (devOf (128 * line)) line false true none)) := by
  have hd : (x.st == .m || x.st == .o) = true := by rw [hs]; rfl
  simp only [exec_recall, execRecall, ha, hx, hd, hp, Bool.not_true, Bool.false_and, Bool.and_self, Option.isNone_none,
    Bool.false_eq_true, if_false, if_true]

/-- RECALL of a modified copy for another device drops it and forwards its data (R317). -/
theorem exec_recall_forwards {y : BitVec 6} (hy : y ≠ s.devId) : exec (.recall line false (some y)) s =
    .next ((((s.dropSlice line).monTouch line).send (.dat y line .m x.poison false x.data)).send
      (.ack (devOf (128 * line)) line true false none)) := by
  have hd : (x.st == .m || x.st == .o) = true := by rw [hs]; rfl
  simp only [exec_recall, execRecall, ha, hx, hd, Bool.not_true, Bool.false_and, Option.isNone_some, Bool.and_false, Option.some.injEq,
    hy, Bool.false_eq_true, if_false, if_true]

/-- RECALL of a modified copy that keeps a shared one: the copy becomes O, its data is forwarded (R317). -/
theorem exec_recall_shares {y : BitVec 6} (hy : y ≠ s.devId) : exec (.recall line true (some y)) s =
    .next ((((s.setSlice { x with st := .o }).monTouch line).send (.dat y line .s x.poison false x.data)).send
      (.ack (devOf (128 * line)) line true false none)) := by
  have hd : (x.st == .m || x.st == .o) = true := by rw [hs]; rfl
  simp only [exec_recall, execRecall, ha, hx, hd, Bool.not_true, Bool.false_and, Option.isNone_some, Option.isSome_some, Bool.and_false,
    Bool.and_self, Option.some.injEq, hy, Bool.false_eq_true, if_false, if_true]

/-- RECALL of a good modified copy for home: the copy becomes S, its data comes with the Ack (R317). -/
theorem exec_recall_home (hp : x.poison = false) : exec (.recall line true none) s =
    .next (((s.setSlice { x with st := .s }).monTouch line).send (.ack (devOf (128 * line)) line true false (some x.data))) := by
  have hd : (x.st == .m || x.st == .o) = true := by rw [hs]; rfl
  simp only [exec_recall, execRecall, ha, hx, hd, hp, Bool.not_true, Bool.false_and, Option.isNone_none, Option.isSome_none,
    Bool.and_false, Bool.and_self, reduceCtorEq, Bool.false_eq_true, if_false, if_true]

end

end

/-! ## Copies given up -/

section
variable {s : State} {line : Nat} {x : SliceLine} (hx : s.sliceLine line = some x)
include hx

/-- A modified home copy given up is written to DRAM (R288). -/
theorem evictLine_modified (hl : x.line = line) (hs : x.st = .d) :
    evictLine line s = ((s.writeBack x).dropSlice line).monTouch line := by
  subst hl
  simp only [evictLine, cleanLine, hx, hs, if_true]
  rw [State.dropSlice_setSlice (s.writeBack x) { x with st := .c }]

/-- A clean home copy given up is dropped (R288). -/
theorem evictLine_clean (hs : x.st = .c) : evictLine line s = (s.dropSlice line).monTouch line := by
  simp only [evictLine, cleanLine, hx, hs, if_true]

/-- A clean exclusive copy given up is dropped, and its home told by EVC (R314). -/
theorem evictLine_exclusive (hs : x.st = .e) :
    evictLine line s = ((s.send (.evc (devOf (128 * line)) line)).dropSlice line).monTouch line := by
  simp only [evictLine, cleanLine, hx, hs, if_true]

end

/-! ## Grants -/

section
variable {s : State} {line : Nat} {g : Grant} {r : Request} (hr : (s.requests.find? fun r => r.wanting && r.line == line) = some r)
include hr

/-- CMP for a copy that is held makes it the owned one; a poisoned one is modified (R317, log entry 143). -/
theorem exec_cmp_held {x : SliceLine} (hg : g ≠ .s) (hx : s.sliceLine line = some x) :
    exec (.cmp line g) s = .next (takeGrant r { x with st := if x.poison then .m else grantState g } s) := by
  cases g with
  | s => exact absurd rfl hg
  | e => simp only [exec_cmp, execCmp, hr, hx]
  | m => simp only [exec_cmp, execCmp, hr, hx]

/-- CMP for a line to be written whole writes it (R318). -/
theorem exec_cmp_whole (hg : g ≠ .s) (hx : s.sliceLine line = none) (hs : r.store.isSome = true) :
    exec (.cmp line g) s = .next (takeGrant r ⟨line, grantState g, 0, false, 0⟩ s) := by
  cases g with
  | s => exact absurd rfl hg
  | e => simp only [exec_cmp, execCmp, hr, hx, hs, if_true]
  | m => simp only [exec_cmp, execCmp, hr, hx, hs, if_true]

/-- CMP for a copy that is not held takes the line with open data (log entry 27). -/
theorem exec_cmp_bare (hg : g ≠ .s) (hx : s.sliceLine line = none) (hs : r.store = none) :
    exec (.cmp line g) s = .next (takeGrant r ⟨line, grantState g, (s.openValue 1024).1, false, 0⟩ (s.openValue 1024).2) := by
  cases g with
  | s => exact absurd rfl hg
  | e => simp only [exec_cmp, execCmp, hr, hx, hs, Option.isSome_none, Bool.false_eq_true, if_false]
  | m => simp only [exec_cmp, execCmp, hr, hx, hs, Option.isSome_none, Bool.false_eq_true, if_false]

end

/-- A grant places the copy that was asked for. -/
theorem takeGrant_places {r : Request} (x : SliceLine) (s : State) (h : r.store = none) :
    takeGrant r x s = ({ s with requests := s.requests.filter (· != r) } : State).fillSlice x := by
  simp only [takeGrant, h]

/-- A grant for a line to be written whole writes it, and answers the one that asked (R318). -/
theorem takeGrant_writes {r : Request} (x : SliceLine) (s : State) {w : BitVec 1024} {z : Bool} (h : r.store = some (w, z)) :
    takeGrant r x s = State.storeWhole
      { s with requests := s.requests.map fun q => if q = r then { q with answer := some (0, false) } else q } r.line w z := by
  simp only [takeGrant, h]

/-- Settles O45: each message is one of the lemmas above, by the state of the copy that the slice holds. -/
theorem holderAnswersMessages : Obligations.HolderAnswersMessages := by
  unfold Obligations.HolderAnswersMessages
  refine ⟨fun s line x hx hl => ?held, fun s line => ?notHeld, fun s line g p d r hr => ?granted,
    fun s line g p d => ⟨rfl, rfl, rfl⟩⟩
  case held =>
    intro home gone
    refine ⟨fun ha hs => ⟨exec_inv_shared hx ha hs, exec_recall_shared hx ha hs⟩, fun ha hs => exec_recall_ownShared hx ha hs,
      fun ha hs hp keep => exec_recall_poisoned hx ha hs hp keep,
      fun ha hs y hy => ⟨exec_recall_forwards hx ha hs hy, exec_recall_shares hx ha hs hy⟩,
      fun ha hs hp => exec_recall_home hx ha hs hp, fun hs hh => ?_, fun hs hh => ?_, fun hs hh => ?_⟩
    · rw [exec_homeSliceEvict, execHomeSliceEvict, if_pos hh, evictLine_modified hx hl hs]
    · rw [exec_homeSliceEvict, execHomeSliceEvict, if_pos hh, evictLine_clean hx hs]
    · rw [exec_sliceEviction, execSliceEviction, if_neg (ne_true_of_eq_false hh), evictLine_exclusive hx hs]
      exact ⟨_, rfl, State.sliceLine_dropSlice _ line, rfl, rfl⟩
  case notHeld =>
    intro home
    refine ⟨fun ha hx => ⟨?_, fun keep fwd => ?_⟩, fun ha => ⟨?_, fun keep fwd => ?_⟩⟩
    · simp only [exec_inv, execInv, show s.admits (devOf (128 * line)) = true from ha, State.sliceState, hx]
      rfl
    · simp only [exec_recall, execRecall, show s.admits (devOf (128 * line)) = true from ha, hx]
      rfl
    · simp only [exec_inv, execInv, show s.admits (devOf (128 * line)) = false from ha, Bool.not_false, if_true, home]
    · simp only [exec_recall, execRecall, show s.admits (devOf (128 * line)) = false from ha, Bool.not_false, if_true, home]
  case granted =>
    intro t
    refine ⟨fun hs => ⟨?_, ?_, fun hg x hx => ?_, fun hg hx => ?_⟩, fun w z hs hg => ?_⟩
    · simp only [exec_dat, execDat, hr]
      exact congrArg Host.Outcome.next (takeGrant_places _ s hs)
    · simp only [exec_dat, execDat, hr]
      exact congrArg Host.Outcome.next (takeGrant_places _ s hs)
    · rw [exec_cmp_held hr hg hx, takeGrant_places _ s hs]
    · rw [exec_cmp_bare hr hg hx hs, takeGrant_places _ _ hs]
      exact ⟨_, rfl, _, State.sliceLine_fillSlice _ _, (State.fillSlice_queuesKept _ _).1⟩
    · cases hx : s.sliceLine line with
      | none => rw [exec_cmp_whole hr hg hx (by rw [hs]; rfl), takeGrant_writes _ s hs]
      | some x => rw [exec_cmp_held hr hg hx, takeGrant_writes _ s hs]

end Sys2Proof.Machine
end

section
/-! SUPPORT. The queue of a line's transactions at home: one that needs no answer ends at once, and ends keep the other transactions
(spec/21 R315, R317, R321). -/
namespace Sys2Proof.Machine

/-! ## What keeps the queues -/

section
variable {s t : State} (h : QueuesKept s t)
include h

/-- Lines changed after that. -/
theorem QueuesKept.changed {u : State} (hu : LinesChanged t u) : QueuesKept s u := h.trans hu.queuesKept

/-- A metadata word written after that. -/
theorem QueuesKept.setMeta (l : Nat) (w : BitVec 32) : QueuesKept s (t.setMeta l w) := h.changed (t.setMeta_linesChanged l w)

/-- A copy placed after that. -/
theorem QueuesKept.setSlice (x : SliceLine) : QueuesKept s (t.setSlice x) := h.changed (t.setSlice_linesChanged x)

/-- A copy dropped after that. -/
theorem QueuesKept.dropSlice (line : Nat) : QueuesKept s (t.dropSlice line) := h.trans ⟨rfl, rfl⟩

/-- A line filled after that. -/
theorem QueuesKept.fillSlice (x : SliceLine) : QueuesKept s (t.fillSlice x) := h.trans (t.fillSlice_queuesKept x)

/-- Monitors told after that. -/
theorem QueuesKept.monTouch (line : Nat) : QueuesKept s (t.monTouch line) := h.changed (t.monTouch_linesChanged line)

/-- A message sent after that. -/
theorem QueuesKept.send (m : OutMsg) : QueuesKept s (t.send m) := h.trans ⟨rfl, rfl⟩

end

/-- Home reads the line's data from DRAM. -/
theorem State.readDram_queuesKept (s : State) (line : Nat) : QueuesKept s (s.readDram line) := by
  unfold State.readDram
  split
  · exact (s.settleData_linesChanged _).queuesKept
  · exact .refl s

/-- Dirty data of an owner absorbed. -/
theorem absorb_queuesKept (s : State) (t : HomeTx) : QueuesKept s (absorb s t) := by
  unfold absorb
  split
  · exact ((s.setDram_linesChanged _ _ _).trans (State.setMeta_linesChanged _ _ _)).queuesKept
  · exact .refl s

/-- The owner becomes a sharer. -/
theorem shareLine_queuesKept (t : HomeTx) (s : State) : QueuesKept s (shareLine t s) := by
  unfold shareLine
  dsimp only
  split
  · exact (absorb_queuesKept s t).trans (State.setMeta_linesChanged _ _ _).queuesKept
  · exact absorb_queuesKept s t

/-- The line becomes this device's. -/
theorem takeLine_queuesKept (t : HomeTx) (fill : Bool) (s : State) : QueuesKept s (takeLine t fill s) := by
  unfold takeLine
  dsimp only
  split
  · exact (absorb_queuesKept s t).trans (State.setMeta_linesChanged _ _ _).queuesKept
  · split
    · exact (State.setMeta_linesChanged _ _ _).queuesKept.trans (State.fillSlice_queuesKept _ _)
    · exact (State.setMeta_linesChanged _ _ _).queuesKept

/-- Ownership granted. -/
theorem grantOwn_queuesKept (t : HomeTx) (y : BitVec 6) (s : State) : QueuesKept s (grantOwn t y s) := by
  have hread := s.readDram_queuesKept t.line
  unfold grantOwn
  generalize s.readDram t.line = u at hread ⊢
  dsimp only
  split
  · exact (((hread.dropSlice _).setMeta _ _).send _).monTouch _
  · exact (((hread.dropSlice _).setMeta _ _).send _).monTouch _
  · exact ((QueuesKept.refl s).setMeta _ _).monTouch _

/-- A shared copy granted. -/
theorem grantShared_queuesKept (t : HomeTx) (y : BitVec 6) (s : State) : QueuesKept s (grantShared t y s) := by
  have stored (l : Nat) (sh : BitVec 16) (u : State) (m : State → OutMsg) (hu : QueuesKept s u) :
      QueuesKept s (((u.settleData l).setMeta l (wordState ((u.settleData l).metaWord l) 1 0 sh)).send
        (m ((u.settleData l).setMeta l (wordState ((u.settleData l).metaWord l) 1 0 sh)))) :=
    ((hu.changed (u.settleData_linesChanged l)).setMeta _ _).send _
  unfold grantShared
  dsimp only
  split
  · split
    · exact grantOwn_queuesKept t y s
    · next c _ =>
      refine stored _ _ _ (fun v => .dat y t.line .s (psn (v.metaWord (localLine t.line)))
        (compressed (v.metaWord (localLine t.line))) (v.stored (localLine t.line))) ?_
      split
      · exact ((QueuesKept.refl s).changed (s.writeBack_linesChanged c)).setSlice _
      · exact .refl s
  · exact stored _ _ _ (fun v => .dat y t.line .s (psn (v.metaWord (localLine t.line)))
      (compressed (v.metaWord (localLine t.line))) (v.stored (localLine t.line))) (.refl s)
  · split <;> exact (QueuesKept.refl s).setMeta _ _

/-- What home does for an access in its turn. -/
theorem homeAct_queuesKept (line : Nat) (op : HomeOp) (fill : Bool) (s : State) : QueuesKept s (homeAct line op fill s).2 := by
  have owned (c : Bool) (x : SliceLine) (off : Nat) (bytes : List (BitVec 8)) (z : Bool) :
      QueuesKept s ((if c then s.fillSlice x else s).homeStore line off bytes z) := by
    refine QueuesKept.trans ?_ (State.homeStore_linesChanged _ _ _ _ _).queuesKept
    split
    · exact s.fillSlice_queuesKept x
    · exact .refl s
  unfold homeAct
  dsimp only
  cases op with
  | word => exact .refl s
  | read =>
    dsimp only
    split
    · exact .refl s
    · split
      · exact QueuesKept.trans (t := s.mscTouch (localLine line)) ⟨rfl, rfl⟩ (State.fillSlice_queuesKept _ _)
      · exact ⟨rfl, rfl⟩
  | scan =>
    dsimp only
    split
    · exact .refl s
    · split <;> exact .refl s
  | write off bytes z => exact owned _ _ off bytes z
  | atomic op off n opd cmp =>
    dsimp only
    split
    · exact .refl s
    · exact owned _ _ _ _ _
  | mark off clear set => exact (s.homeStore_linesChanged _ _ _ _).queuesKept
  | zip =>
    dsimp only
    split
    · exact .refl s
    · exact owned _ _ _ _ _

/-- A metadata error reported. -/
theorem State.reportMeta_queuesKept (s : State) (line : Nat) : QueuesKept s (s.reportMeta line) := by
  unfold State.reportMeta
  dsimp only
  split <;> exact ⟨rfl, rfl⟩

/-- What home serves. -/
theorem homeServe_queuesKept (line : Nat) (op : HomeOp) (fill : Bool) (s : State) : QueuesKept s (homeServe line op fill s).2 := by
  unfold homeServe
  extract_lets l dram
  split
  · exact s.reportMeta_queuesKept line
  · split
    · split
      · exact (s.settleData_linesChanged _).queuesKept.trans (homeAct_queuesKept _ _ _ _)
      · exact (s.settleData_linesChanged _).queuesKept.trans (homeAct_queuesKept _ _ _ _)
      · exact (s.settleData_linesChanged _).queuesKept
    · exact homeAct_queuesKept _ _ _ _

/-- The end of a transaction takes it from the line's queue, and leaves the others there. -/
theorem homeTx_finishTx (t : HomeTx) (s : State) : (finishTx t s).homeTx = s.homeTx.eraseP fun u => u.line == t.line := by
  unfold finishTx
  extract_lets l s₁ s₂ w written shared taken back dropped cleared
  have h₂ : s₂.homeTx = s.homeTx.eraseP fun u => u.line == t.line := by
    show (if t.dead = true then _ else _ : State).homeTx = _
    split <;> rfl
  clear_value s₂
  have hs₂ := QueuesKept.refl s₂
  have hwritten : QueuesKept s₂ written := (takeLine_queuesKept t true s₂).trans (State.readDram_queuesKept _ _)
  have htaken : QueuesKept s₂ taken := (takeLine_queuesKept t false s₂).trans (State.readDram_queuesKept _ _)
  have hcleared : QueuesKept s₂ cleared := ⟨rfl, rfl⟩
  clear_value written taken back cleared
  cases t.event with
  | rds y => exact (grantShared_queuesKept t y s₂).2.trans h₂
  | rdx y full =>
    cases full with
    | true => exact ((((hs₂.dropSlice _).setMeta _ _).send _).monTouch _).2.trans h₂
    | false => exact (grantOwn_queuesKept t y s₂).2.trans h₂
  | upg y =>
    dsimp only
    split
    · exact ((((hs₂.dropSlice _).setMeta _ _).send _).monTouch _).2.trans h₂
    · exact (grantOwn_queuesKept t y s₂).2.trans h₂
  | localRead => exact ((shareLine_queuesKept t s₂).trans (homeServe_queuesKept _ _ _ _)).2.trans h₂
  | localWrite =>
    dsimp only
    split
    · exact (hwritten.monTouch _).2.trans h₂
    · exact ((hwritten.fillSlice _).monTouch _).2.trans h₂
  | own k who op fill =>
    have hserved (u : State) (hu : QueuesKept s₂ u) : ((homeServe t.line op fill u).2.answerHome k who t.line
        (homeServe t.line op fill u).1).homeTx = s₂.homeTx := (hu.trans (homeServe_queuesKept _ _ _ _)).2
    refine (hserved _ ?_).trans h₂
    split
    · exact hs₂
    · split
      · exact takeLine_queuesKept t fill s₂
      · exact shareLine_queuesKept t s₂
  | uncachedRead y => exact (((shareLine_queuesKept t s₂).trans (State.readDram_queuesKept _ _)).send _).2.trans h₂
  | uncachedWrite y a bytes z =>
    dsimp only
    split
    · exact htaken.2.trans h₂
    · split
      · exact (htaken.trans (homeAct_queuesKept _ _ _ _)).2.trans h₂
      · exact (htaken.changed (State.homeStore_linesChanged _ _ _ _ _)).2.trans h₂
  | metaRead y => exact (hs₂.send _).2.trans h₂
  | rebuild =>
    dsimp only
    split
    · exact (((hcleared.changed (State.setDram_linesChanged _ _ _ _)).setMeta _ _).monTouch _).2.trans h₂
    · exact ((hcleared.setMeta _ _).monTouch _).2.trans h₂

/-! ## The queue of one line -/

/-- A line with no transaction queued stays so. -/
theorem pumpLine_of_free {line : Nat} {s : State} (h : s.txBusy line = false) (k : Nat) : pumpLine line k s = s := by
  cases k with
  | zero => rfl
  | succ k =>
    have hf : s.homeTx.find? (fun t => t.line == line) = none :=
      List.find?_eq_none.mpr fun t ht => by simpa using List.any_eq_false.mp h t ht
    rw [pumpLine, hf]

/-- The first transaction of a line whose queue was empty is the one that joins it. -/
theorem find_joined {line : Nat} {s : State} {t : HomeTx} (h : s.txBusy line = false) (ht : t.line = line) :
    (s.homeTx ++ [t]).find? (fun u => u.line == line) = some t := by
  have hf : s.homeTx.find? (fun t => t.line == line) = none :=
    List.find?_eq_none.mpr fun t ht => by simpa using List.any_eq_false.mp h t ht
  rw [List.find?_append, hf, Option.none_or, List.find?_cons_of_pos (by rw [ht]; exact beq_self_eq_true line)]

/-- The queue of a line whose only transaction has joined it is empty when that ends. -/
theorem erase_joined {line : Nat} {s : State} {t : HomeTx} (h : s.txBusy line = false) (ht : t.line = line) :
    (s.homeTx ++ [t]).eraseP (fun u => u.line == line) = s.homeTx := by
  rw [List.eraseP_append_right _ (fun u hu => by simpa using List.any_eq_false.mp h u hu),
    List.eraseP_cons_of_pos (by rw [ht]; exact beq_self_eq_true line), List.append_nil]

/-- A transaction that joins an empty queue is replaced in it. -/
theorem map_joined {line : Nat} {s : State} {t : HomeTx} (h : s.txBusy line = false) (ht : t.line = line) (t' : HomeTx) :
    (s.homeTx ++ [t]).map (fun u => if u = t then t' else u) = s.homeTx ++ [t'] := by
  have hs : s.homeTx.map (fun u => if u = t then t' else u) = s.homeTx := by
    refine (List.map_congr_left fun u hu => ?_).trans (List.map_id _)
    refine if_neg fun e => ?_
    have := List.any_eq_false.mp h u hu
    rw [e, ht] at this
    exact this (beq_self_eq_true line)
  rw [List.map_append, hs, List.map_singleton, if_pos rfl]

/-- The end of a transaction depends on the queue that it leaves. -/
theorem finishTx_congr (t : HomeTx) (s : State) {a b : List HomeTx}
    (h : a.eraseP (fun u => u.line == t.line) = b.eraseP fun u => u.line == t.line) :
    finishTx t { s with homeTx := a } = finishTx t { s with homeTx := b } := by
  unfold finishTx
  dsimp only
  rw [h]

/-- A transaction that has joined its line's queue; `dead` marks one whose owner cannot be reached. -/
def HomeTx.queued (line : Nat) (e : HomeEvent) (dead : Bool := false) : HomeTx := ⟨line, e, [], none, none, false, none, dead, false, 0⟩

/-- The state with a transaction joined to its line's queue. -/
def State.queueTx (s : State) (line : Nat) (e : HomeEvent) : State := { s with homeTx := s.homeTx ++ [HomeTx.queued line e] }

section
variable {s : State} {line : Nat} {e : HomeEvent} (hb : s.txBusy line = false)
include hb

/-- After the end of its only transaction a line's queue is empty. -/
theorem txBusy_finishTx {t : HomeTx} (ht : t.line = line) {u : State} (hu : u.homeTx = s.homeTx ++ [t]) :
    (finishTx t u).txBusy line = false := by
  rw [State.txBusy, homeTx_finishTx, hu, ht, erase_joined hb ht]
  exact hb

/-- A transaction that joins an empty queue of a line with a good word, and that begins without messages, ends at once; `dead` says
whether its owner is passed over. -/
theorem enqueueTx_ends (hm : s.metaError (localLine line) = false) {dead : Bool}
    (hs : startTx (.queued line e) (s.queueTx line e) =
      (none, { s with homeTx := s.homeTx ++ [.queued line e dead] })) :
    s.enqueueTx line e = finishTx (.queued line e dead) (s.queueTx line e) := by
  have hfind := find_joined (t := .queued line e) hb rfl
  have hfind' := find_joined (t := (.queued line e dead)) hb rfl
  have hcongr : finishTx (.queued line e dead)
      { s with homeTx := s.homeTx ++ [.queued line e dead] } =
      finishTx (.queued line e dead) (s.queueTx line e) :=
    finishTx_congr _ s ((erase_joined hb rfl).trans (erase_joined hb rfl).symm)
  have hfree := txBusy_finishTx hb (t := (.queued line e dead))
    (u := { s with homeTx := s.homeTx ++ [.queued line e dead] }) rfl rfl
  show pumpLine line ((s.queueTx line e).homeTx.length + 1) (s.queueTx line e) = _
  rw [pumpLine, show (s.queueTx line e).homeTx.find? _ = _ from hfind]
  dsimp only
  rw [show (s.queueTx line e).metaError (localLine line) = false from hm, hs]
  rw [show (HomeTx.queued line e).active = false from rfl]
  simp only [Bool.false_and, Bool.false_eq_true, if_false, hfind']
  rw [pumpLine_of_free hfree, hcongr]

/-- A transaction that asks nobody begins without messages. -/
theorem startTx_quick (hq : txMessages (s.queueTx line e) (.queued line e) = ([], none)) :
    startTx (.queued line e) (s.queueTx line e) =
      (none, { s with homeTx := s.homeTx ++ [.queued line e false] }) := by
  unfold startTx
  rw [hq]
  simp only [Option.any_none, Bool.false_and, Bool.false_eq_true, if_false, List.filter_nil, List.isEmpty_nil, Option.filter_none,
    Option.isNone_none, Bool.and_self, if_true]
  rw [show (s.queueTx line e).homeTx = s.homeTx ++ [.queued line e] from rfl, map_joined hb rfl]
  rfl

/-- A transaction that asks nobody ends at once. -/
theorem enqueueTx_quick (hm : s.metaError (localLine line) = false)
    (hq : txMessages (s.queueTx line e) (.queued line e) = ([], none)) :
    s.enqueueTx line e = finishTx (.queued line e) (s.queueTx line e) := enqueueTx_ends hb hm (startTx_quick hb hq)

end

end Sys2Proof.Machine
end

section
/-! Proof of the obligation O44 (spec/21 R313, R315, R317, R318, R320, R321). -/
namespace Sys2Proof.Machine

/-! ## Requests -/

/-- A request of an admitted device for a line of this home joins the line's queue. -/
theorem homeRequest_of_admitted {s : State} {y : BitVec 6} {line : Nat} (ha : s.admits y = true) (hh : s.homeLine line = true)
    (e : HomeEvent) : homeRequest y line e s = s.enqueueTx line e := by
  rw [homeRequest, ha, hh]
  rfl

/-- A request of a device that is not admitted is turned away (R352). -/
theorem homeRequest_of_refused {s : State} {y : BitVec 6} (ha : s.admits y = false) (line : Nat) (e : HomeEvent) :
    homeRequest y line e s = s.turnAway y line := by
  rw [homeRequest, ha]
  rfl

/-- The bytes of a line lie in it. -/
theorem lineOf_within (line : Nat) {k : Nat} (hk : k < 128) : lineOf (128 * line + k) = line := by
  rw [lineOf]; omega

/-- The bytes of a line of this home are this device's. -/
theorem devOf_within (line : Nat) {k : Nat} (hk : k < 128) : devOf (128 * line + k) = devOf (128 * line) := by
  rw [devOf, devOf, show (128 * line + k) / 2 ^ 46 = 128 * line / 2 ^ 46 by omega]

/-- The bytes of a line lie in its range. -/
theorem rangeOf_within {line k : Nat} (hk : k < 128) (h : rangeOf (localOf (128 * line)) = .hbm) :
    rangeOf (localOf (128 * line + k)) = .hbm := by
  have hlt : localOf (128 * line) < 0x008000000000 := by
    by_contra hn
    simp only [rangeOf, if_neg hn] at h
    split_ifs at h
  refine if_pos ?_
  simp only [localOf] at hlt ⊢
  omega

section
variable {s : State} {y : BitVec 6} {line k : Nat} (hk : k < 128)
include hk

/-- An uncached read of an admitted device joins the line's queue (R317). -/
theorem exec_uncachedRead_joins (ha : s.admits y = true) (hh : s.homeLine line = true) (n : Nat) :
    exec (.uncachedRead y ⟨128 * line + k, n⟩) s = .next (s.enqueueTx line (.uncachedRead y)) := by
  simp only [State.homeLine, Bool.and_eq_true, beq_iff_eq] at hh
  simp only [exec_uncachedRead, execUncachedRead, ha, devOf_within line hk, hh.1, rangeOf_within hk hh.2, lineOf_within line hk,
    Bool.not_true, Bool.false_eq_true, if_false, bne_self_eq_false]

/-- An uncached write of an admitted device joins the line's queue (R317). -/
theorem exec_uncachedWrite_joins (ha : s.admits y = true) (hh : s.homeLine line = true) (bytes : List (BitVec 8)) (z : Bool) :
    exec (.uncachedWrite y (128 * line + k) ⟨bytes, z⟩) s =
      .next (s.enqueueTx line (.uncachedWrite y (128 * line + k) bytes z)) := by
  simp only [State.homeLine, Bool.and_eq_true, beq_iff_eq] at hh
  simp only [exec_uncachedWrite, execUncachedWrite, ha, devOf_within line hk, hh.1, rangeOf_within hk hh.2, lineOf_within line hk,
    Bool.not_true, Bool.false_eq_true, if_false, bne_self_eq_false]

/-- An uncached access of a device that is not admitted is turned away (R352). -/
theorem exec_uncached_refused (ha : s.admits y = false) :
    (∀ n, exec (.uncachedRead y ⟨128 * line + k, n⟩) s = .next (s.turnAway y line)) ∧
    ∀ bytes z, exec (.uncachedWrite y (128 * line + k) ⟨bytes, z⟩) s = .next (s.turnAway y line) := by
  constructor
  · intro n
    simp only [exec_uncachedRead, execUncachedRead, ha, lineOf_within line hk, Bool.not_false, if_true]
  · intro bytes z
    simp only [exec_uncachedWrite, execUncachedWrite, ha, lineOf_within line hk, Bool.not_false, if_true]

end

/-! ## RdS -/

section
variable {s : State} {y : BitVec 6} {line : Nat}

/-- RdS of a line that nobody holds ends with the grant of E and the line's data (Table 21.4). -/
theorem finishTx_rds_free (hb : s.txBusy line = false) (h0 : hst (s.metaWord (localLine line)) = 0) (hn : s.sliceLine line = none)
    (hbad : s.lineBad (localLine line) = false) : finishTx (.queued line (.rds y)) (s.queueTx line (.rds y)) =
      ((s.setMeta (localLine line) (wordState (s.metaWord (localLine line)) 2 y 0)).send
        (.dat y line .e (psn (s.metaWord (localLine line))) false (s.dram (localLine line)))).monTouch line := by
  have hqueue : ({ s.queueTx line (.rds y) with homeTx := (s.queueTx line (.rds y)).homeTx.eraseP fun u => u.line == line } : State)
      = s := by
    rw [show (s.queueTx line (.rds y)).homeTx.eraseP _ = s.homeTx from erase_joined hb rfl]
    rfl
  have hend : finishTx (.queued line (.rds y)) (s.queueTx line (.rds y)) = grantShared (.queued line (.rds y)) y s :=
    congrArg (grantShared (.queued line (.rds y)) y) hqueue
  have hread : s.readDram line = s := by
    rw [State.readDram, hn, State.settleData, hbad]
    rfl
  have hdrop : s.dropSlice line = s := by
    have hs : s.slice.filter (fun x => x.line != line) = s.slice :=
      List.filter_eq_self.mpr fun x hx => by simpa using List.find?_eq_none.mp hn x hx
    rw [State.dropSlice, hs]
  have hown : grantOwn (.queued line (.rds y)) y s =
      ((s.setMeta (localLine line) (wordState (s.metaWord (localLine line)) 2 y 0)).send
        (.dat y line .e (psn (s.metaWord (localLine line))) false (s.dram (localLine line)))).monTouch line := by
    simp only [grantOwn, HomeTx.queued, h0, hread, hn, hdrop, State.homeData, Option.any_none, Bool.false_eq_true, if_false]
  rw [hend, ← hown]
  simp only [grantShared, HomeTx.queued, h0, hn]

/-- The messages of an RdS of an owned line: a Recall for the one that asks. -/
theorem txMessages_rds (s : State) (y : BitVec 6) (line : Nat) : txMessages (s.queueTx line (.rds y)) (.queued line (.rds y)) =
    ([], if 2 ≤ hst (s.metaWord (localLine line)) then some (own (s.metaWord (localLine line)), true, some y) else none) := rfl

/-- RdS of an owned line whose owner can be reached begins with its Recall (R317). -/
theorem enqueueTx_rds_owned (hb : s.txBusy line = false) (hm : s.metaError (localLine line) = false)
    (h2 : 2 ≤ hst (s.metaWord (localLine line))) (hf : s.fabricCause (own (s.metaWord (localLine line))) = none) :
    s.enqueueTx line (.rds y) = (({ s with homeTx := s.homeTx ++ [HomeTx.mk line (.rds y) [] none
      (some (own (s.metaWord (localLine line)))) false none false true (s.tick + s.tmo)] } : State).send
        (.recall (own (s.metaWord (localLine line))) line true (some y))) := by
  have hfind := find_joined (t := .queued line (.rds y)) hb rfl
  have hstart : startTx (.queued line (.rds y)) (s.queueTx line (.rds y)) =
      (some (HomeTx.mk line (.rds y) [] none (some (own (s.metaWord (localLine line)))) false none false true (s.tick + s.tmo)),
        ({ s with homeTx := s.homeTx ++ [HomeTx.mk line (.rds y) [] none (some (own (s.metaWord (localLine line)))) false none false
          true (s.tick + s.tmo)] } : State).send (.recall (own (s.metaWord (localLine line))) line true (some y))) := by
    unfold startTx
    rw [txMessages_rds, if_pos h2]
    have hup : ((s.queueTx line (.rds y)).fabricCause (own (s.metaWord (localLine line)))).isNone = true := by
      rw [show (s.queueTx line (.rds y)).fabricCause _ = none from hf]; rfl
    simp only [Option.any_some, hup, Bool.not_true, Bool.false_and, Bool.false_eq_true, if_false, List.filter_nil, List.isEmpty_nil,
      Option.filter_some, Option.isNone_some, Bool.and_false, if_true, Option.map_some, List.foldl_nil]
    rw [State.setTx, show (s.queueTx line (.rds y)).homeTx = s.homeTx ++ [.queued line (.rds y)] from rfl, map_joined hb rfl]
    rfl
  show pumpLine line ((s.queueTx line (.rds y)).homeTx.length + 1) (s.queueTx line (.rds y)) = _
  rw [pumpLine, show (s.queueTx line (.rds y)).homeTx.find? _ = _ from hfind]
  dsimp only
  rw [show (s.queueTx line (.rds y)).metaError (localLine line) = false from hm, hstart]
  rfl

/-- RdS of an exclusive or modified line whose owner cannot be reached passes over the owner, and ends (R322). -/
theorem enqueueTx_rds_passed (hb : s.txBusy line = false) (hm : s.metaError (localLine line) = false)
    (h23 : hst (s.metaWord (localLine line)) = 2 ∨ hst (s.metaWord (localLine line)) = 3)
    (hf : s.fabricCause (own (s.metaWord (localLine line))) ≠ none) :
    s.enqueueTx line (.rds y) = finishTx (.queued line (.rds y) true) (s.queueTx line (.rds y)) := by
  refine enqueueTx_ends hb hm ?_
  have hup : ((s.queueTx line (.rds y)).fabricCause (own (s.metaWord (localLine line)))).isNone = false := by
    rw [Option.isNone_eq_false_iff, Option.isSome_iff_ne_none]; exact hf
  have h2 : 2 ≤ hst (s.metaWord (localLine line)) := by omega
  have h4 : (hst ((s.queueTx line (.rds y)).metaWord (localLine (HomeTx.queued line (.rds y)).line)) == 4) = false := by
    refine beq_eq_false_iff_ne.mpr ?_
    show hst (s.metaWord (localLine line)) ≠ 4
    omega
  unfold startTx
  rw [txMessages_rds, if_pos h2]
  simp only [Option.any_some, hup, h4, Bool.not_false, Bool.and_false, Bool.false_and, Bool.false_eq_true, if_false, List.filter_nil,
    List.isEmpty_nil, Option.filter_some, Option.isNone_none, Bool.and_self, if_true]
  rw [show (s.queueTx line (.rds y)).homeTx = s.homeTx ++ [.queued line (.rds y)] from rfl, map_joined hb rfl]
  rfl

/-- On a metadata error a request is held, and the error reported (R321). -/
theorem enqueueTx_held (hb : s.txBusy line = false) (hm : s.metaError (localLine line) = true) :
    s.enqueueTx line (.rds y) = (s.queueTx line (.rds y)).reportMeta line := by
  have hfind := find_joined (t := .queued line (.rds y)) hb rfl
  show pumpLine line ((s.queueTx line (.rds y)).homeTx.length + 1) (s.queueTx line (.rds y)) = _
  rw [pumpLine, show (s.queueTx line (.rds y)).homeTx.find? _ = _ from hfind]
  dsimp only
  rw [show (s.queueTx line (.rds y)).metaError (localLine line) = true from hm]
  rfl

end

/-! ## Answers and rebuilds -/

/-- The answer of an owner to the Recall of a transaction that waits for nothing else ends it (R317). -/
theorem exec_ack_ends {s : State} {x : BitVec 6} {line : Nat} {t : HomeTx} {dirty notHeld : Bool} {d : Option (BitVec 1024)}
    (ht : (s.homeTx.find? fun t => t.line == line && t.active) = some t) (ho : t.owes = some x) (hi : t.invs = [])
    (hc : t.call = none) {u : HomeTx}
    (hu : u = { t with
      owes := none, dirty := t.dirty || dirty, data := if dirty && d.isSome then d else t.data,
      dead := t.dead || (notHeld && 2 ≤ hst (s.metaWord (localLine line)) && own (s.metaWord (localLine line)) == x) }) :
    exec (.ack x line dirty notHeld d) s = .next ((finishTx u (s.setTx t u)).pump line) := by
  have hfound := List.find?_some ht
  have hline : t.line = line := by simp only [Bool.and_eq_true, beq_iff_eq] at hfound; exact hfound.1
  have hinvs : u.invs = [] := by rw [hu]; exact hi
  have hsettle : settleTx u (s.setTx t u) = (finishTx u (s.setTx t u)).pump line := by
    have howes : u.owes = none := by rw [hu]
    have hcall : u.call = none := by rw [hu]; exact hc
    have hul : u.line = line := by rw [hu]; exact hline
    simp only [settleTx, hinvs, howes, hcall, hul, List.isEmpty_nil, Bool.not_true, Option.isSome_none, Bool.or_self,
      Bool.false_eq_true, if_false]
  rw [← hsettle]
  subst hu
  simp only [exec_ack, execAck, ht, hi, ho, List.contains_nil, Bool.not_false, beq_self_eq_true, Bool.and_self, Bool.not_true,
    Bool.and_false, Bool.false_eq_true, if_false, Bool.true_or, Bool.and_true, List.filter_nil, if_true, Bool.true_and]

/-- The last Ack to an Inv sends the Recall that has waited for it (R317, R324). -/
theorem exec_ack_recalls {s : State} {x o : BitVec 6} {line : Nat} {t : HomeTx} {k : Bool} {f : Option (BitVec 6)}
    (dirty notHeld : Bool) (d : Option (BitVec 1024))
    (ht : (s.homeTx.find? fun t => t.line == line && t.active) = some t) (ho : t.owes = none) (hi : t.invs = [x])
    (hc : t.call = some (o, k, f)) (hr : t.event ≠ .rebuild) (hf : s.fabricCause o = none) {u : HomeTx}
    (hu : u = { t with invs := [] }) :
    exec (.ack x line dirty notHeld d) s = .next (((s.setTx t u).setTx u
      { u with call := none, owes := some o, due := s.tick + s.tmo }).send (.recall o line k f)) := by
  have hfound := List.find?_some ht
  have hline : t.line = line := by simp only [Bool.and_eq_true, beq_iff_eq] at hfound; exact hfound.1
  have hsettle : settleTx u (s.setTx t u) = ((s.setTx t u).setTx u
      { u with call := none, owes := some o, due := s.tick + s.tmo }).send (.recall o line k f) := by
    have hinvs : u.invs = [] := by rw [hu]
    have howes : u.owes = none := by rw [hu]; exact ho
    have hcall : u.call = some (o, k, f) := by rw [hu]; exact hc
    have hul : u.line = line := by rw [hu]; exact hline
    have hup : (s.setTx t u).fabricCause o = none := hf
    simp only [settleTx, hinvs, howes, hcall, hul, hup, List.isEmpty_nil, Bool.not_true, Option.isSome_none, Option.isNone_none,
      Bool.or_self, Bool.false_eq_true, if_false, if_true]
    rfl
  have hev : (t.event == .rebuild) = false := beq_eq_false_iff_ne.mpr hr
  rw [← hsettle]
  subst hu
  simp only [exec_ack, execAck, ht, hi, ho, hev, List.contains_cons, beq_self_eq_true, Bool.true_or, Bool.not_true, Bool.false_and,
    Bool.false_eq_true, if_false, Bool.or_self, Bool.and_false, Bool.or_false, bne_self_eq_false, List.filter_cons, List.filter_nil]

/-- Settles O44: a transaction that asks nobody ends at once (`enqueueTx_quick`); the others are followed message by message. -/
theorem homeAnswersRequests : Obligations.HomeAnswersRequests := by
  unfold Obligations.HomeAnswersRequests
  refine ⟨fun s y line ha hh hb hm => ?admitted, fun s y line ha hh hb hm => ?held, fun s y line ha => ?away,
    fun s x line ha hh ho => ⟨fun h2 => ?evc, fun h3 z p d => ?wbd⟩, fun s x line t dirty notHeld d ht => ?ack,
    fun s line hh hr hm hb => ?rebuild⟩
  case admitted =>
    intro l w tx at_ quick
    have hquick (e : HomeEvent) : quick e (.next (s.enqueueTx line e)) := fun hq =>
      congrArg Host.Outcome.next (enqueueTx_quick hb hm hq)
    have hjoin (e : HomeEvent) := homeRequest_of_admitted (y := y) ha hh e
    refine ⟨?_, fun full => ?_, ?_, fun hn => ?_, ?_, fun k hk n => ?_, fun k hk bytes z => ?_, fun h0 hn hbad => ?_, fun h2 hf => ?_,
      fun h23 hf => ?_⟩
    · rw [exec_rds, execRds, hjoin]; exact hquick _
    · rw [exec_rdx, execRdx, hjoin]; exact hquick _
    · rw [exec_upg, execUpg, hjoin]; exact hquick _
    · rw [exec_homeLocalRead, execHomeLocalRead, hh, hn]; exact hquick _
    · rw [exec_homeLocalWrite, execHomeLocalWrite, hh]; exact hquick _
    · rw [exec_uncachedRead_joins hk ha hh]; exact hquick _
    · rw [exec_uncachedWrite_joins hk ha hh]; exact hquick _
    · have hmsg : txMessages (s.queueTx line (.rds y)) (.queued line (.rds y)) = ([], none) := by
        rw [txMessages_rds, if_neg (by rw [show hst (s.metaWord (localLine line)) = 0 from h0]; decide)]
      rw [exec_rds, execRds, hjoin, enqueueTx_quick hb hm hmsg, finishTx_rds_free hb h0 hn hbad]
    · rw [exec_rds, execRds, hjoin, enqueueTx_rds_owned hb hm h2 hf]
    · rw [exec_rds, execRds, hjoin, enqueueTx_rds_passed hb hm h23 hf]
      rfl
  case held =>
    rw [exec_rds, execRds, homeRequest_of_admitted ha hh, enqueueTx_held hb hm]
    rfl
  case away =>
    intro away
    have hout (e : HomeEvent) := homeRequest_of_refused ha line e
    refine ⟨?_, fun full => ?_, ?_, fun k hk => exec_uncached_refused hk ha⟩
    · rw [exec_rds, execRds, hout]
    · rw [exec_rdx, execRdx, hout]
    · rw [exec_upg, execUpg, hout]
  case evc =>
    simp only [exec_evc, execEvc, ha, hh, h2, ho, Bool.not_true, Bool.false_eq_true, if_false, beq_self_eq_true, Bool.and_self, if_true]
  case wbd =>
    intro t w
    have hguard : ¬ (!s.homeLine line || decide (3 < 2) || own (s.metaWord (localLine line)) != x) = true := by
      rw [hh, ho]; simp
    constructor
    · simp only [exec_wbd, execWbd, ha, h3, Bool.not_true, Bool.false_eq_true, if_false]
      exact if_neg hguard
    · simp only [exec_wbd, execWbd, ha, h3, Bool.not_true, Bool.false_eq_true, if_false]
      exact if_neg hguard
  case ack =>
    intro w
    refine ⟨fun ho hi hc => exec_ack_ends ht ho hi hc rfl, fun o k f ho hi hc hr hf => exec_ack_recalls dirty notHeld d ht ho hi hc hr hf rfl⟩
  case rebuild =>
    intro t u
    have hguard : (!s.homeLine line || !s.mayRepair || !s.metaError (localLine line) ||
        s.homeTx.any fun t => t.line == line && t.active) = false := by
      rw [hh, hr, hm, hb]; rfl
    refine ⟨fun hd => ?_, fun d ds hds => ?_⟩ <;> rw [exec_metadataRebuild, execMetadataRebuild, hguard]
    · have hnone : s.reached = [] := by rw [State.reached, hd]; rfl
      rw [hnone]
      rfl
    · rw [hds]
      rfl

end Sys2Proof.Machine
end

section
/-! SUPPORT. What a translation does to its access, what a page response tells its waiters, and how an invalidation begins and
ends (spec/20). -/
namespace Sys2Proof.Machine

/-! ## Walks -/

/-- A walk that places its access goes on with the physical address. -/
theorem walkAccess_of_leaf {s t : State} {isB : Bool} {a : GAccess} {pa : Nat} {ca : BitVec 2} {d : Bool}
    (h : translate (s.askerOf isB a) (s.bankOf isB).asid a.va.toNat a.needs.1 a.needs.2 s = (.leaf pa ca d, t)) :
    walkAccess isB a s = placeAccess isB a pa ca d t := by
  unfold walkAccess
  simp only [h]

/-- A walk that faults makes its access wait for the page; `hk` excludes the arm of a monitor set. -/
theorem walkAccess_of_fault {s t : State} {isB : Bool} {a : GAccess}
    (h : translate (s.askerOf isB a) (s.bankOf isB).asid a.va.toNat a.needs.1 a.needs.2 s = (.fault, t)) (hk : a.kind ≠ .monitor) :
    walkAccess isB a s = ((t.setAccess isB { (a.count t.tick) with phase := .fault }).pageFault (.access t.coreNo isB a.id)
      (s.bankOf isB).asid a.va.toNat a.needs.1 a.needs.2).bankWaits isB := by
  unfold walkAccess
  simp only [h]

/-- A walk that meets a migration mark waits to be made again. -/
theorem walkAccess_of_migrating {s t : State} {isB : Bool} {a : GAccess}
    (h : translate (s.askerOf isB a) (s.bankOf isB).asid a.va.toNat a.needs.1 a.needs.2 s = (.migrating, t)) :
    walkAccess isB a s = t.setAccess isB { a with phase := .migrating t.tick } := by
  unfold walkAccess
  simp only [h]

/-- An access that is to be walked is walked. -/
theorem exec_translationWalk_of_walk {s : State} {k : Nat} {a : GAccess} (h : s.bank.accessAt k = some a) (hp : a.phase = .walk) :
    exec (.translationWalk k) s = .next (walkAccess s.core.cur a s) := by
  simp only [exec_translationWalk, execTranslationWalk, h, hp, true_or, if_true]

/-- An access that met a migration mark is walked again. -/
theorem exec_migrationRewalk_of_migrating {s : State} {k seen : Nat} {a : GAccess} (h : s.bank.accessAt k = some a)
    (hp : a.phase = .migrating seen) : exec (.migrationRewalk k) s = .next (walkAccess s.core.cur a s) := by
  simp only [exec_migrationRewalk, execMigrationRewalk, h, hp]

/-- An access whose address is good and whose page is not discarded is ready to perform. -/
theorem placeAccess_of_good {s : State} {isB : Bool} {a : GAccess} {pa : Nat} {ca : BitVec 2} (h : rangeCause a pa ca s = none) :
    placeAccess isB a pa ca false s = s.setAccess isB { a with phase := .ready pa ca } := by
  unfold placeAccess
  simp only [Bool.false_eq_true, if_false, h]

/-! ## Page responses -/

/-- With no request waiting for a tag nothing is sent. -/
theorem pumpPages_of_none {s : State} (k : Nat) (h : s.pageWait = []) : pumpPages k s = s := by
  cases k with
  | zero => rfl
  | succ k => simp only [pumpPages, h]

/-- A trap changes the core in focus alone. -/
theorem State.takeTrapIn_core (s : State) (isB : Bool) (t : Trap) : ∃ c, s.takeTrapIn isB t = { s with core := c } := by
  rw [State.takeTrapIn]
  split <;> exact ⟨_, rfl⟩

/-- An access whose wait fails changes the core in focus alone. -/
theorem waitFails_core (isB : Bool) (id : Nat) (cause : BitVec 8) (d0 d1 : BitVec 64) (s : State) :
    ∃ c, waitFails isB id cause d0 d1 s = { s with core := c } := by
  rw [waitFails]
  split
  · exact State.takeTrapIn_core ..
  · exact ⟨s.core, rfl⟩

/-- An access of a running core whose wait fails traps with its cause, its address and the bundle that issued it. -/
theorem waitFails_trap {s : State} {isB : Bool} {id : Nat} {a : GAccess} (cause : BitVec 8) (d0 d1 : BitVec 64)
    (h : (s.bankOf isB).accesses.find? (fun a => a.id == id) = some a) (hrun : s.core.run = .running) :
    (waitFails isB id cause d0 d1 s).core.trap = some ⟨cause, .deferred, slotMask .s, a.pc, a.rep, a.va, d0, d1⟩ := by
  simp only [waitFails, h, State.trapIn, State.takeTrapIn_of_running hrun]
  rfl

/-- The state that a response leaves before its waiters are told: the request is gone, and after a Response Failure the port is
stopped. -/
def State.answered (s : State) (r : PageReq) (code : PageCode) : State :=
  { s with
    pageReqs := s.pageReqs.filter (· != r),
    priStopped := if code = .responseFailure then s.priStopped ||| (1#2 <<< (s.asidPort r.asid).toNat) else s.priStopped }

/-- A response to a tag tells its waiters, and requests that wait for a tag go on. -/
theorem exec_pageResponse_of_tag {s : State} {tag : BitVec 8} {r : PageReq} (code : PageCode)
    (h : s.pageReqs.find? (fun r => r.tag == tag.toNat) = some r) : exec (.pageResponse tag code) s =
      .next (pumpPages ((r.waiters.foldl (answerWaiter r code) (s.answered r code)).pageWait.length + 1)
        (r.waiters.foldl (answerWaiter r code) (s.answered r code))) := by
  simp only [exec_pageResponse, execPageResponse, h, State.answered]

/-- A response that nothing waits for, with no request waiting for a tag, only ends its request. -/
theorem exec_pageResponse_of_no_waiters {s : State} {tag : BitVec 8} {r : PageReq} (code : PageCode)
    (h : s.pageReqs.find? (fun r => r.tag == tag.toNat) = some r) (hw : r.waiters = []) (hp : s.pageWait = []) :
    exec (.pageResponse tag code) s = .next (s.answered r code) := by
  rw [exec_pageResponse_of_tag code h, hw, List.foldl_nil, pumpPages_of_none (s := s.answered r code) _ hp]

/-- An access of the core in focus that is answered by Invalid Request ends its wait with 0x70. -/
theorem answerWaiter_invalidRequest (r : PageReq) (s : State) (isB : Bool) (id : Nat) :
    answerWaiter r .invalidRequest s (.access s.coreNo isB id) = waitFails isB id 0x70 1 (BitVec.ofNat 64 r.tag) s := by
  obtain ⟨c, hc⟩ := waitFails_core isB id 0x70 1 (BitVec.ofNat 64 r.tag) s
  exact State.onCore_self (f := waitFails isB id 0x70 1 (BitVec.ofNat 64 r.tag)) (hc ▸ rfl)

/-- An Invalid Request for an access of the core in focus leaves what its failed wait leaves. -/
theorem exec_pageResponse_invalidRequest {s : State} {tag : BitVec 8} {r : PageReq} {isB : Bool} {id : Nat}
    (h : s.pageReqs.find? (fun r => r.tag == tag.toNat) = some r) (hw : r.waiters = [.access s.coreNo isB id])
    (hp : s.pageWait = []) : exec (.pageResponse tag .invalidRequest) s =
      .next (waitFails isB id 0x70 1 (BitVec.ofNat 64 r.tag) (s.answered r .invalidRequest)) := by
  have hone : r.waiters.foldl (answerWaiter r .invalidRequest) (s.answered r .invalidRequest) =
      waitFails isB id 0x70 1 (BitVec.ofNat 64 r.tag) (s.answered r .invalidRequest) := by
    rw [hw]
    exact answerWaiter_invalidRequest r (s.answered r .invalidRequest) isB id
  obtain ⟨c, hc⟩ := waitFails_core isB id 0x70 1 (BitVec.ofNat 64 r.tag) (s.answered r .invalidRequest)
  rw [exec_pageResponse_of_tag _ h, hone, pumpPages_of_none _ (hc ▸ hp)]

/-- A tracked access that has waited for the fault bound, its page still asked for, fails with 0x74. -/
theorem exec_faultBoundExpiry_of_access {s : State} {k : Nat} {a : GAccess} {t : Tracked} (ht : s.bank.tracked[k]? = some t)
    (hk : t.kind = .access a) (hb : s.core.faultB ≠ 0) (hw : s.core.faultB.toNat ≤ a.waited)
    (hp : s.waitsOnPage (.access s.coreNo s.core.cur a.id) = true) : exec (.faultBoundExpiry k) s =
      .next (waitFails s.core.cur a.id 0x74 (BitVec.ofNat 64 a.waited)
        (BitVec.ofNat 64 (s.tagOf (.access s.coreNo s.core.cur a.id))) (s.dropWaiter (.access s.coreNo s.core.cur a.id))) := by
  have hhit : s.core.boundHit a.waited = true := by
    simp only [Core.boundHit, bne_iff_ne.mpr hb, hw, decide_true, Bool.and_self]
  simp only [exec_faultBoundExpiry, execFaultBoundExpiry, ht, hk, boundFails, hhit, hp, Bool.not_true, Bool.or_self,
    Bool.false_eq_true, if_false]

/-! ## Invalidations -/

/-- An invalidation begins unless one is in progress. -/
theorem startInvalidation_of_idle {s : State} (w : BitVec 64) (h : s.xbusy = false) : startInvalidation w s =
    { s with xbusy := true, xinvc := w, xpage := (s.xinva.extractLsb' 18 36).toNat * 2 ^ 18 } :=
  if_neg (ne_true_of_eq_false h)

/-- An invalidation in progress ends once no translated access of the device is unperformed. -/
theorem exec_invalidationDone_of_settled {s : State} (h : s.xbusy = true) (hs : s.settled = true) :
    Answers (exec .invalidationDone s) fun t => t.xbusy = false ∧ t.tlb = s.tlb.filter (fun e => !s.dropsEntry e) := by
  simp only [exec_invalidationDone, execInvalidationDone, h, hs, Bool.not_true, Bool.or_self, Bool.false_eq_true, if_false]
  exact ⟨_, rfl, rfl, rfl⟩

end Sys2Proof.Machine
end

section
/-! Proof of the obligation O47 (spec/20). -/
namespace Sys2Proof.Machine

/-- Settles O47: a walk does what its translation answers, a response what its code tells the waiters, and an invalidation begins
and ends under BUSY. -/
theorem translationEventsAct : Obligations.TranslationEventsAct := by
  unfold Obligations.TranslationEventsAct
  refine ⟨fun s k a ha => ⟨fun pa ca d t hr => ?leaf, fun t hr hk => ?fault, fun t hr hp => ?migrating⟩,
    fun s isB a pa ca h => placeAccess_of_good h,
    fun s tag r hr => ⟨fun hw hp => ⟨?success, ?failure⟩, fun id hw hp => ?invalid⟩,
    fun s k a t ht hk hb hw hp => exec_faultBoundExpiry_of_access ht hk hb hw hp,
    fun s asid => ⟨fun h => ?begins, fun h => ⟨?busy, fun hs => ?unsettled, fun hs => exec_invalidationDone_of_settled h hs⟩⟩,
    fun s port hp => ?cleared⟩
  case leaf =>
    have hwalk := walkAccess_of_leaf hr
    exact ⟨fun hp => (exec_translationWalk_of_walk ha hp).trans (congrArg _ hwalk),
      fun _ hp => (exec_migrationRewalk_of_migrating ha hp).trans (congrArg _ hwalk)⟩
  case fault =>
    have hwalk := walkAccess_of_fault hr hk
    exact ⟨fun hp => (exec_translationWalk_of_walk ha hp).trans (congrArg _ hwalk),
      fun _ hp => (exec_migrationRewalk_of_migrating ha hp).trans (congrArg _ hwalk)⟩
  case migrating =>
    exact (exec_translationWalk_of_walk ha hp).trans (congrArg _ (walkAccess_of_migrating hr))
  case success => exact exec_pageResponse_of_no_waiters .success hr hw hp
  case failure => exact exec_pageResponse_of_no_waiters .responseFailure hr hw hp
  case invalid =>
    rw [exec_pageResponse_invalidRequest hr hw hp]
    obtain ⟨c, hc⟩ := waitFails_core s.core.cur id 0x70 1 (BitVec.ofNat 64 r.tag) (s.answered r .invalidRequest)
    exact ⟨_, rfl, hc ▸ rfl, fun a hfind hrun => ⟨_, waitFails_trap _ _ _ hfind hrun, rfl, rfl, rfl⟩⟩
  case begins =>
    exact ⟨congrArg _ (startInvalidation_of_idle _ h), congrArg _ (startInvalidation_of_idle _ h),
      congrArg _ (startInvalidation_of_idle _ h), congrArg _ (startInvalidation_of_idle _ h)⟩
  case busy => exact congrArg _ (if_pos h)
  case unsettled => simp only [exec_invalidationDone, execInvalidationDone, hs, Bool.not_false, Bool.or_true, if_true]
  case cleared =>
    exact congrArg Host.Outcome.next
      (pumpPages_of_none (s := { s with priStopped := s.priStopped &&& ~~~(1#2 <<< port.toNat) }) _ hp)

end Sys2Proof.Machine
end

section
/-! SUPPORT. How a queue's records are taken, and which of them starts (spec/24 R337, R339, R341). -/
namespace Sys2Proof.Machine

/-! ## Descriptors of queues -/

/-- A queue's descriptor after it is changed. -/
@[simp] theorem State.queueAt_modQueue (s : State) (q : Nat) (f : QueueDesc → QueueDesc) :
    (s.modQueue q f).queueAt q = f (s.queueAt q) := by
  rw [State.modQueue, State.queueAt, Sparse.at_put, if_pos rfl]

/-- A descriptor after its oldest posted record is taken: HEAD and the number are counted up. -/
def QueueDesc.advance (d : QueueDesc) : QueueDesc := { (d.setWord 3 ((d.head + 1).setWidth 64)) with seq := d.seq + 1 }

/-- Taking a record leaves every word but that of HEAD. -/
theorem QueueDesc.word_advance (d : QueueDesc) {j : Nat} (h : j ≠ 3) : d.advance.word j = d.word j := by
  rw [QueueDesc.word, QueueDesc.advance, QueueDesc.setWord, vget_vset, if_neg fun hj => h hj.1]
  rfl

/-- Taking a record leaves TAIL. -/
@[simp] theorem QueueDesc.tail_advance (d : QueueDesc) : d.advance.tail = d.tail := by
  rw [QueueDesc.tail, d.word_advance (by decide)]
  rfl

/-- Taking a record counts HEAD up. -/
@[simp] theorem QueueDesc.head_advance (d : QueueDesc) : d.advance.head = d.head + 1 := by
  rw [QueueDesc.head, QueueDesc.word, QueueDesc.advance, QueueDesc.setWord, vget_vset, if_pos ⟨rfl, by decide⟩]
  exact BitVec.eq_of_toNat_eq (by simp)

/-- The record that stands `i` records behind HEAD, as it is taken. -/
def QueueDesc.posted (d : QueueDesc) (q i : Nat) : Taking :=
  ⟨q, d.seq + 1 + BitVec.ofNat 32 i, ((d.word 1).toNat + 256 * ((d.head + BitVec.ofNat 32 i).toNat % 2 ^ d.log2)) % 2 ^ 64, d.asid, false⟩

/-- The records behind the oldest are those of the descriptor after it is taken. -/
theorem QueueDesc.posted_advance (d : QueueDesc) (q i : Nat) : d.advance.posted q i = d.posted q (i + 1) := by
  have hw (j : Nat) (h : j ≠ 3) := d.word_advance h
  have hseq : d.advance.seq = d.seq + 1 := rfl
  have hone (x : BitVec 32) : x + 1 + BitVec.ofNat 32 i = x + BitVec.ofNat 32 (i + 1) := by
    rw [BitVec.ofNat_add, BitVec.add_assoc, BitVec.add_comm 1]
    rfl
  simp only [QueueDesc.posted, QueueDesc.log2, QueueDesc.asid, hw 0 (by decide), hw 1 (by decide), QueueDesc.head_advance, hseq, hone]

/-! ## A poll slot -/

/-- The oldest posted record of a queue is taken. -/
theorem takePosted_of_posted {q k : Nat} {s : State} (h : (s.queueAt q).head ≠ (s.queueAt q).tail) : takePosted q (k + 1) s =
    takePosted q k { s.modQueue q QueueDesc.advance with taking := s.taking ++ [(s.queueAt q).posted q 0] } := by
  have hzero : (s.queueAt q).posted q 0 = ⟨q, (s.queueAt q).seq + 1,
      (((s.queueAt q).word 1).toNat + 256 * ((s.queueAt q).head.toNat % 2 ^ (s.queueAt q).log2)) % 2 ^ 64, (s.queueAt q).asid, false⟩ := by
    simp only [QueueDesc.posted, BitVec.ofNat_eq_ofNat, BitVec.add_zero]
  rw [hzero]
  exact if_neg h

/-- Every record posted is taken in ring order, and HEAD moves to TAIL. -/
theorem takePosted_takes (q k : Nat) (s : State) (hk : ((s.queueAt q).tail - (s.queueAt q).head).toNat = k) :
    (takePosted q k s).taking = s.taking ++ (List.range k).map ((s.queueAt q).posted q) ∧
    ((takePosted q k s).queueAt q).head = (s.queueAt q).tail ∧
    ((takePosted q k s).queueAt q).seq = (s.queueAt q).seq + BitVec.ofNat 32 k ∧
    ((takePosted q k s).queueAt q).tail = (s.queueAt q).tail := by
  induction k generalizing s with
  | zero =>
    have hhead : (s.queueAt q).head = (s.queueAt q).tail := by bv_omega
    refine ⟨(List.append_nil _).symm, hhead, ?_, rfl⟩
    exact (BitVec.add_zero _).symm
  | succ k ih =>
    have hne : (s.queueAt q).head ≠ (s.queueAt q).tail := fun h => by rw [h, BitVec.sub_self] at hk; exact absurd hk (by simp)
    let u : State := { s.modQueue q QueueDesc.advance with taking := s.taking ++ [(s.queueAt q).posted q 0] }
    have hu : u.queueAt q = (s.queueAt q).advance := s.queueAt_modQueue q _
    have hrest := ih u (by rw [hu, QueueDesc.tail_advance, QueueDesc.head_advance]; bv_omega)
    obtain ⟨htaking, hhead, hseq, htail⟩ := hrest
    rw [hu] at htaking hhead hseq htail
    rw [takePosted_of_posted hne]
    refine ⟨htaking.trans ?_, hhead.trans (QueueDesc.tail_advance _), hseq.trans ?_, htail.trans (QueueDesc.tail_advance _)⟩
    · simp only [u, List.range_succ_eq_map, List.map_cons, List.map_map, List.append_assoc, List.singleton_append]
      congr 3
      exact funext fun i => QueueDesc.posted_advance _ q i
    · rw [BitVec.ofNat_add, BitVec.add_comm (BitVec.ofNat 32 k), ← BitVec.add_assoc]
      rfl

/-- The poll slot of a served host queue takes every record posted. -/
theorem takeRecord_of_served {q : Nat} {s : State} (hq : q < 256) (hs : s.served q = true) (hp : s.hasPolled q = false) :
    takeRecord q s = takePosted q ((s.queueAt q).tail - (s.queueAt q).head).toNat { s with polled := q :: s.polled } := by
  have hs' : ({ s with polled := q :: s.polled } : State).served q = true := hs
  rw [takeRecord, if_neg (ne_true_of_eq_false hp)]
  simp only [hs', hq, Bool.not_true, Bool.false_eq_true, if_false, if_true]
  rfl

/-! ## Which record goes on -/

/-- A launch start at a queue polls it, and its records go on. -/
theorem exec_launchStart_of_queue {q : Nat} {s : State} (hq : q < 272) :
    exec (.launchStart q) s = .next (startQueue q (takeRecord q s)) := congrArg _ (if_neg hq.not_ge)

/-- A taken record of an ASID that is not live is refused with reason 1. -/
theorem readRecord_of_dead {q : Nat} {s : State} {t : Taking} (h : s.taking.find? (fun t => t.queue == q) = some t)
    (hf : t.failed = false) (hl : s.asidLive t.asid = false) : readRecord q s =
      { refuseRecord q t.seq 0 1 s with taking := (refuseRecord q t.seq 0 1 s).taking.filter (· != t) } := by
  simp only [readRecord, h, hf, hl, Bool.false_eq_true, if_false, Bool.not_false, if_true]

/-- A queue without a taken record has none to read. -/
theorem readRecord_of_none {q : Nat} {s : State} (h : (s.taking.any fun t => t.queue == q) = false) : readRecord q s = s := by
  have hn : s.taking.find? (fun t => t.queue == q) = none := List.find?_eq_none.mpr (List.any_eq_false.mp h)
  simp only [readRecord, hn]

/-- Where no record waits, none starts. -/
theorem startQueue_of_no_waiting {q : Nat} {s : State} (h : (readRecord q s).waiting = []) : startQueue q s = readRecord q s := by
  have hnext : nextStart (readRecord q s) = none := by rw [nextStart, h]; rfl
  simp only [startQueue, h, List.find?_nil, hnext]

/-- A record makes no way where none of its cores has a task. -/
theorem makeWay_of_free {r : LaunchRec} {s : State} (h : ∀ n ∈ r.coreList, (s.coreAt n).launch = none) : makeWay r s = s := by
  have hclass (n : Nat) (hn : n ∈ r.coreList) : s.coreClass n = none := by
    have hnone : s.launchOf none = none := List.find?_eq_none.mpr fun l _ => by simp
    rw [State.coreClass, State.classOf, h n hn, hnone]
    rfl
  unfold makeWay
  clear h
  generalize r.coreList = l at hclass ⊢
  induction l with
  | nil => rfl
  | cons n l ih =>
    simp only [List.foldl_cons, hclass n List.mem_cons_self]
    exact ih fun m hm => hclass m (List.mem_cons_of_mem _ hm)

/-- The one record that waits, its cores free, starts next. -/
theorem nextStart_of_free {r : LaunchRec} {s : State} (hw : s.waiting = [r]) (hs : s.saved = [])
    (h : ∀ n ∈ r.coreList, (s.coreAt n).launch = none ∧ (s.coreAt n).storesLeft = false) : nextStart s = some r := by
  have hfree : (r.coreList.all fun n => !s.coreTaken r.cls n) = true := by
    refine List.all_eq_true.mpr fun n hn => ?_
    obtain ⟨hl, hst⟩ := h n hn
    simp [State.coreTaken, hl, hst, hs]
  simp [nextStart, hw, hfree]

/-- The one record that waits, its cores free, is loaded. -/
theorem startQueue_of_free {q : Nat} {r : LaunchRec} {s : State} (hnone : (s.taking.any fun t => t.queue == q) = false)
    (hw : s.waiting = [r]) (hq : r.queue = q) (hs : s.saved = [])
    (h : ∀ n ∈ r.coreList, (s.coreAt n).launch = none ∧ (s.coreAt n).storesLeft = false) : startQueue q s = loadLaunch r s := by
  have hfind : [r].find? (fun r => r.queue == q) = some r := List.find?_cons_of_pos (by simpa using hq)
  simp only [startQueue, readRecord_of_none hnone, hw, hfind, makeWay_of_free fun n hn => (h n hn).1, nextStart_of_free hw hs h, hq,
    if_true]

/-! ## Loading -/

/-- The cores of a record are those below 128 that it names. -/
theorem LaunchRec.mem_coreList {r : LaunchRec} {n : Nat} : n ∈ r.coreList ↔ n < 128 ∧ r.cores.getLsbD n = true := by
  rw [LaunchRec.coreList, List.mem_filter, List.mem_range]

/-- A record names a core once. -/
theorem LaunchRec.nodup_coreList (r : LaunchRec) : r.coreList.Nodup := List.nodup_range.filter _

/-- A core that is loaded holds the image, halted, with its task's launch and entry; its scratchpad stays. -/
theorem loadCore_holds (r : LaunchRec) (image : List (BitVec 8)) (ix : Nat) (c : Core) :
    (loadCore r image ix c).imem = Memory.ofBytes image ∧ (loadCore r image ix c).run = .halted ∧
    (loadCore r image ix c).launch = some (r.queue, r.seq) ∧ (loadCore r image ix c).bankA.pc = 0 ∧
    (loadCore r image ix c).spad = c.spad := by
  simp only [loadCore, Core.clearChannels, releaseBank, and_self]

/-- Cores loaded one after another, each with its task index from `ix` on. -/
def loadCores (r : LaunchRec) (image : List (BitVec 8)) (ix : Nat) (l : List Nat) (s : State) : State :=
  (l.zipIdx ix).foldl (fun s p => s.modCoreAt p.1 (loadCore r image p.2)) s

/-- Loading cores leaves what is no core. -/
theorem loadCores_frame (r : LaunchRec) (image : List (BitVec 8)) (ix : Nat) (l : List Nat) (s : State) :
    ∃ c o, loadCores r image ix l s = { s with core := c, others := o } := by
  induction l generalizing ix s with
  | nil => exact ⟨_, _, rfl⟩
  | cons n l ih =>
    obtain ⟨c, o, h⟩ := ih (ix + 1) (s.modCoreAt n (loadCore r image ix))
    exact ⟨c, o, h.trans (by rw [s.modCoreAt_frame n])⟩

/-- A core that is not loaded stays as it is. -/
theorem coreAt_loadCores_of_not_mem (r : LaunchRec) (image : List (BitVec 8)) (ix : Nat) {l : List Nat} (s : State) {n : Nat}
    (hn : n ∉ l) : (loadCores r image ix l s).coreAt n = s.coreAt n := by
  induction l generalizing ix s with
  | nil => rfl
  | cons m l ih =>
    obtain ⟨hne, hn⟩ := not_or.mp (List.mem_cons.not.mp hn)
    exact (ih (ix + 1) _ hn).trans (State.coreAt_modCoreAt_of_ne _ hne)

/-- A core that is loaded holds its task. -/
theorem coreAt_loadCores_of_mem (r : LaunchRec) (image : List (BitVec 8)) (ix : Nat) {l : List Nat} (hl : l.Nodup) (s : State)
    {n : Nat} (hn : n ∈ l) : ∃ k, (loadCores r image ix l s).coreAt n = loadCore r image k (s.coreAt n) := by
  induction l generalizing ix s with
  | nil => exact absurd hn List.not_mem_nil
  | cons m l ih =>
    obtain ⟨hm, hl⟩ := List.nodup_cons.mp hl
    by_cases h : n = m
    · subst h
      exact ⟨ix, (coreAt_loadCores_of_not_mem r image (ix + 1) _ hm).trans (State.coreAt_modCoreAt_self ..)⟩
    · obtain ⟨k, hk⟩ := ih (ix + 1) hl (s.modCoreAt m (loadCore r image ix)) ((List.mem_cons.mp hn).resolve_left h)
      exact ⟨k, hk.trans (by rw [State.coreAt_modCoreAt_of_ne _ h])⟩

/-- A launch whose image is read loads its cores, waits no more, and is announced for a tick at least two ticks later. -/
theorem loadLaunch_of_got {r : LaunchRec} {s u : State} {image : List (BitVec 8)}
    (h : feRead (.launch r.queue r.seq) r.asid r.img.toNat r.len (r.len / 64 + 2) [] s = (.got image, u)) :
    (loadLaunch r s).waiting = u.waiting.filter (· != r) ∧
    (∃ rt, u.tick + 2 ≤ rt ∧ (loadLaunch r s).launches = u.launches ++
      [⟨r, rt, false, r.coreList.flatMap fun n => (n, false) :: (if r.armb then [(n, true)] else []), 0, []⟩]) ∧
    ∀ n, (loadLaunch r s).coreAt n = (loadCores r image 0 r.coreList u).coreAt n := by
  obtain ⟨c, o, hload⟩ := loadCores_frame r image 0 r.coreList u
  obtain ⟨k, hchoose⟩ := State.choose_state (loadCores r image 0 r.coreList u) (2 ^ 32)
  have hstate : ((loadCores r image 0 r.coreList u).choose (2 ^ 32)).2 = { u with core := c, others := o, choices := k } := by
    rw [hchoose, hload]
  unfold loadLaunch
  simp only [h, ← loadCores.eq_1, hstate, true_and]
  rw [hload]
  exact ⟨⟨_, Nat.le_add_right .., rfl⟩, fun _ => rfl⟩

/-! ## The release -/

/-- Another core in focus: every core stands under its number as before. -/
@[simp] theorem State.coreAt_focus (s : State) (n k : Nat) : (s.focus n).coreAt k = s.coreAt k := by
  by_cases hn : n = s.coreNo
  · rw [hn, State.focus_coreNo_self]
  · rw [State.coreAt, State.coreAt, State.coreNo_focus, State.core_focus, State.others_focus_of_ne hn, Sparse.at_put, Sparse.at_drop]
    by_cases hk : k = n
    · rw [if_pos hk, hk, if_neg hn, State.coreAt, if_neg hn]
    · rw [if_neg hk, if_neg hk]

/-- The state `t` is `s` with the core in focus changed, and open choices drawn. -/
def FocusChanged (s t : State) : Prop := ∃ c k, t = { s with core := c, choices := k }

/-- What changes the core of a number, seen from any focus. -/
theorem FocusChanged.coreAt {s : State} {n : Nat} {f : State → State} (h : FocusChanged (s.focus n) (f (s.focus n))) (k : Nat) :
    (s.onCore n f).coreAt k = if k = n then (f (s.focus n)).core else s.coreAt k := by
  obtain ⟨c, j, h⟩ := h
  have hno : (f (s.focus n)).coreNo = n := by rw [h]; exact State.coreNo_focus s n
  have hothers : (f (s.focus n)).others = (s.focus n).others := by rw [h]
  rw [State.onCore, State.coreAt_focus, State.coreAt, hno, hothers]
  by_cases hk : k = n
  · rw [if_pos hk, if_pos hk]
  · rw [if_neg hk, if_neg hk, ← s.coreAt_focus n k, State.coreAt, State.coreNo_focus, if_neg hk]

/-- What happens at a core, and changes it alone, leaves what is no core, but for the open choices drawn. -/
theorem FocusChanged.onCore {s : State} {n : Nat} {f : State → State} (h : FocusChanged (s.focus n) (f (s.focus n))) :
    (s.onCore n f).coreNo = s.coreNo ∧ (s.onCore n f).launches = s.launches := by
  have hlaunches (u : State) (k : Nat) : (u.focus k).launches = u.launches := by
    rw [State.focus]
    split <;> rfl
  obtain ⟨c, j, h⟩ := h
  refine ⟨State.coreNo_focus _ _, ?_⟩
  rw [State.onCore, hlaunches, h]
  exact hlaunches s n

/-- A mesh that restarts draws open choices, and changes the mesh alone. -/
theorem State.restartMesh_changes (s : State) : ∃ m k, s.restartMesh = { s.modMesh (fun _ => m) with choices := k } := by
  unfold State.restartMesh
  extract_lets m
  split
  · exact ⟨{ s.core.mesh with frz := false }, s.choices, rfl⟩
  · split
    next ps t hps =>
    have hdraws : DrawsOnly s t := by
      have ht : _ = t := congrArg Prod.snd hps
      rw [← ht]
      refine foldl_drawsOnly _ _ ([], s) fun acc i => ?_
      dsimp only
      split
      · split
        · exact .refl _
        · split <;> exact .refl _
      · split
        · exact ⟨_, rfl⟩
        · exact .refl _
    obtain ⟨k, rfl⟩ := hdraws
    exact ⟨_, k, rfl⟩

/-- A mesh whose region no restore has written goes on. -/
theorem State.restartMesh_of_unwritten {s : State} (h : s.core.mesh.written = []) :
    s.restartMesh = s.modMesh fun m => { m with frz := false } := by
  unfold State.restartMesh
  exact if_pos (by rw [h]; rfl)

/-- A core of a launch begins its first bundle. -/
def releaseCore (rt : Nat) (s : State) : State := State.restartMesh (s.modCore fun c => { c with run := .running, released := rt })

/-- What a released core `d` is of what it was, `c`: it runs, its bank A is as loaded, and but for a mesh that a restore has written
nothing else differs. -/
def Released (rt : Nat) (c d : Core) : Prop :=
  d.run = .running ∧ d.released = rt ∧ d.bankA = c.bankA ∧
    (c.mesh.written = [] → d = { c with run := .running, released := rt, mesh := { c.mesh with frz := false } })

/-- A core that begins changes alone. -/
theorem releaseCore_focusChanged (rt : Nat) (s : State) : FocusChanged s (releaseCore rt s) := by
  obtain ⟨m, k, h⟩ := State.restartMesh_changes (s.modCore fun c => { c with run := .running, released := rt })
  exact ⟨_, k, h⟩

/-- A core that begins is released. -/
theorem releaseCore_released (rt : Nat) (s : State) : Released rt s.core (releaseCore rt s).core := by
  obtain ⟨m, k, h⟩ := State.restartMesh_changes (s.modCore fun c => { c with run := .running, released := rt })
  have hcore : (releaseCore rt s).core = { s.core with run := .running, released := rt, mesh := m } := congrArg State.core h
  refine ⟨by rw [hcore], by rw [hcore], by rw [hcore], fun hw => ?_⟩
  exact congrArg State.core (State.restartMesh_of_unwritten (s := s.modCore fun c => { c with run := .running, released := rt }) hw)

/-- Distinct cores that begin one after another: each of them is released, every other core and the launches stay. -/
theorem foldl_releaseCore (rt : Nat) {l : List Nat} (hl : l.Nodup) (s : State) :
    (∀ n ∈ l, Released rt (s.coreAt n) ((l.foldl (fun s n => s.onCore n (releaseCore rt)) s).coreAt n)) ∧
    (∀ n, n ∉ l → (l.foldl (fun s n => s.onCore n (releaseCore rt)) s).coreAt n = s.coreAt n) ∧
    (l.foldl (fun s n => s.onCore n (releaseCore rt)) s).launches = s.launches := by
  induction l generalizing s with
  | nil => exact ⟨fun n hn => absurd hn List.not_mem_nil, fun _ _ => rfl, rfl⟩
  | cons m l ih =>
    obtain ⟨hm, hl⟩ := List.nodup_cons.mp hl
    have hstep := releaseCore_focusChanged rt (s.focus m)
    obtain ⟨hin, hout, hlaunches⟩ := ih hl (s.onCore m (releaseCore rt))
    refine ⟨fun n hn => ?_, fun n hn => ?_, hlaunches.trans hstep.onCore.2⟩
    · by_cases h : n = m
      · subst h
        rw [List.foldl_cons, hout n hm, hstep.coreAt, if_pos rfl, ← s.core_focus n]
        exact releaseCore_released rt (s.focus n)
      · have hrest := hin n ((List.mem_cons.mp hn).resolve_left h)
        rwa [hstep.coreAt, if_neg h] at hrest
    · obtain ⟨hne, hn⟩ := not_or.mp (List.mem_cons.not.mp hn)
      exact (hout n hn).trans ((hstep.coreAt n).trans (if_neg hne))

/-- A launch that is released: each of its cores is, every other core stays, and the launch is marked. -/
theorem releaseLaunch_spec (l : Launch) (s : State) :
    (∀ n ∈ l.record.coreList, Released l.rt (s.coreAt n) ((releaseLaunch l s).coreAt n)) ∧
    (∀ n, n ∉ l.record.coreList → (releaseLaunch l s).coreAt n = s.coreAt n) ∧
    (releaseLaunch l s).launches =
      s.launches.map fun m => if m.record.queue = l.record.queue ∧ m.record.seq = l.record.seq then { m with released := true } else m := by
  obtain ⟨hin, hout, hlaunches⟩ := foldl_releaseCore l.rt l.record.nodup_coreList
    (s.modLaunch (some (l.record.queue, l.record.seq)) fun l => { l with released := true })
  refine ⟨hin, hout, hlaunches.trans (List.map_congr_left fun m _ => ?_)⟩
  simp only [Option.some.injEq, Prod.mk.injEq]

/-- A launch is found under its queue and number. -/
theorem State.launchOf_names {s : State} {q : Nat} {k : BitVec 32} {l : Launch} (h : s.launchOf (some (q, k)) = some l) :
    l.record.queue = q ∧ l.record.seq = k := by
  have hname := List.find?_some h
  simpa using hname

/-- Before its release tick a launch waits. -/
theorem exec_taskRelease_of_early {s : State} {q : Nat} {k : BitVec 32} {l : Launch} (h : s.launchOf (some (q, k)) = some l)
    (ht : s.tick < l.rt) : exec (.taskRelease q k) s = .next s := by
  simp only [exec_taskRelease, execTaskRelease, h, ht, decide_true, Bool.or_true, Bool.true_or, if_true]

/-- At its release tick a launch none of whose cores has had its turn in the cycle is released. -/
theorem exec_taskRelease_of_due {s : State} {q : Nat} {k : BitVec 32} {l : Launch} (h : s.launchOf (some (q, k)) = some l)
    (hr : l.released = false) (ht : l.rt ≤ s.tick) (hc : ∀ n ∈ l.record.coreList, ¬ n < s.coreNo) :
    exec (.taskRelease q k) s = .next (releaseLaunch l s) := by
  have hturn : (l.record.coreList.any fun n => n < s.coreNo) = false :=
    List.any_eq_false.mpr fun n hn => by simpa using hc n hn
  simp only [exec_taskRelease, execTaskRelease, h, hr, ht.not_gt, hturn, decide_false, Bool.or_self, Bool.false_eq_true, if_false]

end Sys2Proof.Machine
end

section
/-! Proof of the obligation O49 (spec/24). -/
namespace Sys2Proof.Machine

/-- Settles O49: a poll slot takes what is posted, the one record that can start is loaded, and its cores begin at the release
tick. -/
theorem launchesBegin : Obligations.LaunchesBegin := by
  unfold Obligations.LaunchesBegin
  refine ⟨fun s q hq hs hp => ?takes, fun s q hp => if_pos hp,
    fun s q hq => ⟨fun t ht hf hl hw => ?refused, fun r hnone hw hrq hsaved hfree => ?starts⟩,
    fun s u r image hread => ?loads, fun s q k l hl => ⟨exec_taskRelease_of_early hl, fun hr ht hturn => ?releases⟩⟩
  case takes =>
    rw [takeRecord_of_served hq hs hp]
    exact takePosted_takes q _ { s with polled := q :: s.polled } rfl
  case refused =>
    have hread := readRecord_of_dead ht hf hl
    rw [exec_launchStart_of_queue hq, startQueue_of_no_waiting (hread ▸ hw), hread]
  case starts =>
    have hcores : ∀ n ∈ r.coreList, ((takeRecord q s).coreAt n).launch = none ∧ ((takeRecord q s).coreAt n).storesLeft = false :=
      fun n hn => hfree n (LaunchRec.mem_coreList.mp hn).1
    rw [exec_launchStart_of_queue hq, startQueue_of_free hnone hw hrq hsaved hcores]
  case loads =>
    obtain ⟨hwaiting, hlaunches, hcores⟩ := loadLaunch_of_got hread
    refine ⟨hwaiting, hlaunches, fun n hn => ⟨fun hin => ?_, fun hout => ?_⟩⟩
    · obtain ⟨k, hk⟩ := coreAt_loadCores_of_mem r image 0 r.nodup_coreList u (LaunchRec.mem_coreList.mpr ⟨hn, hin⟩)
      rw [hcores, hk]
      exact loadCore_holds r image k _
    · rw [hcores]
      exact coreAt_loadCores_of_not_mem r image 0 u fun hmem => ne_true_of_eq_false hout (LaunchRec.mem_coreList.mp hmem).2
  case releases =>
    have hturns : ∀ n ∈ l.record.coreList, ¬ n < s.coreNo := fun n hn hlt =>
      have ⟨hn, hin⟩ := LaunchRec.mem_coreList.mp hn
      ne_true_of_eq_false (hturn n hlt hn) hin
    obtain ⟨hq, hk⟩ := State.launchOf_names hl
    obtain ⟨hreleased, hothers, hlaunches⟩ := releaseLaunch_spec l s
    rw [exec_taskRelease_of_due hl hr ht hturns]
    refine ⟨_, rfl, fun n hn hin => hreleased n (LaunchRec.mem_coreList.mpr ⟨hn, hin⟩), fun n _ hout => hothers n fun hmem => ?_, ?_⟩
    · obtain ⟨hn, hin⟩ := LaunchRec.mem_coreList.mp hmem
      exact hout.elim (fun h => absurd hn h.not_gt) fun h => ne_true_of_eq_false h hin
    · rw [hlaunches, hq, hk]

end Sys2Proof.Machine
end

section
/-! SUPPORT. Encoding and decoding, field by field (spec/03 R19 to R22): in every format the reader takes from an encoded word the
fields that were written, and the fields read from a word that meets its zero bits encode to that word again. -/
namespace Sys2Proof

/-! ## Fields of a word -/

/-- A bit of a word as a field of one bit. -/
theorem bit_getLsbD {n : Nat} (w : BitVec n) (i : Nat) : bit (w.getLsbD i) = w.extractLsb' i 1 := by
  ext j hj
  obtain rfl : j = 0 := by omega
  cases h : w.getLsbD i <;> simp [bit, h]

/-- A field of one bit reads as the Bool written. -/
@[simp] theorem getLsbD_bit (b : Bool) : (bit b).getLsbD 0 = b := by
  cases b <;> rfl

/-- A bit of a concatenation past its low part. -/
theorem getLsbD_append_of_le {n m i : Nat} {x : BitVec n} {y : BitVec m} (h : m ≤ i) : (x ++ y).getLsbD i = x.getLsbD (i - m) := by
  rw [BitVec.getLsbD_append, if_neg (Nat.not_lt.mpr h)]

/-- A bit of the low part of a concatenation. -/
theorem getLsbD_append_of_lt {n m i : Nat} {x : BitVec n} {y : BitVec m} (h : i < m) : (x ++ y).getLsbD i = y.getLsbD i := by
  rw [BitVec.getLsbD_append, if_pos h]

/-- The test that a field is zero, stated so that the zeros of an encoding turn into the field. -/
theorem zero_beq {n : Nat} {x : BitVec n} : (x == 0) = true ↔ 0 = x := by
  rw [beq_iff_eq, eq_comm]

/-- The test that a bit is zero, likewise. -/
theorem not_getLsbD {n i : Nat} {x : BitVec n} : (!x.getLsbD i) = true ↔ 0 = x.extractLsb' i 1 := by
  rw [← bit_getLsbD]
  cases x.getLsbD i <;> decide

/-- A reader answers the fields exactly when its zero bits are zero (R22). -/
theorem zeroBits_eq_ok {α : Type} {b : Bool} {f g : α} : zeroBits b f = .ok g ↔ b = true ∧ f = g := by
  cases b <;> simp [zeroBits]

/-- An answer passed through a function is an answer of the first part. -/
theorem map_eq_ok {ε α β : Type} {f : α → β} {x : Except ε α} {y : β} : x.map f = .ok y ↔ ∃ a, x = .ok a ∧ f a = y := by
  cases x <;> simp [Except.map]

/-- The check of forbidden values passes exactly what it accepts. -/
theorem bind_checkPayload_eq_ok {x : Except Reject View} {v : View} : x.bind checkPayload = .ok v ↔ x = .ok v ∧ v.ok = true := by
  cases x with
  | error r => simp [Except.bind]
  | ok u => by_cases h : u.ok <;> simp [Except.bind, checkPayload, h] <;> grind

/-! ## The formats of the S slot -/

/-- What a word holds, read in the format of a given S payload. -/
def SBody.readLike (w : BitVec 32) : SBody → Except Reject SBody
  | .rr _ => (readRR w).map .rr
  | .ri _ => (readRI w).map .ri
  | .li _ => (readLI w).map .li
  | .pl _ => (readPL w).map .pl
  | .bo _ => (readBO w).map .bo
  | .lp _ => (readLP w).map .lp
  | .sg _ => (readSG w).map .sg
  | .sr _ => (readSR w).map .sr
  | .wv _ => (readWV w).map .wv
  | .k _ => (readK w).map .k
  | .tc _ => (readTC w).map .tc
  | .gm _ => (readGM w).map .gm
  | .ga _ => (readGA w).map .ga
  | .gf _ => (readGF w).map .gf
  | .fw _ => (readFW w).map .fw

/-- An encoded S payload reads back in its format. -/
theorem SBody.readLike_encode (op : BitVec 7) (b : SBody) : b.readLike (encodeSBody op b) = .ok b := by
  cases b <;> simp (disch := decide) [SBody.readLike, zeroBits_eq_ok, map_eq_ok, encodeSBody, readRR, readRI, readLI, readPL,
    readBO, readLP, readSG, readSR, readWV, readK, readTC, readGM, readGA, readGF, readFW, guardS, SBody.guard,
    BitVec.extractLsb'_append_eq_of_le, BitVec.extractLsb'_append_eq_of_add_le, getLsbD_append_of_le,
    getLsbD_append_of_lt, -BitVec.getLsbD_eq_getElem, -Nat.reduceAdd]

/-- What is read from a word in a format encodes to the word. -/
theorem SBody.encode_of_readLike {w : BitVec 32} {b c : SBody} : b.readLike w = .ok c → encodeSBody (w.extractLsb' 25 7) c = w := by
  cases b
  all_goals
    simp only [SBody.readLike, map_eq_ok, readRR, readRI, readLI, readPL, readBO, readLP, readSG, readSR, readWV, readK, readTC,
      readGM, readGA, readGF, readFW, zeroBits_eq_ok, zero_beq, not_getLsbD, Except.ok.injEq, forall_exists_index, and_imp,
      forall_apply_eq_imp_iff, forall_eq']
    intros
    subst_vars
    simp (disch := decide) only [*, encodeSBody, SBody.guard, guardS, bit_getLsbD,
      BitVec.extractLsb'_append_extractLsb'_eq_extractLsb', -Nat.reduceAdd]
    exact BitVec.extractLsb'_eq_self

/-- The opcode field of an encoded S payload. -/
theorem opcode_encodeSBody (op : BitVec 7) (b : SBody) : (encodeSBody op b).extractLsb' 25 7 = op := by
  simp (disch := decide) only [encodeSBody, BitVec.extractLsb'_append_eq_of_le, -Nat.reduceAdd]
  exact BitVec.extractLsb'_eq_self

/-! ## The V payload -/

/-- An encoded V payload reads back. -/
theorem readV_encode (op : BitVec 7) (f : VOp) : readV (encodeVBody op f) = .ok f := by
  simp (disch := decide) [readV, encodeVBody, guardV, BitVec.extractLsb'_append_eq_of_le,
    BitVec.extractLsb'_append_eq_of_add_le, getLsbD_append_of_le, getLsbD_append_of_lt,
    -BitVec.getLsbD_eq_getElem, -Nat.reduceAdd]

/-- What is read from a V payload encodes to the word. -/
theorem encode_of_readV {w : BitVec 64} {f : VOp} (h : readV w = .ok f) : encodeVBody (w.extractLsb' 57 7) f = w := by
  cases h
  simp (disch := decide) only [encodeVBody, guardV, bit_getLsbD, BitVec.extractLsb'_append_extractLsb'_eq_extractLsb', -Nat.reduceAdd]
  exact BitVec.extractLsb'_eq_self

/-- The opcode field of an encoded V payload. -/
theorem opcode_encodeVBody (op : BitVec 7) (f : VOp) : (encodeVBody op f).extractLsb' 57 7 = op := by
  simp (disch := decide) only [encodeVBody, BitVec.extractLsb'_append_eq_of_le, -Nat.reduceAdd]
  exact BitVec.extractLsb'_eq_self

/-! ## The formats of the M slot -/

/-- What a word holds, read in the format of a given M payload. -/
def MBody.readLike (w : BitVec 64) : MBody → Except Reject MBody
  | .mp _ => (readMP w).map .mp
  | .gr _ => (readGR w).map .gr
  | .pl _ => (readMPL w).map .pl
  | .ls _ => (readLS w).map .ls
  | .ad _ => (readAD w).map .ad
  | .nt _ => (readNT w).map .nt
  | .fl _ => (readFL w).map .fl

/-- An encoded M payload reads back in its format. -/
theorem MBody.readLike_encode (op : BitVec 6) (b : MBody) : b.readLike (encodeMBody op b) = .ok b := by
  cases b <;> simp (disch := decide) [MBody.readLike, zeroBits_eq_ok, map_eq_ok, encodeMBody, readMP, readGR, readMPL, readLS,
    readAD, readNT, readFL, noPush, guardC, MBody.guard, BitVec.extractLsb'_append_eq_of_le,
    BitVec.extractLsb'_append_eq_of_add_le, getLsbD_append_of_le, getLsbD_append_of_lt,
    -BitVec.getLsbD_eq_getElem, -Nat.reduceAdd]

/-- The zeros of format NT are those of the push fields and three more (Table 13.7). -/
theorem zero_nt : (0 : BitVec 20) = (0 : BitVec 17) ++ (0 : BitVec 3) := rfl

/-- What is read from a word in a format encodes to the word. -/
theorem MBody.encode_of_readLike {w : BitVec 64} {b c : MBody} : b.readLike w = .ok c → encodeMBody (w.extractLsb' 58 6) c = w := by
  cases b
  all_goals
    simp only [MBody.readLike, map_eq_ok, readMP, readGR, readMPL, readLS, readAD, readNT, readFL, noPush, zeroBits_eq_ok,
      Bool.and_eq_true, zero_beq, not_getLsbD, forall_exists_index, and_imp, forall_apply_eq_imp_iff]
    intros
    subst_vars
    simp (disch := decide) only [*, encodeMBody, MBody.guard, guardC, bit_getLsbD, zero_nt,
      BitVec.extractLsb'_append_extractLsb'_eq_extractLsb', -Nat.reduceAdd]
    exact BitVec.extractLsb'_eq_self

/-- The opcode field of an encoded M payload. -/
theorem opcode_encodeMBody (op : BitVec 6) (b : MBody) : (encodeMBody op b).extractLsb' 58 6 = op := by
  simp (disch := decide) only [encodeMBody, BitVec.extractLsb'_append_eq_of_le, -Nat.reduceAdd]
  exact BitVec.extractLsb'_eq_self

/-! ## The formats of the C slots -/

/-- What a word holds, read in the format of a given C payload. -/
def CBody.readLike (w : BitVec 64) : CBody → Except Reject CBody
  | .t _ => (readT w).map .t
  | .l _ => (readL w).map .l
  | .r _ => (readR w).map .r
  | .w _ => (readW w).map .w
  | .gq _ => (readGQ w).map .gq
  | .q _ => (readQ w).map .q
  | .ks _ => (readKS w).map .ks
  | .kn _ => (readKN w).map .kn
  | .kz _ => (readKZ w).map .kz
  | .kr _ => (readKR w).map .kr
  | .kp _ => (readKP w).map .kp
  | .km _ => (readKM w).map .km
  | .kw _ => (readKW w).map .kw
  | .kg _ => (readKG w).map .kg
  | .kc _ => (readKC w).map .kc

/-- An encoded C payload reads back in its format. -/
theorem CBody.readLike_encode (op : BitVec 6) (b : CBody) : b.readLike (encodeCBody op b) = .ok b := by
  cases b <;> simp (disch := decide) [CBody.readLike, zeroBits_eq_ok, map_eq_ok, encodeCBody, readT, readL, readR, readW, readGQ,
    readQ, readKS, readKN, readKZ, readKR, readKP, readKM, readKW, readKG, readKC, guardC, CBody.guard, CBody.ch,
    BitVec.extractLsb'_append_eq_of_le, BitVec.extractLsb'_append_eq_of_add_le, getLsbD_append_of_le,
    getLsbD_append_of_lt, -BitVec.getLsbD_eq_getElem, -Nat.reduceAdd]

/-- What is read from a word in a format encodes to the word. -/
theorem CBody.encode_of_readLike {w : BitVec 64} {b c : CBody} : b.readLike w = .ok c → encodeCBody (w.extractLsb' 58 6) c = w := by
  cases b
  all_goals
    simp only [CBody.readLike, map_eq_ok, readT, readL, readR, readW, readGQ, readQ, readKS, readKN, readKZ, readKR, readKP,
      readKM, readKW, readKG, readKC, zeroBits_eq_ok, Bool.and_eq_true, zero_beq, not_getLsbD, Except.ok.injEq,
      forall_exists_index, and_imp, forall_apply_eq_imp_iff, forall_eq']
    intros
    subst_vars
    simp (disch := decide) only [*, encodeCBody, CBody.guard, CBody.ch, guardC, bit_getLsbD,
      BitVec.extractLsb'_append_extractLsb'_eq_extractLsb', -Nat.reduceAdd]
    exact BitVec.extractLsb'_eq_self

/-- The opcode field of an encoded C payload. -/
theorem opcode_encodeCBody (op : BitVec 6) (b : CBody) : (encodeCBody op b).extractLsb' 58 6 = op := by
  simp (disch := decide) only [encodeCBody, BitVec.extractLsb'_append_eq_of_le, -Nat.reduceAdd]
  exact BitVec.extractLsb'_eq_self

end Sys2Proof
end

section
/-! SUPPORT. The opcode tables of the decoder, the encoder and the operations agree (spec/03 R39, Tables 3.9 to 3.12). -/
namespace Sys2Proof

/-! ## From a word to the operation -/

/-- What the S table reads from a word encodes to it and, where no value is forbidden, is an operation. -/
theorem decodeSFields_ok {w : BitVec 32} {v : View} (h : decodeSFields w = .ok v) :
    v.encode = w.setWidth 64 ∧ (v.ok = true → ∃ i, v.instr = some i ∧ semaSubOk i = true ∧ i.view = v) := by
  suffices ∃ b, v = .s (w.extractLsb' 25 7).toNat b ∧ b.readLike w = .ok b ∧
      (v.ok = true → ∃ i, v.instr = some i ∧ semaSubOk i = true ∧ i.view = v) by
    obtain ⟨b, rfl, hread, hinstr⟩ := this
    refine ⟨?_, hinstr⟩
    rw [View.encode, BitVec.ofNat_toNat, BitVec.setWidth_eq, SBody.encode_of_readLike hread]
  have hop : (w.extractLsb' 25 7).toNat < 0x80 := BitVec.isLt _
  unfold decodeSFields at h
  dsimp only at h
  generalize (w.extractLsb' 25 7).toNat = op at *
  rcases eq_or_ne op 0x5D with rfl | hne
  · -- SEMA, one code for three operations (Table 24.7).
    obtain ⟨f, hf, rfl⟩ := map_eq_ok.mp h
    refine ⟨_, rfl, map_eq_ok.mpr ⟨f, hf, rfl⟩, fun hok => ?_⟩
    obtain ⟨g, d, a, b, sub⟩ := f
    have hsub : sub.toNat ≤ 2 := of_decide_eq_true (Bool.and_eq_true_iff.mp hok).2
    obtain rfl | rfl | rfl : sub = 0 ∨ sub = 1 ∨ sub = 2 := by bv_omega
    · exact ⟨_, rfl, rfl, rfl⟩
    · exact ⟨_, rfl, rfl, rfl⟩
    · exact ⟨_, rfl, rfl, rfl⟩
  · rcases Nat.lt_or_ge op 0x60 with hlt | hge
    · rcases Nat.lt_or_gt_of_ne hne with hbelow | habove <;> interval_cases op
      all_goals
        obtain ⟨f, hf, rfl⟩ := map_eq_ok.mp h
        exact ⟨_, rfl, map_eq_ok.mpr ⟨f, hf, rfl⟩, fun _ => ⟨_, rfl, rfl, rfl⟩⟩
    · interval_cases op <;> cases h

/-- What the V table reads from a word encodes to it and is an operation. -/
theorem decodeVFields_ok {w : BitVec 64} {v : View} (h : decodeVFields w = .ok v) :
    v.encode = w ∧ (v.ok = true → ∃ i, v.instr = some i ∧ semaSubOk i = true ∧ i.view = v) := by
  suffices ∃ f, v = .v (w.extractLsb' 57 7).toNat f ∧ readV w = .ok f ∧
      (v.ok = true → ∃ i, v.instr = some i ∧ semaSubOk i = true ∧ i.view = v) by
    obtain ⟨f, rfl, hread, hinstr⟩ := this
    refine ⟨?_, hinstr⟩
    rw [View.encode, BitVec.ofNat_toNat, BitVec.setWidth_eq, encode_of_readV hread]
  unfold decodeVFields at h
  dsimp only at h
  generalize (w.extractLsb' 57 7).toNat = op at *
  split at h
  next hlt =>
    obtain ⟨f, hf, rfl⟩ := map_eq_ok.mp h
    refine ⟨f, rfl, hf, fun _ => ?_⟩
    interval_cases op <;> exact ⟨_, rfl, rfl, rfl⟩
  next => cases h

/-- What the M table reads from a word encodes to it and is an operation. -/
theorem decodeMFields_ok {w : BitVec 64} {v : View} (h : decodeMFields w = .ok v) :
    v.encode = w ∧ (v.ok = true → ∃ i, v.instr = some i ∧ semaSubOk i = true ∧ i.view = v) := by
  suffices ∃ b, v = .m (w.extractLsb' 58 6).toNat b ∧ b.readLike w = .ok b ∧
      (v.ok = true → ∃ i, v.instr = some i ∧ semaSubOk i = true ∧ i.view = v) by
    obtain ⟨b, rfl, hread, hinstr⟩ := this
    refine ⟨?_, hinstr⟩
    rw [View.encode, BitVec.ofNat_toNat, BitVec.setWidth_eq, MBody.encode_of_readLike hread]
  have hop : (w.extractLsb' 58 6).toNat < 0x40 := BitVec.isLt _
  unfold decodeMFields at h
  dsimp only at h
  generalize (w.extractLsb' 58 6).toNat = op at *
  rcases Nat.lt_or_ge op 0x18 with hlt | hge
  · interval_cases op
    all_goals
      obtain ⟨f, hf, rfl⟩ := map_eq_ok.mp h
      exact ⟨_, rfl, map_eq_ok.mpr ⟨f, hf, rfl⟩, fun _ => ⟨_, rfl, rfl, rfl⟩⟩
  · interval_cases op <;> cases h

/-- What the C table reads from a word encodes to it and is an operation. -/
theorem decodeCFields_ok {w : BitVec 64} {v : View} (h : decodeCFields w = .ok v) :
    v.encode = w ∧ (v.ok = true → ∃ i, v.instr = some i ∧ semaSubOk i = true ∧ i.view = v) := by
  suffices ∃ b, v = .c (w.extractLsb' 58 6).toNat b ∧ b.readLike w = .ok b ∧
      (v.ok = true → ∃ i, v.instr = some i ∧ semaSubOk i = true ∧ i.view = v) by
    obtain ⟨b, rfl, hread, hinstr⟩ := this
    refine ⟨?_, hinstr⟩
    rw [View.encode, BitVec.ofNat_toNat, BitVec.setWidth_eq, CBody.encode_of_readLike hread]
  have hop : (w.extractLsb' 58 6).toNat < 0x40 := BitVec.isLt _
  unfold decodeCFields at h
  dsimp only at h
  generalize (w.extractLsb' 58 6).toNat = op at *
  rcases Nat.lt_or_ge op 0x20 with hlt | hge
  · interval_cases op
    all_goals
      obtain ⟨f, hf, rfl⟩ := map_eq_ok.mp h
      exact ⟨_, rfl, map_eq_ok.mpr ⟨f, hf, rfl⟩, fun _ => ⟨_, rfl, rfl, rfl⟩⟩
  · interval_cases op <;> cases h

/-- A payload accepted and read from its table is a well-formed operation. -/
theorem wellFormed_of_ok {v : View} (hok : v.ok = true)
    (h : v.ok = true → ∃ i, v.instr = some i ∧ semaSubOk i = true ∧ i.view = v) :
    v.ok = true ∧ ∃ i : Instr, v.instr = some i ∧ i.WellFormed ∧ i.view = v := by
  obtain ⟨i, hi, hsub, rfl⟩ := h hok
  exact ⟨hok, i, hi, Bool.and_eq_true_iff.mpr ⟨hsub, hok⟩, rfl⟩

/-! ## From an operation to its word -/

/-- The word of an S operation is read by the S table. -/
theorem decodeSFields_encode {i : Instr} {op : Nat} {b : SBody} (h : i.view = .s op b) :
    decodeSFields (encodeSBody (BitVec.ofNat 7 op) b) = .ok (.s op b) := by
  have hop := opcode_encodeSBody (BitVec.ofNat 7 op) b
  have hread := SBody.readLike_encode (BitVec.ofNat 7 op) b
  generalize encodeSBody (BitVec.ofNat 7 op) b = w at *
  unfold decodeSFields
  rw [hop]
  cases i <;> cases h
  all_goals
    simp only [SBody.readLike, map_eq_ok] at hread
    obtain ⟨f, hf, hb⟩ := hread
    exact map_eq_ok.mpr ⟨f, hf, congrArg _ hb⟩

/-- The word of a V operation is read by the V table. -/
theorem decodeVFields_encode {i : Instr} {op : Nat} {f : VOp} (h : i.view = .v op f) :
    decodeVFields (encodeVBody (BitVec.ofNat 7 op) f) = .ok (.v op f) := by
  have hop := opcode_encodeVBody (BitVec.ofNat 7 op) f
  have hread := readV_encode (BitVec.ofNat 7 op) f
  generalize encodeVBody (BitVec.ofNat 7 op) f = w at *
  unfold decodeVFields
  rw [hop, hread]
  cases i <;> cases h <;> rfl

/-- The word of an M operation is read by the M table. -/
theorem decodeMFields_encode {i : Instr} {op : Nat} {b : MBody} (h : i.view = .m op b) :
    decodeMFields (encodeMBody (BitVec.ofNat 6 op) b) = .ok (.m op b) := by
  have hop := opcode_encodeMBody (BitVec.ofNat 6 op) b
  have hread := MBody.readLike_encode (BitVec.ofNat 6 op) b
  generalize encodeMBody (BitVec.ofNat 6 op) b = w at *
  unfold decodeMFields
  rw [hop]
  cases i <;> cases h
  all_goals
    simp only [MBody.readLike, map_eq_ok] at hread
    obtain ⟨f, hf, hb⟩ := hread
    exact map_eq_ok.mpr ⟨f, hf, congrArg _ hb⟩

/-- The word of a C operation is read by the C table. -/
theorem decodeCFields_encode {i : Instr} {op : Nat} {b : CBody} (h : i.view = .c op b) :
    decodeCFields (encodeCBody (BitVec.ofNat 6 op) b) = .ok (.c op b) := by
  have hop := opcode_encodeCBody (BitVec.ofNat 6 op) b
  have hread := CBody.readLike_encode (BitVec.ofNat 6 op) b
  generalize encodeCBody (BitVec.ofNat 6 op) b = w at *
  unfold decodeCFields
  rw [hop]
  cases i <;> cases h
  all_goals
    simp only [CBody.readLike, map_eq_ok] at hread
    obtain ⟨f, hf, hb⟩ := hread
    exact map_eq_ok.mpr ⟨f, hf, congrArg _ hb⟩

/-- The word of a well-formed operation decodes in its slot to the operation's payload. -/
theorem decodeSlot_encode {i : Instr} {slot : Slot} (hw : i.WellFormed) (hs : i.view.homeSlot = some slot) :
    decodeSlot slot (encode i) = .ok i.view := by
  have hok : i.view.ok = true := (Bool.and_eq_true_iff.mp hw).2
  rw [encode]
  cases hv : i.view with
  | s op b =>
    cases hv ▸ hs
    rw [View.encode, decodeSlot, BitVec.setWidth_setWidth_of_le _ (by decide), BitVec.setWidth_eq]
    exact bind_checkPayload_eq_ok.mpr ⟨decodeSFields_encode hv, hv ▸ hok⟩
  | v op f =>
    cases hv ▸ hs
    exact bind_checkPayload_eq_ok.mpr ⟨decodeVFields_encode hv, hv ▸ hok⟩
  | m op b =>
    cases hv ▸ hs
    exact bind_checkPayload_eq_ok.mpr ⟨decodeMFields_encode hv, hv ▸ hok⟩
  | c op b =>
    cases hv ▸ hs
    exact bind_checkPayload_eq_ok.mpr ⟨decodeCFields_encode hv, hv ▸ hok⟩
  | event => cases hv ▸ hs

/-- The payload of a well-formed operation stands for that operation. -/
theorem instr_view {i : Instr} (hw : i.WellFormed) (hs : i.view.homeSlot.isSome = true) : i.view.instr = some i := by
  cases i
  case semaAcquire f => exact Laws.ReadsBack.semaAcquire f hw hs
  case semaRelease f => exact Laws.ReadsBack.semaRelease f hw hs
  case semaQuery f => exact Laws.ReadsBack.semaQuery f hw hs
  -- An event has no slot.
  all_goals cases hs
  all_goals rfl

end Sys2Proof
end

section
/-! Proof of the obligations O1, O2 and O3 (spec/03). -/
namespace Sys2Proof

/-- Settles O1: the word of the home slot decodes to the operation, and the second slot of a kind reads as the first. -/
theorem decodeEncode : Obligations.DecodeEncode := by
  unfold Obligations.DecodeEncode
  rintro i slot hw (hs | ⟨hs, rfl⟩ | ⟨hs, rfl⟩)
  · exact ⟨decodeSlot_encode hw hs, instr_view hw (by rw [hs]; rfl)⟩
  · exact ⟨decodeSlot_encode (slot := .v0) hw hs, instr_view hw (by rw [hs]; rfl)⟩
  · exact ⟨decodeSlot_encode (slot := .c0) hw hs, instr_view hw (by rw [hs]; rfl)⟩

/-- Settles O2: what each slot's table reads encodes to the word, and what passes the check is well formed. -/
theorem encodeDecode : Obligations.EncodeDecode := by
  unfold Obligations.EncodeDecode
  intro slot w v h
  cases slot
  case s =>
    obtain ⟨hread, hok⟩ := bind_checkPayload_eq_ok.mp h
    exact ⟨(decodeSFields_ok hread).1, wellFormed_of_ok hok (decodeSFields_ok hread).2⟩
  case v0 | v1 =>
    obtain ⟨hread, hok⟩ := bind_checkPayload_eq_ok.mp h
    exact ⟨(decodeVFields_ok hread).1, wellFormed_of_ok hok (decodeVFields_ok hread).2⟩
  case m =>
    obtain ⟨hread, hok⟩ := bind_checkPayload_eq_ok.mp h
    exact ⟨(decodeMFields_ok hread).1, wellFormed_of_ok hok (decodeMFields_ok hread).2⟩
  case c0 | c1 =>
    obtain ⟨hread, hok⟩ := bind_checkPayload_eq_ok.mp h
    exact ⟨(decodeCFields_ok hread).1, wellFormed_of_ok hok (decodeCFields_ok hread).2⟩

/-- Settles O3: each word is closed, and the decoder reads it. -/
theorem specWordsDecode : Obligations.SpecWordsDecode :=
  ⟨rfl, rfl, rfl, rfl, rfl, rfl, rfl, rfl, rfl, rfl, rfl, rfl, rfl, rfl, rfl⟩

end Sys2Proof
end

section
/-! SUPPORT. Registers written by a landing result (spec/05 R58, spec/09 R134, R135). -/
namespace Sys2Proof.Machine

/-! ## Lanes -/

/-- Bit `j` of the number that a list of lanes makes is the bit of its lane. -/
theorem testBit_foldr_lanes {j : Nat} (hj : j < 32) (l : List (BitVec 32)) (i : Nat) :
    (l.foldr (fun (x : BitVec 32) acc => acc * 2 ^ 32 + x.toNat) 0).testBit (32 * i + j) = (l[i]?.getD 0).getLsbD j := by
  induction l generalizing i with
  | nil => simp
  | cons x xs ih =>
    rw [List.foldr_cons, mul_comm, Nat.testBit_two_pow_mul_add _ x.isLt]
    cases i with
    | zero => simp [hj, BitVec.getLsbD]
    | succ i => rw [if_neg (by omega), show 32 * (i + 1) + j - 32 = 32 * i + j by omega, ih, List.getElem?_cons_succ]

/-- A lane of the vector of a list. -/
theorem lane_ofLanes (l : List (BitVec 32)) {i : Nat} (hi : i < 128) : lane (ofLanes l) i = l[i]?.getD 0 := by
  apply BitVec.eq_of_getLsbD_eq
  intro j hj
  rw [lane, ofLanes, BitVec.getLsbD_extractLsb', decide_eq_true hj, Bool.true_and, BitVec.getLsbD_ofNat,
    decide_eq_true (by omega), Bool.true_and, testBit_foldr_lanes hj]

/-- A lane of a merge is the new one where the mask selects it, else the old one. -/
theorem lane_mergeLanes (mask : BitVec 128) (new old : BitVec 4096) {i : Nat} (hi : i < 128) :
    lane (mergeLanes mask new old) i = if mask.getLsbD i then lane new i else lane old i := by
  unfold mergeLanes
  split
  next hall => rw [hall, BitVec.getLsbD_allOnes, decide_eq_true hi, if_pos rfl]
  next => rw [lane_ofLanes _ hi, List.getElem?_map, List.getElem?_range hi, Option.map_some, Option.getD_some]

/-! ## One register of a file -/

/-- An element that a vector has reads as set, or as before. -/
theorem vget_vset_of_lt {α : Type} {n : Nat} (v : Vector α n) (j : Nat) {k : Nat} (a d : α) (hk : k < n) :
    vget (vset v j a) k d = if k = j then a else vget v k d := by
  simp only [vget_vset, hk, and_true]

/-- A write of an x register other than x0. -/
theorem Bank.writeReg_x {n : Nat} (b : Bank) (v : BitVec 4096) (l : BitVec 128) (h : 0 < n) :
    b.writeReg ⟨.x, n⟩ v l = { b with x := vset b.x n (v.setWidth 64) } := if_neg h.ne'

/-- A write of a predicate other than p0. -/
theorem Bank.writeReg_p {n : Nat} (b : Bank) (v : BitVec 4096) (l : BitVec 128) (h : 0 < n) :
    b.writeReg ⟨.p, n⟩ v l = { b with p := if v.getLsbD 0 then b.p ||| (1#16 <<< n) else b.p &&& ~~~(1#16 <<< n) } := if_neg h.ne'

/-- A write of a mask register other than m0. -/
theorem Bank.writeReg_m {n : Nat} (b : Bank) (v : BitVec 4096) (l : BitVec 128) (h : 0 < n) :
    b.writeReg ⟨.m, n⟩ v l = { b with m := vset b.m n (v.setWidth 128) } := if_neg h.ne'

/-- A write of a vector register. -/
theorem Bank.writeReg_v (b : Bank) (n : Nat) (v : BitVec 4096) (l : BitVec 128) :
    b.writeReg ⟨.v, n⟩ v l = { b with v := vset b.v n (mergeLanes l v (vget b.v n 0)) } := rfl

/-- A predicate written: it holds the low bit of the value, the others are as before. -/
theorem getLsbD_writeReg_p {n : Nat} (b : Bank) (v : BitVec 4096) (l : BitVec 128) (h : 0 < n) {k : Nat} (hk : k < 16) :
    (b.writeReg ⟨.p, n⟩ v l).p.getLsbD k = if k = n then v.getLsbD 0 else b.p.getLsbD k := by
  rw [Bank.writeReg_p b v l h]
  have hbit : (1#16 <<< n).getLsbD k = decide (k = n) := by
    rw [BitVec.getLsbD_shiftLeft, BitVec.getLsbD_one]
    grind
  split
  next hv => rw [BitVec.getLsbD_or, hbit]; grind
  next hv => rw [BitVec.getLsbD_and, BitVec.getLsbD_not, hbit]; grind

/-- A result of a register other than a special one is written in the active bank. -/
theorem Core.landResult_of_register (c : Core) (f : InFlight) (h : f.reg.file ≠ .sr) :
    c.landResult f = c.setBank (c.bank.writeReg f.reg f.value f.lanes) := by
  unfold Core.landResult
  split
  next hsr => exact absurd hsr h
  next => rfl

end Sys2Proof.Machine
end

section
/-! Proof of the obligation O57 (spec/05 R58, spec/09 R135). -/
namespace Sys2Proof.Machine

/-- Settles O57: file by file, a set element of a vector reads back and the others stay. -/
theorem resultsLandInRegisters : Obligations.ResultsLandInRegisters := by
  unfold Obligations.ResultsLandInRegisters
  refine ⟨fun b v l n => ⟨rfl, rfl, rfl, fun h0 hn => ?x, fun h0 hn => ?p, fun h0 hn => ?m, fun hn => ?z, fun hn => ?v⟩,
    fun s => ⟨rfl, rfl, rfl⟩, Core.landResult_of_register⟩
  case x =>
    rw [Bank.writeReg_x b v l h0]
    exact ⟨rfl, fun k hk => vget_vset_of_lt _ _ _ _ hk⟩
  case p =>
    refine ⟨?_, fun k hk => getLsbD_writeReg_p b v l h0 hk⟩
    rw [Bank.writeReg_p b v l h0]
  case m =>
    rw [Bank.writeReg_m b v l h0]
    exact ⟨rfl, fun k hk => vget_vset_of_lt _ _ _ _ hk⟩
  case z => exact ⟨rfl, fun k hk => vget_vset_of_lt _ _ _ _ hk⟩
  case v =>
    refine ⟨rfl, fun k hk hne => ?others, fun i hi => ?lanes⟩
    case others => rw [Bank.writeReg_v, vget_vset, if_neg fun h => hne h.1]
    case lanes => rw [Bank.writeReg_v, vget_vset, if_pos ⟨rfl, hn⟩, lane_mergeLanes l v _ hi]

end Sys2Proof.Machine
end

section
/-! Proof of the obligation O55 (spec/03 R20, spec/06 R73). -/
namespace Sys2Proof.Machine

/-- What a guarded operation or a control flow answers where its guard fails. -/
theorem next_of_guard_false {g : Guard} {s t u : State} (h : s.holds g = false) :
    (.next (if s.holds g then t else u) : Out) = .next u := by
  rw [h, if_neg Bool.false_ne_true]

/-- A vector shift whose guard fails changes nothing, in either form of its count (R157). -/
theorem vShift_of_guard_false (f : VOp) (g : Nat → Nat → Nat → Nat) {s : State} (hg : s.holds f.g = false) :
    vShift f g s = .next s := by
  unfold vShift
  split
  · exact next_of_guard_false hg
  · exact next_of_guard_false hg

/-- An operation whose guard fails changes nothing, but that a control transfer or wait lets dispatch go on; LOOP and LOOPI pass
their body. -/
theorem exec_of_guard_false {i : Instr} {s : State} (hs : i.view.homeSlot.isSome = true) (hg : s.holds i.view.guard = false)
    (hloop : ∀ f, i ≠ .loop f) (hloopi : ∀ f, i ≠ .loopi f) :
    exec i s = .next (if (i.view.isControl || i.view.isWait) = true then s.fallThrough else s) := by
  cases i
  case loop f => exact absurd rfl (hloop f)
  case loopi f => exact absurd rfl (hloopi f)
  case br f | jmp f | call f | ret f | lbrk f | halt f | trap f | brk f | sync f | mwait f =>
    exact (next_of_guard_false hg).trans (congrArg _ (if_pos rfl).symm)
  case vshl f => exact (vShift_of_guard_false f shlEl hg).trans (congrArg _ (if_neg Bool.false_ne_true).symm)
  case vshr f => exact (vShift_of_guard_false f shrEl hg).trans (congrArg _ (if_neg Bool.false_ne_true).symm)
  case vsha f => exact (vShift_of_guard_false f shaEl hg).trans (congrArg _ (if_neg Bool.false_ne_true).symm)
  -- An event has no slot.
  all_goals cases hs
  all_goals exact (next_of_guard_false hg).trans (congrArg _ (if_neg Bool.false_ne_true).symm)

/-- Settles O55: every operation begins with its guard. -/
theorem falsePredicateDoesNothing : Obligations.FalsePredicateDoesNothing := by
  unfold Obligations.FalsePredicateDoesNothing
  refine fun i s hs hg => ⟨fun hc => ?_, fun hc hloop hloopi => ?_⟩
  · have hcontrol {j : Instr} (hj : (j.view.isControl || j.view.isWait) = true) : i ≠ j := by
      rintro rfl
      cases hj.symm.trans hc
    rw [exec_of_guard_false hs hg (fun f => hcontrol rfl) fun f => hcontrol rfl, hc, if_neg Bool.false_ne_true]
  · rw [exec_of_guard_false hs hg hloop hloopi, if_pos hc]

end Sys2Proof.Machine
end

section
/-! SUPPORT. Dispatch, one equation for each way it can end, and what one bundle issue leaves in the bank (spec/03 R17, R23 to R29,
R37). -/
namespace Sys2Proof.Machine

/-! ## The ways dispatch ends -/

/-- Dispatch that is not held is in no gap. -/
theorem gap_of_mayDispatch {s : State} (hs : mayDispatch s = true) : s.bank.gap = 0 := by
  simp only [mayDispatch, Bool.and_eq_true, beq_iff_eq] at hs
  grind

section May
variable {s : State} (hs : mayDispatch s = true) (hu : mayDispatch (passEndIfDue s) = true)
include hs hu

/-- An illegal bundle is noted with its cause. -/
theorem dispatch_of_illegal {cause : BitVec 8} {slots : BitVec 6}
    (hi : illegalCause (passEndIfDue s).core (passEndIfDue s).bank = some (cause, slots)) :
    dispatch s = (passEndIfDue s).modBank fun b => { b with illegal := some ⟨cause, slots, b.pc, b.rep⟩ } := by
  simp only [dispatch, gap_of_mayDispatch hs, hs, hu, hi, ne_eq, not_true_eq_false, if_false, Bool.not_true, Bool.false_eq_true]

/-- A control transfer in a loop body is noted with cause 0x13. -/
theorem dispatch_of_broken (hi : illegalCause (passEndIfDue s).core (passEndIfDue s).bank = none)
    (hb : bodyBroken (passEndIfDue s).core (passEndIfDue s).bank = true) :
    dispatch s = (passEndIfDue s).modBank fun b => { b with illegal := some ⟨0x13, slotMask .s, b.pc, b.rep⟩ } := by
  simp only [dispatch, gap_of_mayDispatch hs, hs, hu, hi, hb, ne_eq, not_true_eq_false, if_false, if_true, Bool.not_true,
    Bool.false_eq_true]

/-- A legal bundle is dispatched. -/
theorem dispatch_of_legal (hi : illegalCause (passEndIfDue s).core (passEndIfDue s).bank = none)
    (hb : bodyBroken (passEndIfDue s).core (passEndIfDue s).bank = false) : dispatch s = dispatchOne (passEndIfDue s) := by
  simp only [dispatch, gap_of_mayDispatch hs, hs, hu, hi, hb, ne_eq, not_true_eq_false, if_false, Bool.not_true,
    Bool.false_eq_true]

end May

/-! ## One bundle issue -/

/-- A bank in which a slot's queue has received its entry of a bundle issue, as the bank `a` stood before. -/
def Bank.receive (c : Core) (a : Bank) (h : Header) (b : Bank) (t : Slot) : Bank :=
  { (b.setQueue t (b.queue t ++ [makeEntry a h t (c.given a h t)])) with
    rem := vset b.rem (5 - t.presBit) (rememberAfter (vget b.rem (5 - t.presBit) none) t (c.given a h t)) }

/-- What dispatch waits for after a bundle whose S operation is given (R27). -/
def holdAfter (seq : Nat) (op : Option View) : DHold :=
  match op with
  | some v => if v.isControl then .control seq else if v.isWait then .wait seq else .free
  | none => .free

/-- The bank in which dispatch of a bundle puts its entries: what the SYNC field orders is taken in first (R44). -/
def Bank.ordered (b : Bank) (h : Header) : Bank := { b with ioS := ioAfter b.seqNext h.sync b.ioS }

/-- The bank after one bundle issue. -/
theorem dispatchOne_eq (s : State) :
    let h := s.core.header s.bank
    let a := s.bank.ordered h
    dispatchOne s = s.setBank { allSlots.foldl (Bank.receive s.core a h) a with
      seqNext := s.bank.seqNext + 1, hold := holdAfter s.bank.seqNext (s.core.sOp s.bank),
      pc := if s.bank.rep == h.rpt.toNat then s.bank.pc + h.len else s.bank.pc,
      rep := if s.bank.rep == h.rpt.toNat then 0 else s.bank.rep + 1 } := rfl

/-- Entries received change the queues and the remembered operations alone. -/
theorem Bank.foldl_receive (c : Core) (a : Bank) (h : Header) (l : List Slot) (b : Bank) :
    l.foldl (Bank.receive c a h) b =
      { b with queues := (l.foldl (Bank.receive c a h) b).queues, rem := (l.foldl (Bank.receive c a h) b).rem } := by
  induction l generalizing b with
  | nil => rfl
  | cons t ts ih => rw [List.foldl_cons, ih]; rfl

/-- A slot's queue takes its own entry and no other. -/
theorem Bank.queue_receive (c : Core) (a : Bank) (h : Header) (b : Bank) (t slot : Slot) :
    (Bank.receive c a h b t).queue slot = b.queue slot ++ if slot = t then [makeEntry a h t (c.given a h t)] else [] := by
  have hq : (Bank.receive c a h b t).queue slot = (b.setQueue t (b.queue t ++ [makeEntry a h t (c.given a h t)])).queue slot := rfl
  rw [hq, Bank.queue_setQueue]
  split
  next hst => rw [hst]
  next => rw [List.append_nil]

/-- Of the six entries of a bundle issue every queue takes the one of its slot. -/
theorem Bank.queue_foldl_receive (c : Core) (a : Bank) (h : Header) (b : Bank) (slot : Slot) :
    (allSlots.foldl (Bank.receive c a h) b).queue slot = b.queue slot ++ [makeEntry a h slot (c.given a h slot)] := by
  simp only [allSlots, List.foldl_cons, List.foldl_nil, Bank.queue_receive]
  cases slot <;> simp

end Sys2Proof.Machine
end

section
/-! Proof of the obligation O54 (spec/03 R17, R23 to R29, R37). -/
namespace Sys2Proof.Machine

/-- Settles O54: dispatch ends by the cause of the bundle, and a legal one gives each queue its entry. -/
theorem dispatchQueuesTheBundle : Obligations.DispatchQueuesTheBundle := by
  unfold Obligations.DispatchQueuesTheBundle
  intro s hs u b c h hu
  refine ⟨fun cause slots hi => dispatch_of_illegal hs hu hi, dispatch_of_broken hs hu, fun hi hb => ?_⟩
  intro t a
  have hbank : t = { allSlots.foldl (Bank.receive c a h) a with
      seqNext := b.seqNext + 1, hold := holdAfter b.seqNext (c.sOp b),
      pc := if b.rep == h.rpt.toNat then b.pc + h.len else b.pc, rep := if b.rep == h.rpt.toNat then 0 else b.rep + 1 } :=
    (congrArg State.bank ((dispatch_of_legal hs hu hi hb).trans (dispatchOne_eq u))).trans (State.bank_setBank _ _)
  have hspad : (dispatch s).core.spad = c.spad := by
    rw [dispatch_of_legal hs hu hi hb, dispatchOne_eq, State.setBank_core, Core.setBank_spad]
  have hqueue (slot : Slot) : t.queue slot = b.queue slot ++ [makeEntry a h slot (c.given b h slot)] := by
    rw [hbank]
    exact Bank.queue_foldl_receive c a h a slot
  rw [Bank.foldl_receive] at hbank
  refine ⟨hqueue, ?ioS, ?seqNext, fun hrep => ?last, fun hrep => ?repeats, fun v hv hc => ?control, fun v hv hc hw => ?wait, ?_, ?_, ?_, ?_,
    hspad⟩
  case last => rw [hbank, hrep, beq_self_eq_true, if_pos rfl, if_pos rfl]; exact ⟨rfl, rfl⟩
  case repeats => rw [hbank, beq_false_of_ne hrep]; exact ⟨rfl, rfl⟩
  case control => rw [hbank, hv]; exact if_pos hc
  case wait => rw [hbank, hv]; exact (if_neg (ne_true_of_eq_false hc)).trans (if_pos hw)
  -- Nothing else of the bank is the entries' to change.
  all_goals rw [hbank]

end Sys2Proof.Machine
end

section
/-! SUPPORT. Events of the sequencer (spec/03 R24, R29, R31, R34; spec/06 R74): entries without an operation, the sticky re-issue,
accesses that the home slice serves, and the single step. -/
namespace Sys2Proof.Machine

/-! ## Entries at the head of a queue (R24, R29) -/

section Entry
variable {s : State} {slot : Slot} {e : Entry} {q : List Entry} (hq : s.bank.queue slot = e :: q) (hr : slotReady s slot = true)
include hq hr

/-- A ready idle entry leaves its queue. -/
theorem exec_idleEntry_of_ready (ho : e.op = none) : exec (.idleEntry slot) s = .next (s.modBank fun b => b.setQueue slot q) := by
  simp only [exec_idleEntry, execIdleEntry, hq, ho, hr, Option.isNone_none, Bool.and_self, if_true]

/-- A ready sticky entry runs a remembered operation that makes no event, from its seat. -/
theorem exec_stickyReissue_of_ready (hs : e.sticky = true) {i : Instr} (ho : e.op = some i.view) (hw : i.WellFormed)
    (hi : i.view.homeSlot.isSome = true) (hj : i.view.makesEvents = false) :
    exec (.stickyReissue slot) s = exec i ((s.modBank fun b => b.setQueue slot q).seat slot e) := by
  obtain ⟨home, hhome⟩ := Option.isSome_iff_exists.mp hi
  have hfix : (fun b : Bank => b.fixJoins e i.view) = fun b => b := funext fun b => by rw [Bank.fixJoins, hj]; rfl
  simp only [exec_stickyReissue, execStickyReissue, issueHead, hq, hs, hr, ho, Bool.and_self, if_true, hfix, State.modBank_id]
  exact runView_eq_exec _ hw hhome

end Entry

/-! ## Results that land (R31, R34) -/

/-- The first result of its register lands. -/
theorem exec_resultLand_of_first {s : State} {k : Nat} {f : InFlight} (h : s.bank.inflight[k]? = some f)
    (hf : ∀ g ∈ s.bank.inflight.take k, g.reg ≠ f.reg) : exec (.resultLand k) s =
      .next ((s.modBank fun b => { b with inflight := b.inflight.eraseIdx k }).modCore fun c => c.landResult f) := by
  have hany : (s.bank.inflight.take k).any (fun g => g.reg == f.reg) = false :=
    List.any_eq_false.mpr fun g hg => by simpa using hf g hg
  simp only [exec_resultLand, execResultLand, h, hany, Bool.false_eq_true, if_false]

/-- A tracked value lands. -/
theorem exec_trackedResultLand_of_value {s : State} {k : Nat} {t : Tracked} {v : BitVec 512} (h : s.bank.tracked[k]? = some t)
    (hv : t.kind = .value v) : exec (.trackedResultLand k) s =
      .next (s.modBank fun b => landTracked { b with tracked := b.tracked.eraseIdx k } t) := by
  simp only [exec_trackedResultLand, execTrackedResultLand, h, hv]

/-- A tracked access performs. -/
theorem exec_trackedResultLand_of_access {s : State} {k : Nat} {t : Tracked} {a : GAccess} (h : s.bank.tracked[k]? = some t)
    (ha : t.kind = .access a) : exec (.trackedResultLand k) s = .next (performAccess s.core.cur a s) := by
  simp only [exec_trackedResultLand, execTrackedResultLand, h, ha]

/-- A posted access performs. -/
theorem exec_postedStorePerform_of_posted {s : State} {k : Nat} {a : GAccess} (h : s.bank.posted[k]? = some a) :
    exec (.postedStorePerform k) s = .next (performAccess s.core.cur a s) := by
  simp only [exec_postedStorePerform, execPostedStorePerform, h]

/-! ## Accesses of a line that the home slice holds (R315, R329) -/

section Home
variable {s : State} {who : Asker} {line : Nat} {x : SliceLine} {fill : Bool} (hx : s.sliceLine line = some x)
include hx

/-- The home slice serves a read from any copy it holds. -/
theorem homeAccess_read_of_held (hreq : s.request (.home false) who line = none) :
    homeAccess (.home false) who line .read fill s = (.ready x.data x.poison, s) := by
  simp only [homeAccess, hreq, State.sliceState, hx, Option.map_some, HomeOp.hits, if_true, homeAct, State.homeData,
    Option.isSome_some]

/-- The home slice takes written bytes in a copy it holds modified; a full line clears poison (R320). -/
theorem homeAccess_write_of_modified {off : Nat} {bytes : List (BitVec 8)} (hreq : s.request (.home true) who line = none)
    (hd : x.st = .d) : homeAccess (.home true) who line (.write off bytes false) fill s =
      (.ready x.data x.poison,
        (s.setSlice { x with data := pokeLine x.data off bytes, poison := x.poison && !(bytes.length == 128) }).monTouch line) := by
  simp [homeAccess, hreq, State.sliceState, hx, hd, HomeOp.hits, homeAct, State.homeData, State.homeStore]

end Home

/-- An address of HBM is no device memory. -/
theorem deviceAddr_of_hbm {pa : Nat} (hr : rangeOf (localOf pa) = .hbm) : deviceAddr pa = false := by
  rw [deviceAddr, hr]
  rfl

section Access
variable {s : State} {a : GAccess} {pa : Nat} {x : SliceLine} (hp : a.phase = .ready pa 0) (hb : s.bank.blocked a = false)
  (hdev : devOf pa = s.devId) (hr : rangeOf (localOf pa) = .hbm) (hx : s.sliceLine (lineOf pa) = some x)
  (hreq : ∀ b, s.request (.home b) (s.askerOf s.core.cur a) (lineOf pa) = none)
include hp hb hdev hr hx hreq

/-- A load that nothing holds back lands the bytes of an unpoisoned line that the home slice holds. -/
theorem performAccess_load_of_held (hk : a.kind = .load) (hc : x.poison = false) :
    performAccess s.core.cur a s = s.landAccess s.core.cur a.id (readBytes x.data pa a.n) := by
  have hb' : (s.bankOf s.core.cur).blocked a = false := hb
  simp only [performAccess, hp, hb', hk, performLoad, deviceAddr_of_hbm hr, lineRead, hdev, hr,
    homeAccess_read_of_held hx (hreq false), takeReply, hc, Bool.false_eq_true, if_false, if_true]

/-- A store that nothing holds back performs in a line that the home slice holds modified. -/
theorem performAccess_store_of_modified (hk : a.kind = .store) (hd : x.st = .d) :
    performAccess s.core.cur a s = ((s.setSlice { x with
      data := pokeLine x.data (pa % 128) (leBytes a.n a.data.toNat),
      poison := x.poison && !((leBytes a.n a.data.toNat).length == 128) }).monTouch (lineOf pa)).dropAccess s.core.cur a.id := by
  have hb' : (s.bankOf s.core.cur).blocked a = false := hb
  simp only [performAccess, hp, hb', hk, performStore, deviceAddr_of_hbm hr, lineWrite, hdev, hr,
    homeAccess_write_of_modified hx (hreq true) hd, takeReply, Bool.false_eq_true, if_false, if_true]

end Access

/-! ## The single step (R74) -/

/-- The end of a pass leaves a core that issues issuing. -/
theorem issues_passEndIfDue {s : State} (h : s.core.run = .running ∨ s.core.run = .draining) :
    (passEndIfDue s).core.run = .running ∨ (passEndIfDue s).core.run = .draining := by
  unfold passEndIfDue
  dsimp only
  split
  · simp only [passEnd]
    split_ifs <;> simp [h, State.beginDrain]
  · exact h

/-- A core whose single step is due issues. -/
theorem issues_of_stepDue {s : State} (h : stepDue s = true) : s.core.run = .running ∨ s.core.run = .draining := by
  have hi : s.core.run.issues = true := by
    simp only [stepDue, Bool.and_eq_true] at h
    tauto
  cases hr : s.core.run <;> simp_all [Run.issues]

/-- A step that is due traps 0x17 and names the bundle that dispatch takes next. -/
theorem exec_singleStepTrap_of_due {s : State} (hd : stepDue s = true) :
    let b := (passEndIfDue s).bank
    Answers (exec .singleStepTrap s) fun t => t.core.run = .freezing ∧ t.core.trap = some
      ⟨0x17, .atIssue, 0, b.pc, b.rep, Config.unstated 0x17 0, b.stepIds.extractLsb' 0 64, b.stepIds.extractLsb' 64 64⟩ := by
  intro b
  simp only [exec_singleStepTrap, execSingleStepTrap, hd, Bool.not_true, Bool.false_eq_true, if_false]
  refine ⟨_, rfl, ?_⟩
  rw [State.takeTrap, State.takeTrapIn_of_issues]
  · exact ⟨rfl, rfl⟩
  · simpa using issues_passEndIfDue (issues_of_stepDue hd)

end Sys2Proof.Machine
end

section
/-! Proof of the obligation O38 (spec/03 R23 to R34, spec/06 R74). -/
namespace Sys2Proof.Machine

/-- Settles O38: each event's equation where it may happen. -/
theorem sequencerEventsAct : Obligations.SequencerEventsAct := by
  unfold Obligations.SequencerEventsAct
  refine ⟨fun s slot e q hq hr => ⟨exec_idleEntry_of_ready hq hr, fun hs f ho hg => ?sticky⟩, fun s hs ht hi hb => ?dispatch,
    fun s k f => exec_resultLand_of_first, fun s k t v => exec_trackedResultLand_of_value,
    fun s k a pa x hp hb hdev hr hx hreq => ⟨fun t ht ha hk hc => ?load, fun ha hk hd => ?store⟩, fun s hd => ?step⟩
  case sticky =>
    rw [exec_stickyReissue_of_ready hq hr hs ho rfl rfl rfl]
    exact (aluResults f _ hg).1
  case dispatch => rw [exec_bundleDispatch, execBundleDispatch, dispatch_of_legal hs ht hi hb]
  case load => rw [exec_trackedResultLand_of_access ht ha, performAccess_load_of_held hp hb hdev hr hx hreq hk hc]
  case store => rw [exec_postedStorePerform_of_posted ha, performAccess_store_of_modified hp hb hdev hr hx hreq hk hd]
  case step =>
    obtain ⟨t, ht, hrun, htrap⟩ := exec_singleStepTrap_of_due hd
    exact ⟨t, ht, hrun, _, htrap⟩

end Sys2Proof.Machine
end
